-- ==== Sys2Proof/Word.lean ====
section
/-! DEFINITION. The words of the block: the 64-bit Pacer count, and the aliases under which the spec's bytes and bit patterns are held as natural numbers below their width. -/

namespace Sys2Proof

/-- The Pacer count of R19: 64 bits, one per tick of 6.25 ns. -/
abbrev Count64 := BitVec 64

/-- A byte on a bus or in a datagram, 0 to 255. -/
abbrev Octet := Nat

/-- The bit pattern of an object of R25 or R41, below 2 to the width of its type. -/
abbrev Pattern := Nat

/-- The position of an object in the dictionary (R39): index × 256 + subindex. -/
abbrev ObjKey := Nat

/-- A 32-bit fault message of R331. -/
abbrev Message := Nat

end Sys2Proof
end

