-- ==== Sys2Proof/Config.lean ====
section
/-! DEFINITION. What one chip fixes (its serial number, die steps, versions) and the values the spec leaves open. Every constant here is opaque: nothing in Lean can evaluate it, so every statement holds for every value. -/

namespace Sys2Proof.Config

/-- FREE VALUE: the n-th value that the spec leaves open; the machine counts n in `Device.fresh`. [log 4: DESIGN CHOICE] -/
opaque freeWord : Nat → BitVec 64

/-- `DEV_SERIAL`, the factory serial number in OTP bank 0 (R59, Table 6.1). The spec gives no number. [log 6: DESIGN CHOICE] -/
opaque serial : BitVec 64

/-- `DEV_SILICON`, the die steps (R59). The spec gives no number. [log 6: DESIGN CHOICE] -/
opaque silicon : BitVec 16

/-- `DEV_ROM_VERSION` (R59). The spec gives no number. [log 6: DESIGN CHOICE] -/
opaque romVersion : BitVec 32

/-- `DEV_DICT_VERSION` (R59). The spec gives no number. [log 6: DESIGN CHOICE] -/
opaque dictVersion : BitVec 16

/-- The boot ROM's bytes by offset (Table 18.5), which the spec does not give. [log 6: DESIGN CHOICE] -/
opaque romByte : Nat → Nat

/-- SHA-256 (FIPS 180-4), which R391 names and does not restate: digest bytes of a byte string. [log 5: DESIGN CHOICE] -/
opaque sha256 : List Nat → List Nat

/-- AES-CMAC (NIST SP 800-38B), named by R374: key bytes, message bytes, tag bytes. [log 5: DESIGN CHOICE] -/
opaque cmac : List Nat → List Nat → List Nat

/-- ECDSA P-256 verification, named by R391: public key, message, signature. [log 5: DESIGN CHOICE] -/
opaque ecdsaVerify : List Nat → List Nat → List Nat → Bool

/-- ECDSA P-256 signature by a private key held in the slot, with the random value of the DRBG: key, message, randomness, signature. [log 5: DESIGN CHOICE] -/
opaque ecdsaSign : List Nat → List Nat → List Nat → List Nat

/-- The public key of a private key on P-256. [log 5: DESIGN CHOICE] -/
opaque p256Public : List Nat → List Nat

/-- Static ECDH on P-256: private key, public key, shared secret. [log 5: DESIGN CHOICE] -/
opaque ecdh : List Nat → List Nat → List Nat

/-- AES key wrap (SP 800-38F): wrapping key, the bytes, the wrapped bytes. [log 5: DESIGN CHOICE] -/
opaque keyWrap : List Nat → List Nat → List Nat

/-- AES key unwrap (SP 800-38F): wrapping key, wrapped bytes, the key or none where the integrity check fails. [log 5: DESIGN CHOICE] -/
opaque keyUnwrap : List Nat → List Nat → Option (List Nat)

/-- The n-th output of the Vault's DRBG, as bytes: a free value. [log 5: DESIGN CHOICE] -/
opaque random : Nat → List Nat

/-- The Decfel firmware key and the Decfel Farrier key in the boot ROM (R407, R414), as 64 bytes each. [log 6: DESIGN CHOICE] -/
opaque firmwareKey : List Nat

/-- See `firmwareKey`. [log 6: DESIGN CHOICE] -/
opaque farrierKey : List Nat

/-- `VLT_DEV_CERT` as the factory writes it. [log 6: DESIGN CHOICE] -/
opaque deviceCert : List Nat

/-- The SHA-256 of boot ROM and Vault ROM is over bytes the spec does not give; this is Vault ROM. [log 6: DESIGN CHOICE] -/
opaque vaultRom : List Nat

/-- The private scalar of slot 0, OTP bank 4 words 0 to 7 (R400), as the factory writes it. [log 6: DESIGN CHOICE] -/
opaque deviceKey : List Nat

/-- The firmware image that the factory leaves in bank A, by offset from the start of the bank: the spec gives no image. [log 6: DESIGN CHOICE] -/
opaque factoryImage : Nat → Nat

/-- FW_VERSION of the factory's firmware, and the bytes after its header. [log 6: DESIGN CHOICE] -/
opaque factoryVersion : BitVec 32

/-- See `factoryVersion`. [log 6: DESIGN CHOICE] -/
opaque factoryLength : Nat

/-- The factory's gain (GAIN16) of calibration channel j (R114): the spec gives no number. [log 6: DESIGN CHOICE] -/
opaque factoryGain : Nat → BitVec 16

/-- The factory's offset (FRAC16) of calibration channel j (R114): the spec gives no number. [log 6: DESIGN CHOICE] -/
opaque factoryOffset : Nat → BitVec 16

/-- The die temperature during factory calibration (TEMP16). [log 6: DESIGN CHOICE] -/
opaque factoryTemp : BitVec 16

/-- The FW_VERSIONs that the validation names (R394). [log 6: DESIGN CHOICE] -/
opaque validated : Nat → Bool

/-- The factory offset O_s of slice s in OTP bank 3 (R174): FRAC16. The spec gives no layout of the bank and no number. [log 6: DESIGN CHOICE] -/
opaque sliceOffset : Nat → BitVec 16

/-- The factory gain G_s of slice s in OTP bank 3 (R174): GAIN16. The spec gives no layout of the bank and no number. [log 6: DESIGN CHOICE] -/
opaque sliceGain : Nat → BitVec 16

end Sys2Proof.Config
end

