-- ==== Sys2Proof/Syntax.lean ====
section
/-! DEFINITION. The commands of the block: one constructor of `Instr` per row of the opcode table, with the operands its sender gives. A row that is an event carries what was measured at that event. -/

namespace Sys2Proof

/-- The ports of R390, in the order of their numbers. -/
inductive Port where
  | t1s | can | lin | spi
  deriving DecidableEq, Repr

/-- Who sends a dictionary request: the port it came in on, the source node number, and the session number it carries (0 for none). -/
structure Requester where
  port    : Port
  node    : Nat
  session : Nat
  deriving DecidableEq, Repr

/-- An end of the Girth link. -/
inductive LinkSide where
  | rider | saddle
  deriving DecidableEq, Repr

/-- A 10BASE-T1S frame that carries no KLP datagram (Table 19.1): ARP request, ICMP echo, ICMPv6 echo, neighbour solicitation, 802.1AS Announce, or one outside the supported parts. -/
inductive EthKind where
  | arp | echo | echo6 | ndp | announce | unsupported
  deriving DecidableEq, Repr

/-- A wake source of Table 5.5 that fires: the WAKE pin with what it did (0 a rising edge, 1 a falling edge, 2 a high level, the coding of `SUP_WAKE_PIN_MODE`), the CAN FD port, the LIN port or the host SPI port. -/
inductive WakeSource where
  | pin (did : Fin 3)
  | canFd | lin | hostSpi
  deriving DecidableEq, Repr

/-- What a monitor of a leg sees beyond its threshold: `acts` for its whole filter time, so that it acts (R128, R129); before that its source is active and no more (R133). -/
structure LegSeen where
  leg  : Fin 24
  acts : Bool
  deriving DecidableEq, Repr

/-- The slice that completes a conversion, and the fine step of the present tick at which it does (R168). -/
structure SliceEnd where
  slice : Fin 8
  fine  : Fin 32
  deriving DecidableEq, Repr

/-- The filtered levels of an encoder's pins A and B (R246). -/
structure Quadrature where
  a : Bool
  b : Bool
  deriving DecidableEq, Repr

/-- What a slice sends: a raw code, or none where the result arrived with a parity error (R7). -/
abbrev SliceResult := Option Int

/-- One entry of a WRITE_MULTI: position of the object and its value bytes (R47). -/
structure WriteEntry where
  key   : ObjKey
  bytes : List Octet
  deriving DecidableEq, Repr

end Sys2Proof

namespace Sys2Proof.Machine

/-- A block with Staged objects and a commit object (R50): bases, hitch, edge placer, front ends, control engine, field engine, start procedure, profile generator, interpolator, services, reins, thermal manager, networks. -/
inductive Block where
  | base (n : Fin 8)
  | hitch
  | edp (n : Fin 8)
  | frontEnd
  | ce (n : Fin 8)
  | fe (n : Fin 8)
  | st (n : Fin 8)
  | prf (n : Fin 8)
  | interp
  | svc
  | rein
  | thm
  | net
  deriving DecidableEq, Repr

end Sys2Proof.Machine

namespace Sys2Proof

open Machine (Block)

/-- The commands. [log 3: DESIGN CHOICE] -/
inductive Instr where
  /-- GIRTH_FRAME_RX (R9): A Girth frame is received whole on either end and checked for CRC, alive sequence and type; it is accepted with an ACK or refused with a NAK. -/
  | girthFrameRx (side : LinkSide) (bytes : List Octet)
  /-- GIRTH_IDLE_TIMER (R9): A sender that has sent nothing for 5 µs sends an IDLE frame. -/
  | girthIdleTimer (side : LinkSide)
  /-- GIRTH_ACK_TIMEOUT (R9): No ACK arrives within 2 µs, or a NAK arrives, so the frame is resent under a new ALIVE value; after three failed resends the link is declared down. -/
  | girthAckTimeout (side : LinkSide)
  /-- GIRTH_RX_SILENCE (R9): A receiver hears no valid frame for 20 µs, declares the link down and posts kind 0x04. -/
  | girthRxSilence (side : LinkSide)
  /-- GIRTH_RESTART_TIMER (R10): Every 1 µs during a restart, the declaring end sends a restart frame. -/
  | girthRestartTimer (side : LinkSide)
  /-- GIRTH_RESTART_FRAME_RX (R10): A restart frame is received and is either taken as the other end's declaration or counted toward the 32 frames of a restart. -/
  | girthRestartFrameRx (side : LinkSide) (bytes : List Octet)
  /-- PACER_STROBE (R9): At every Pacer count that is a multiple of 256 ticks, the Rider sends a strobe pulse to the Saddle. -/
  | pacerStrobe
  /-- STROBE_LOST (R9): The Saddle sees no strobe for 8 µs, latches every leg, sets STROBE_LOST and posts PAC kind 0x42. -/
  | strobeLost
  /-- LOCKSTEP (R13): A Teamster lockstep mismatch resets the Teamster pair and takes every enabled axis to its safe state. -/
  | lockstep
  /-- TEAMSTER_RESTARTED (R13): The Teamster pair serves requests again after its restart, with every axis disabled. -/
  | teamsterRestarted
  /-- HANDSHAKE_STALL (R14): A request–acknowledge channel is unacknowledged for 2,048 ticks and kind 0x03 is posted; a Groom channel stall resets the device. -/
  | handshakeStall (source channel : Nat)
  /-- DELAY_LINE_SWAP (R20): Every 1 ms the two Pacer delay lines exchange roles at a tick boundary after calibration. -/
  | delayLineSwap (taps : Nat) (fits : Bool)
  /-- XTAL_LOST (R20): The crystal stops or strays by more than 2 %, so the Pacer changes to the internal oscillator and posts PAC kind 0x40. -/
  | xtalLost
  /-- PAC_SOURCE_WRITE (R20): A write of PAC_SOURCE changes the Pacer reference at the next tick boundary. -/
  | pacSourceWrite (rq : Requester) (value : Nat)
  /-- PACE_REQUEST (R83): A write of SUP_PACE_REQ requests a pace mode; a request for Walk is refused while an axis runs above 50 kHz. -/
  | paceRequest (rq : Requester) (value : Nat)
  /-- PACE_CHANGE_DONE (R18): VDDC settles at the requested mode and the pace change completes; a kept request is then taken up. -/
  | paceChangeDone
  /-- PACE_FAIL (R85): VDDC has not settled within 100 µs, so Groom returns to the previous mode and posts SUP kind 0x48. -/
  | paceFail
  /-- BASE_COMMIT (R36): A write of 1 to AXn_BASE_COMMIT checks the staged per-unit bases and applies them or rejects them. -/
  | baseCommit (rq : Requester) (n : Fin 8)
  /-- STAGED_DISCARD (R50): A write of 2 to a block's commit object discards its staged set and releases its ownership. -/
  | stagedDiscard (rq : Requester) (block : Block)
  /-- SAT_CLEAR (R30): A write of 0x0000 to AXn_SAT clears every SAT flag of every block of the axis. -/
  | satClear (rq : Requester) (n : Fin 8)
  /-- READ (R47): A READ request returns the accepted or staged value of one object. -/
  | read (rq : Requester) (key : ObjKey) (staged : Bool)
  /-- WRITE (R48): A WRITE request of one object, for any object without a row of its own, is checked and accepted as Live, Staged or Frozen. -/
  | write (rq : Requester) (key : ObjKey) (bytes : List Octet)
  /-- DESCRIBE (R42): A DESCRIBE request returns the attributes of one object. -/
  | describe (rq : Requester) (key : ObjKey)
  /-- READ_MULTI (R47): A READ_MULTI request returns up to 16 values captured between the same block boundaries. -/
  | readMulti (rq : Requester) (keys : List ObjKey)
  /-- WRITE_MULTI (R47): A WRITE_MULTI request checks up to 16 entries in order and accepts all of them or none. -/
  | writeMulti (rq : Requester) (entries : List WriteEntry) (late : Option Nat)
  /-- SEG_WRITE_START (R54): SEG_WRITE_START opens a segmented write of a BLOB or TABLE, stating its length and CRC-32C. -/
  | segWriteStart (rq : Requester) (key : ObjKey) (first count length crc : Nat)
  /-- SEG_WRITE_DATA (R54): SEG_WRITE_DATA adds a segment to the transfer; after the last byte the CRC is checked and the object is written. -/
  | segWriteData (rq : Requester) (offset : Nat) (bytes : List Octet)
  /-- SEG_READ_START (R54): SEG_READ_START captures an object or entry range whole and returns its length and CRC. -/
  | segReadStart (rq : Requester) (key : ObjKey) (first count : Nat)
  /-- SEG_READ_DATA (R54): SEG_READ_DATA returns captured bytes at an offset chosen by the requester. -/
  | segReadData (rq : Requester) (offset length : Nat)
  /-- SEG_TRANSFER_TIMEOUT (R54): A segmented transfer that sees no request for 2 s is aborted. -/
  | segTransferTimeout (rq : Requester)
  /-- OPEN_SESSION (R45): OPEN_SESSION is checked against the lockout, slot, role and limits, and returns a session number and a nonce. -/
  | openSession (rq : Requester) (role slot : Nat)
  /-- PROVE (R403): PROVE verifies the session proof by method 0, 1 or 2 and gives the session its role and key. -/
  | prove (rq : Requester) (dest : Nat) (body : List Octet)
  /-- CLOSE_SESSION (R45): CLOSE_SESSION ends a session, discarding its staged sets and transfers. -/
  | closeSession (rq : Requester)
  /-- SESSION_IDLE_TIMEOUT (R45): A session idle for longer than DEV_SESSION_IDLE ends. -/
  | sessionIdleTimeout (session : Nat)
  /-- PROOF_TIMEOUT (R402): A session not proven within 2 s ends. -/
  | proofTimeout (session : Nat)
  /-- LOCKOUT_EXPIRE (R402): The 60 s OPEN_SESSION lockout that followed three failed proofs from one node ends. -/
  | lockoutExpire (node : Nat)
  /-- RECEIPT (R406): A RECEIPT request is answered with a receipt signed by slot 0 over the selected measurement registers. -/
  | receipt (rq : Requester) (nonce : List Octet) (mask : Octet)
  /-- ASSIGN (R378): ASSIGN for this device's serial sets the node number and starts a Ledger post. -/
  | assign (rq : Requester) (serial node : Nat)
  /-- DISCOVER (R376): DISCOVER is answered with the serial and node number, delayed by the serial when the device is unassigned. -/
  | discover (rq : Requester)
  /-- STO_POST (R55): A write of 1 to STO_POST captures the persistent set and starts a Ledger post. -/
  | stoPost (rq : Requester)
  /-- POST_COMPLETE (R108): A Ledger post finishes writing all copies and heads, or fails, and STO_POST reads 2 or 3. -/
  | postComplete (micros : Nat) (failed : Option Nat)
  /-- RESTORE_DEFAULTS (R57): A write of 1 to DEV_RESTORE_DEFAULTS sets persistent objects to their defaults outside the protected ranges. -/
  | restoreDefaults (rq : Requester)
  /-- VBAT_START (R74): VBAT rises above its start threshold and counts as present. -/
  | vbatStart (mv : Nat)
  /-- VBAT_ABSENT (R79): VBAT falls below its absent threshold, for the service-mode test. -/
  | vbatAbsent (mv : Nat)
  /-- BROWN_OUT_WARN (R89): VBAT falls below SUP_BOW_LEVEL, so SUP kind 0x40 is posted, a checkpoint is taken and new posts are refused. -/
  | brownOutWarn (mv : Nat)
  /-- BROWN_OUT_CLEAR (R89): VBAT has stayed above the level plus 300 mV for 1 ms, so the warning clears. -/
  | brownOutClear (mv : Nat)
  /-- VBAT_UV (R90): VBAT falls below its undervoltage threshold and the power-loss sequence starts, with every gate off. -/
  | vbatUv (mv : Nat)
  /-- POWER_LOSS_END (R90): The checkpoint and any post complete during power loss, and the power-loss-end device reset follows. -/
  | powerLossEnd
  /-- VBAT_OV (R92): VBAT rises above its overvoltage threshold and the device safe state is taken. -/
  | vbatOv (mv : Nat)
  /-- VBAT_OV_CLEAR (R92): VBAT falls 1.5 V below the overvoltage threshold and the fault clears. -/
  | vbatOvClear (mv : Nat)
  /-- VGD_UV (R74): VGD falls below its threshold, so every gate goes off and SUP kind 0x43 is posted. -/
  | vgdUv (mv : Nat)
  /-- VCC5_UV (R74): VCC5 falls below its threshold, so the transceivers and slices stop and SUP kind 0x44 is posted. -/
  | vcc5Uv (mv : Nat)
  /-- VIO_UV (R63): VIO falls below its threshold and the device is held in reset. -/
  | vioUv (mv : Nat)
  /-- VHOLD_READY (R78): VHOLD rises above its ready level, completing a reset-release condition; the hold capacitance is measured during the rise. -/
  | vholdReady (mv : Nat) (riseUs : Option Nat)
  /-- VHOLD_READY_TIMEOUT (R78): VHOLD is not ready within 20 ms, so the charge is retried after 100 ms. -/
  | vholdReadyTimeout
  /-- VHOLD_MINIMUM (R76): VHOLD falls to its minimum, so the Rider regulators stop and a power-on reset follows. -/
  | vholdMinimum
  /-- NRST_LOW (R77): NRST held low for at least 1 µs causes a device reset. -/
  | nrstLow (widthNs : Nat)
  /-- SOFTWARE_RESET (R76): A write of 1 to SUP_RESET causes a software device reset. -/
  | softwareReset (rq : Requester)
  /-- RESET_RELEASE (R78): All release conditions hold, reset is released, and the boot sequence runs to network-ready. -/
  | resetRelease (vbat vio vgd vcc5 vhold bootUs selfTest : Nat)
  /-- CRYSTAL_STABLE (R80): During boot the crystal becomes stable and the Pacer changes to it. -/
  | crystalStable
  /-- SERVICE_MODE_ENTER (R79): VIO rises or NRST is released while VBAT stays absent for 5 ms, so the device enters Ledger service mode. -/
  | serviceModeEnter (vio : Nat)
  /-- SERVICE_EXIT (R79): VBAT arrives in service mode, so the device performs the service-exit reset after any post completes. -/
  | serviceExit
  /-- TRIAL_CONFIRM (R82): After 60 s in READY or RUN on a TRIAL bank, the bank is confirmed. -/
  | trialConfirm
  /-- BOOT_BANK_PREF_WRITE (R82): A write of SUP_BOOT_BANK_PREF sets the preferred bank in the boot record and clears TRIAL. -/
  | bootBankPrefWrite (rq : Requester) (bank : Nat)
  /-- CHECKPOINT_TIMER (R89): Every 1 s the run counters are checkpointed to the Ledger ring. -/
  | checkpointTimer
  /-- SLEEP_ENTER (R86): A write of 1 to SUP_SLEEP runs the Sleep entry steps. -/
  | sleepEnter (rq : Requester)
  /-- WAKE_EVENT (R88): An armed wake source fires in Sleep and causes a power-on reset with WAKE set. -/
  | wakeEvent (source : WakeSource)
  /-- WAKE_TIMER (R87): The Sleep wake timer expires after SUP_WAKE_TIMER seconds. -/
  | wakeTimer
  /-- OTP_PROGRAM (R104): Command 1 PROGRAM of STO_OTP_PROG_CMD programs one OTP word. -/
  | otpProgram (rq : Requester)
  /-- OTP_SEAL (R105): Command 2 SEAL programs a bank's check word. -/
  | otpSeal (rq : Requester)
  /-- OTP_LOCK (R105): Command 3 LOCK blows the lock fuses of a sealed bank. -/
  | otpLock (rq : Requester)
  /-- OTP_LOCK_VOID (R105): Command 4 LOCK_VOID locks an unsealed bank, making it VOID. -/
  | otpLockVoid (rq : Requester)
  /-- OTP_COMMAND_DONE (R104): An OTP programming command completes its verify, and the status reads done or failed. -/
  | otpCommandDone (weak missing : Nat)
  /-- CAL_RECORD_WRITE (R114): A write of STO_CAL_RECORD is checked, increments WRITE_COUNT and replaces the calibration record. -/
  | calRecordWrite (rq : Requester) (bytes : List Octet)
  /-- HITCH_COMMIT (R120): A write of 1 to GDA_HITCH_COMMIT checks the hitch map and applies or rejects it. -/
  | hitchCommit (rq : Requester)
  /-- MONITORS_ON (R121): Within 10 µs of a hitch commit, the monitors and comparator of each joining leg come on together. -/
  | monitorsOn
  /-- GATE_FAULT (R123): A gate stays out of its commanded state for 8 µs, so kind 0x45 is posted and its scope's legs latch to OFF. -/
  | gateFault (leg : Fin 24) (high toOff : Bool)
  /-- BST_UV (R124): A bootstrap supply falls below 8.0 V, so the high side is held off and kind 0x44 is posted. -/
  | bstUv (leg : Fin 24)
  /-- BST_UV_RELEASE (R124): A bootstrap supply rises above 8.6 V and its monitor releases. -/
  | bstUvRelease (leg : Fin 24)
  /-- VGD_LOW (R125): VGD stays below 9.0 V for 100 µs with VBAT at or above 5.5 V, so kind 0x47 is posted once per episode. -/
  | vgdLow (vgdMv vbatMv : Nat)
  /-- GUARD_DELAY_END (R127): The opposite gate has been sensed off for tGUARD, so a delayed turn-on is made, or is dropped if its turn-off has passed. -/
  | guardDelayEnd (leg : Fin 24) (high : Bool)
  /-- TRIP_LOW_TURN_ON (R131): In trip state LOW, the low side turns on once both gates are sensed off and tGUARD has elapsed. -/
  | tripLowTurnOn (leg : Fin 24)
  /-- VDS_ACTION (R128): A drain-source monitor exceeds its threshold beyond its filter time and latches its scope. -/
  | vdsAction (seen : LegSeen) (high : Bool)
  /-- OVERCURRENT (R129): A shunt comparator exceeds its threshold beyond its filter time, so kind 0x07 is posted and its scope latches. -/
  | overcurrent (seen : LegSeen)
  /-- TRIP_PIN (R130): A low pulse on TRIPA or TRIPB latches the legs of its mask. -/
  | tripPin (pinB : Bool) (widthNs : Nat)
  /-- HOBBLE_CMD_WRITE (R130): A write of GDA_HOBBLE_CMD drives or releases the Rider command wire, which latches all 24 legs after 1 µs. -/
  | hobbleCmdWrite (rq : Requester) (value : Nat)
  /-- TRIP_CLEAR (R133): A write of a leg mask to GDA_TRIP_CLEAR clears latch bits, or is refused while a source is active or unqualified. -/
  | tripClear (rq : Requester) (mask : Nat)
  /-- TRIP_QUAL_END (R133): A trip source has been inactive for its tQUAL and is qualified inactive. -/
  | tripQualEnd (source : Nat) (leg : Fin 24)
  /-- EDP_COMMIT (R138): A write of 1 to AXn_EDP_COMMIT checks the carrier and event settings and applies or rejects them. -/
  | edpCommit (rq : Requester) (n : Fin 8)
  /-- SET_POSTED (R142): An edge set posted for an axis arrives at the edge placer and is accepted, or becomes the repeat candidate. -/
  | setPosted (n : Fin 8) (fine : Fin 32)
  /-- PERIOD_DECIDED (R142): At a period's post-by time its active compare set is fixed. -/
  | periodDecided (n : Fin 8)
  /-- FIRST_PERIOD_START (R154): At least 2 µs after an enable, at the phase-aligned instant, the first period of the axis starts. -/
  | firstPeriodStart (n : Fin 8)
  /-- EVENT_FIRE (R153): A carrier or compare event occurs and the event channels that select it fire to their destinations. -/
  | eventFire (n : Fin 8) (quarter : Fin 4) (eighth : Fin 8)
  /-- SLICE_CONVERSION_DONE (R168): A slice completes a conversion and the allocation rule gives it its next work. -/
  | sliceConversionDone (done : SliceEnd) (raw : Int) (parityOk : Bool) (mv : Nat)
  /-- MONITOR_CONVERSION_OWED (R167): Every 80 ticks the monitor path accrues one owed conversion. -/
  | monitorConversionOwed
  /-- DROPPED (R169): A held input's wait reaches the group window without a slice, so it is released as MISSING with cause DROPPED. -/
  | dropped (n : Fin 8)
  /-- EQUALISATION_DUE (R175): A slice's equalisation conversion falls due, its skew trim is updated, and a faulty slice is withdrawn. -/
  | equalisationDue (slice : Fin 8) (trim : Int) (checkOk : Bool)
  /-- CS_COMMON_MODE (R160): A current-channel input leaves the PGNDg ± 2 V band, so AFE kind 0x40 is posted and its results carry CLIP. -/
  | csCommonMode (leg : Fin 24) (outside : Bool)
  /-- IL_ARM (R176): A write of 1 to CNV_IL_CMD arms an interleaved burst. -/
  | ilArm (rq : Requester)
  /-- IL_ABORT (R176): A write of 2 to CNV_IL_CMD aborts the burst. -/
  | ilAbort (rq : Requester)
  /-- IL_BURST_DONE (R176): The last burst sample is taken, the monitor path resumes and the burst status reads done. -/
  | ilBurstDone (raws : List SliceResult)
  /-- CAL_ZERO (R178): Command 1 ZERO of CNV_CAL_CMD starts the zero measurement of a channel. -/
  | calZero (rq : Requester)
  /-- CAL_FULL (R178): Command 2 FULL starts the reference measurement of a channel. -/
  | calFull (rq : Requester)
  /-- CAL_APPLY (R178): Command 3 APPLY writes the computed gain and offset into the calibration record. -/
  | calApply (rq : Requester)
  /-- CAL_MEASURE_DONE (R179): A calibration measurement completes its 2^k conversions and the means and coefficients are computed. -/
  | calMeasureDone
  /-- CNV_FE_COMMIT (R182): A write of 1 to CNV_FE_COMMIT checks the gains, ranges and hold lists and applies or rejects them. -/
  | cnvFeCommit (rq : Requester)
  /-- CE_COMMIT (R198): A write of 1 to AXn_CE_COMMIT checks the control-engine set and starts the bank write. -/
  | ceCommit (rq : Requester) (n : Fin 8)
  /-- BANK_WRITE_DONE (R198): The inactive bank has been written, with breakpoints and constants computed, and the swap becomes pending. -/
  | bankWriteDone (n : Fin 8)
  /-- BANK_SEL_WRITE (R200): A write of the other bank number to AXn_CE_BANK_SEL checks that bank and swaps to it. -/
  | bankSelWrite (rq : Requester) (n : Fin 8) (bank : Nat)
  /-- SLOT_COMPUTATION_DONE (R202): A slot computation of slots 2–5 completes and is posted, counting a miss if it is late. -/
  | slotComputationDone (n : Fin 8) (slot : Fin 6)
  /-- PENDING_COMPUTATION_DONE (R209): The pending set for the next current-loop cycle completes. -/
  | pendingComputationDone (n : Fin 8)
  /-- FULL_COMPUTATION_DONE (R219): A full recomputation after a misspeculation completes and is posted to the edge placer. -/
  | fullComputationDone (n : Fin 8)
  /-- HIT_RATE_UPDATE (R224): Every 1,024 cycles the hit rate is updated, with SPEC_RATE_LOW posted when it is too low. -/
  | hitRateUpdate (n : Fin 8)
  /-- HALL_EDGE (R245): A filtered Hall pin edge changes the sector and sets the Hall angle. -/
  | hallEdge (n : Fin 8) (u v w : Bool)
  /-- HALL_TIMEOUT (R245): No Hall edge comes for HALL_TMAX, so the angle is set to the sector's centre. -/
  | hallTimeout (n : Fin 8)
  /-- ENCODER_EDGE (R246): A quadrature edge changes the encoder count, or an illegal change posts ENC_ERROR. -/
  | encoderEdge (n : Fin 8) (ab : Quadrature) (index : Bool)
  /-- AX_FE_COMMIT (R251): A write of 1 to AXn_FE_COMMIT checks the field-engine set and applies or rejects it. -/
  | axFeCommit (rq : Requester) (n : Fin 8)
  /-- ST_START (R256): Command 1 START of AXn_ST_CMD, in STOPPED, makes a start request. -/
  | stStart (rq : Requester) (n : Fin 8)
  /-- ST_STOP (R257): Command 2 STOP of AXn_ST_CMD takes the procedure to STOPPED with the gates off. -/
  | stStop (rq : Requester) (n : Fin 8)
  /-- CATCH_WINDOW_END (R259): The catch window ends by lock count or after 20 ms, and the catch decision is made. -/
  | catchWindowEnd (n : Fin 8)
  /-- DWELL_END (R262): The 100 ms dwell ends and a start from rest begins. -/
  | dwellEnd (n : Fin 8)
  /-- ALIGN_END (R264): t_ALIGN elapses and the start continues to RAMP or injection. -/
  | alignEnd (n : Fin 8)
  /-- PULSE_SEQUENCE_DONE (R264): The twelfth pulse direction completes and the angle is found, or the attempt fails. -/
  | pulseSequenceDone (n : Fin 8)
  /-- HANDOVER_WAIT_EXPIRE (R265): The handover wait ends without a handover, so the attempt fails with NO_LOCK. -/
  | handoverWaitExpire (n : Fin 8)
  /-- ATTEMPT_PAUSE_END (R263): The PAUSE between attempts ends and the next attempt begins in CATCH. -/
  | attemptPauseEnd (n : Fin 8)
  /-- LOCKED_ROTOR (R271): The lock timer reaches tLOCK, so FLD kind 0x46 is posted. -/
  | lockedRotor (n : Fin 8)
  /-- ST_COMMIT (R273): A write of 1 to AXn_ST_COMMIT checks the start settings and applies or rejects them. -/
  | stCommit (rq : Requester) (n : Fin 8)
  /-- STEP_TICK (R278): Every 100 ns the rate multiplier adds the velocity and makes microsteps. -/
  | stepTick
  /-- PROFILE_TICK (R283): Every 10 µs the profile generator updates its phase, acceleration and velocity. -/
  | profileTick
  /-- PUSH (R284): Command 1 PUSH of AXn_PRF_CMD copies AXn_PRF_MOVE into the move queue. -/
  | push (rq : Requester) (n : Fin 8)
  /-- FLUSH (R285): Command 2 FLUSH empties the queue and stops at the move's DEC. -/
  | flush (rq : Requester) (n : Fin 8)
  /-- QUICK_STOP (R285): Command 3 QUICK_STOP empties the queue and stops at DSTOP. -/
  | quickStop (rq : Requester) (n : Fin 8)
  /-- HOME (R288): Command 4 HOME starts the configured homing. -/
  | homeCmd (rq : Requester) (n : Fin 8)
  /-- HOME_PIN_EDGE (R288): A homing pin edge at the active level defines or ends a homing search. -/
  | homePinEdge (n : Fin 8) (level : Bool) (steps : Nat)
  /-- STANDSTILL_CHECKPOINT_DONE (R290): The checkpoint before the first microstep completes and the move may begin stepping. -/
  | standstillCheckpointDone (n : Fin 8)
  /-- HOLD_DELAY_END (R281): HOLD_DELAY in STANDSTILL elapses and the current reduction begins. -/
  | holdDelayEnd (n : Fin 8)
  /-- MOVE_DWELL_END (R284): A DWELL queue entry's time ends and the next entry runs. -/
  | moveDwellEnd (n : Fin 8)
  /-- PRF_COMMIT (R296): A write of 1 to AXn_PRF_COMMIT checks the generator set and applies or rejects it. -/
  | prfCommit (rq : Requester) (n : Fin 8)
  /-- INT_COMMIT (R292): A write of 1 to INT_COMMIT checks the group mask and applies or rejects it. -/
  | intCommit (rq : Requester)
  /-- INT_PUSH (R293): Command 1 PUSH of INT_CMD queues a group move. -/
  | intPush (rq : Requester)
  /-- INT_FLUSH (R294): Command 2 FLUSH of INT_CMD stops every member at its DEC. -/
  | intFlush (rq : Requester)
  /-- INT_QUICK_STOP (R294): Command 3 QUICK_STOP of INT_CMD stops every member at its DSTOP. -/
  | intQuickStop (rq : Requester)
  /-- SVC_COMMIT (R300): A write of 1 to SVC_COMMIT checks the service bindings and parameters and applies or rejects them. -/
  | svcCommit (rq : Requester)
  /-- RUN (R301): Command 1 RUN of SVC_CMD enables the service's axes and enters STARTING. -/
  | runCmd (rq : Requester) (n : Fin 8)
  /-- STOP (R301): Command 2 STOP of SVC_CMD takes the service to STOPPING or IDLE. -/
  | stopCmd (rq : Requester) (n : Fin 8)
  /-- SERVICE_TICK (R303): Once per service tick every bound service reads posted values and writes its axes. -/
  | serviceTick
  /-- DRY_DETECTED (R305): DRY_TIME of consecutive dry ticks is detected, leading to an air-lock recovery or a dry-run stop. -/
  | dryDetected (n : Fin 8)
  /-- AIRLOCK_PHASE_END (R305): An AIRLOCK_T phase of the air-lock cycles ends and the next phase, or RUNNING, follows. -/
  | airlockPhaseEnd (n : Fin 8)
  /-- DRY_WAIT_END (R305): DRY_WAIT after a dry run ends and the pump restarts. -/
  | dryWaitEnd (n : Fin 8)
  /-- BLOCK_WAIT_END (R307): BLOCK_WAIT after a blocked fan ends and the fan is enabled again. -/
  | blockWaitEnd (n : Fin 8)
  /-- JOG (R310): Seat command JOG moves one member toward its soft limit. -/
  | jog (rq : Requester) (k : Fin 4) (positive : Bool)
  /-- SEAT_STOP (R310): Seat command STOP flushes the group move. -/
  | seatStop (rq : Requester)
  /-- RECALL (R310): Seat command RECALL moves every member to a memory position. -/
  | recall (rq : Requester) (m : Fin 4)
  /-- STORE (R310): Seat command STORE writes the present positions to a memory. -/
  | storeCmd (rq : Requester) (m : Fin 4)
  /-- CALIBRATE (R310): Seat command CALIBRATE moves a member toward its end stop to find its position. -/
  | calibrate (rq : Requester) (k : Fin 4)
  /-- PINCH (R311): A member's current rise lasts PINCH_T, so the seat stops, reverses, and CPX kind 0x45 is posted. -/
  | pinch (k : Fin 4)
  /-- SEAT_END_STOP (R312): During CALIBRATE the current stays at END_I for END_T, so the member stops and is preset to 0. -/
  | seatEndStop
  /-- TEMP_SOURCE_LOST (R313): A service temperature source becomes broken or stale, so full demand is applied and CPX kind 0x48 is posted. -/
  | tempSourceLost (n : Fin 8)
  /-- TEMP_SOURCE_VALID (R313): A lost temperature source is valid for 1 s and slot 5 returns to AUTO. -/
  | tempSourceValid (n : Fin 8)
  /-- REIN_EDGE (R314): A rein pin edge completes a period and the rein value is updated. -/
  | reinEdge (r : Fin 8) (level : Bool) (ago : Nat)
  /-- REIN_TIMEOUT (R314): No active rein edge comes for TIMEOUT and x is forced by the pin level. -/
  | reinTimeout (r : Fin 8)
  /-- REIN_FAILSAFE (R315): x has stayed in a fail-safe band for FS_TIME, so y takes FAILSAFE and AFE kind 0x41 is posted. -/
  | reinFailsafe (r : Fin 8)
  /-- REIN_COMMIT (R316): A write of 1 to REIN_COMMIT checks the rein settings and applies or rejects them. -/
  | reinCommit (rq : Requester)
  /-- THERMAL_READING (R320): A sensor's reading interval ends, a reading is made, and thresholds and derating are applied. -/
  | thermalReading (sensor : Fin 18) (made clip selfTestOk : Bool) (value : Int)
  /-- RISE_RATE_UPDATE (R325): Every 10 ms each sensor's rate of rise is formed and the rate excess is updated. -/
  | riseRateUpdate
  /-- FAST_SAMPLING_EXIT (R320): A sensor has stayed below T_WARN − HYST without rate excess for 100 ms and leaves fast sampling. -/
  | fastSamplingExit (sensor : Fin 18)
  /-- SENSOR_RECOVERED (R322): A broken sensor gives 1 s of valid readings and returns to service. -/
  | sensorRecovered (sensor : Fin 18)
  /-- THM_COMMIT (R327): A write of 1 to THM_COMMIT checks the thermal settings and applies or rejects them. -/
  | thmCommit (rq : Requester)
  /-- FAULT_INTAKE (R336): The Tally takes a fault message, latches, counts and queues it, and applies its class. -/
  | faultIntake (arriving : List Nat) (health : Nat)
  /-- HANDLE_ESCALATION (R339): A Handle entry reaches its intake time plus tHANDLE unacknowledged, so the safe state of its scope is taken. -/
  | handleEscalation (message : Nat)
  /-- TLY_ACK (R340): A write of TLY_ACK acknowledges the matching entry, or every entry. -/
  | tlyAck (rq : Requester) (message : Nat)
  /-- ENABLE (R341): Command 1 ENABLE of AXn_CMD runs the enable checks and enables the axis. -/
  | enable (rq : Requester) (n : Fin 8)
  /-- DISABLE (R341): Command 2 DISABLE of AXn_CMD disables the axis with every gate command wire low. -/
  | disable (rq : Requester) (n : Fin 8)
  /-- SAFE_RELEASE (R344): A write of 1 to TLY_SAFE_RELEASE releases the device safe state, or is refused. -/
  | safeRelease (rq : Requester)
  /-- ERRN_RELEASE (R345): A write of 1 to TLY_ERRN_RELEASE releases ERRN when it is releasable. -/
  | errnRelease (rq : Requester)
  /-- ERR_TIME_EXPIRE (R345): tERR elapses after the latest Handle or Immediate intake, and ERRN becomes releasable. -/
  | errTimeExpire
  /-- FIRST_CLEAR (R337): A write of 0 to TLY_FIRST.01 clears the first-fault latch and OVERFLOW. -/
  | firstClear (rq : Requester)
  /-- TLY_INJECT (R348): A message written to TLY_INJECT in Farrier mode is taken as a posted message. -/
  | tlyInject (rq : Requester) (message : Nat)
  /-- LOG_RECORD_WRITTEN (R346): Groom writes a queued message, escalation or acknowledgement to the event log in MRAM. -/
  | logRecordWritten (ok : Bool)
  /-- TIMER_SELF_CHECK (R347): Every 1 ms the Handle timers are self-checked, with TIMER_FAULT set on failure. -/
  | timerSelfCheck (ok : Bool)
  /-- SCAN (R362): Command 1 SCAN of ASY_SCAN_CMD scans a region from INIT on unit 3. -/
  | scan (rq : Requester)
  /-- CONTINUE (R362): Command 2 CONTINUE scans a region from the present RUNNING. -/
  | continueCmd (rq : Requester)
  /-- SCAN_COMPARE (R362): Command 3 SCAN_COMPARE scans from INIT and compares the result with ASY_SCAN_EXPECT. -/
  | scanCompare (rq : Requester)
  /-- ABORT (R362): Command 4 ABORT ends a running scan. -/
  | abortCmd (rq : Requester)
  /-- SCAN_DONE (R362): A scan completes, sets ASY_RESULT, and reports a mismatch for a failed compare. -/
  | scanDone
  /-- ASY_FEED (R354): Bytes written to ASY_FEED are fed into unit 3's running CRC. -/
  | asyFeed (rq : Requester) (bytes : List Octet)
  /-- ASY_RESTART (R367): A write of 1 to ASY_RESTART sets RUNNING to INIT. -/
  | asyRestart (rq : Requester)
  /-- ASY_PRESET (R367): A write of 1–4 to ASY_PRESET loads the preset parameters and sets RUNNING to INIT. -/
  | asyPreset (rq : Requester) (preset : Nat)
  /-- ASY_PARAM_WRITE (R367): A write of a custom CRC parameter sets ASY_PRESET to 0 and RUNNING to INIT. -/
  | asyParamWrite (rq : Requester) (param : Fin 5) (value : Nat)
  /-- ASSAY_SELF_TEST (R365): Every 100 ms each unit computes its check values; a unit that fails twice is withdrawn and replaced by the spare. -/
  | assaySelfTest (wrong : Fin 16)
  /-- FW_SCAN_TIMER (R364): Every 10 s the running firmware bank is scanned and compared with ASY_FW_CRC. -/
  | fwScanTimer
  /-- DATAGRAM_DISPATCH (R369): Courier takes the next datagram from the port queues and checks its version, addressing, authentication and end-to-end block. -/
  | datagramDispatch
  /-- CAN_FRAME_RX (R379): A CAN FD frame is received, time-stamped and reassembled into a datagram. -/
  | canFrameRx (id : Nat) (payload : List Octet) (supported : Bool) (ago : Nat)
  /-- REASSEMBLY_TIMEOUT (R379): More than 50 ms pass between frames of a reassembly, which is abandoned. -/
  | reassemblyTimeout (src : Nat)
  /-- BUS_OFF (R379): The CAN FD controller goes bus-off and NET kind 0x40 is posted. -/
  | busOff
  /-- UDP_DATAGRAM_RX (R380): A UDP datagram to the KLP port is received on 10BASE-T1S and queued. -/
  | udpDatagramRx (peer : Nat) (bytes : List Octet) (checksumOk : Bool)
  /-- LIN_REQUEST_RX (R381): A LIN diagnostic request on frame 0x3C to this NAD is received. -/
  | linRequestRx (nad : Nat) (bytes : List Octet)
  /-- SPI_WRITE (R382): Host SPI command 0x01 WRITE delivers a datagram, which is discarded if its CRC fails. -/
  | spiWrite (bytes : List Octet)
  /-- SPI_READ (R382): Host SPI command 0x02 READ sends the next waiting datagram to the host. -/
  | spiRead (complete : Bool)
  /-- SPI_STATUS (R382): Host SPI command 0x03 STATUS returns the status byte only. -/
  | spiStatus
  /-- NOTIFY_TIMER (R383): A stream's PERIOD elapses and a NOTIFY is sent, periodically or on change. -/
  | notifyTimer (k : Fin 8)
  /-- SYNC_MASTER_TIMER (R385): The KLP sync master sends SYNC and FOLLOW_UP every NET_TIME.02 ms. -/
  | syncMasterTimer
  /-- SYNC (R384): A received SYNC datagram is time-stamped and held for pairing. -/
  | sync (src seq fresh : Nat) (macOk : Bool) (ago : Nat)
  /-- FOLLOW_UP (R385): A FOLLOW_UP paired with its SYNC updates network time. -/
  | followUp (src seq time fresh : Nat) (macOk : Bool)
  /-- GPTP_SYNC_RX (R385): An IEEE 802.1AS Sync and Follow_Up pair is received and updates network time. -/
  | gptpSyncRx (domain ns ago : Nat)
  /-- SYNC_LOST (R385): Four expected syncs are missed, so TIME_LOCKED clears and NET kind 0x43 is posted. -/
  | syncLost
  /-- PLCA_LOST (R386): PLCA beacons are absent for 4 ms, so NET kind 0x44 is posted and the port falls back to CSMA/CD. -/
  | plcaLost
  /-- E2E_CONTEXT_TIMEOUT (R375): A receiving end-to-end context sees no datagram for 1 s and returns to START. -/
  | e2eContextTimeout (src dest : Nat)
  /-- NET_COMMIT (R388): A write of 1 to NET_COMMIT checks the network set and applies or rejects it. -/
  | netCommit (rq : Requester)
  /-- PROVISION (R397): Lifecycle command 1 PROVISION fills and locks bank 6 and blows the PROVISIONED fuses. -/
  | provision (rq : Requester)
  /-- FIELD (R397): Lifecycle command 2 FIELD blows the FIELD fuses. -/
  | fieldCmd (rq : Requester)
  /-- RETIRE (R397): Lifecycle command 3 RETIRE erases the key store and blows the RETIRED fuses. -/
  | retire (rq : Requester)
  /-- ROOT_KEY_WRITE (R400): A write of VLT_ROOT_KEY loads slot 1 if its hash matches OTP bank 5. -/
  | rootKeyWrite (rq : Requester) (bytes : List Octet)
  /-- KEY_IMPORT (R401): A write of VLT_KEY_IMPORT verifies, unwraps and stores a key in a slot. -/
  | keyImport (rq : Requester) (bytes : List Octet)
  /-- KEY_DELETE (R401): A write of VLT_KEY_DELETE empties a key slot. -/
  | keyDelete (rq : Requester) (slot : Nat)
  /-- MR_EXTEND (R405): A write of VLT_MR_EXTEND extends MR7 with a digest. -/
  | mrExtend (rq : Requester) (bytes : List Octet)
  /-- TAMPER_ALARM (R411): A tamper sensor condition raises an alarm at its level: NOTE, LOCK or ERASE. -/
  | tamperAlarm (sensor : Fin 6)
  /-- SELF_TEST_FAIL (R395): A continuous Vault self-test fails, so VLT kind 0x43 is posted and Vault services stop. -/
  | selfTestFail (code : Nat)
  /-- UPD_START (R408): Update command 1 START enters UPDATE and erases the target bank's header. -/
  | updStart (rq : Requester)
  /-- UPD_BLOCK (R408): A write of VLT_UPD_BLOCK stores image words at their offset. -/
  | updBlock (rq : Requester) (offset : Nat) (words : List Nat)
  /-- VERIFY (R408): Update command 2 VERIFY starts checking the target image's header, signature and security version. -/
  | verify (rq : Requester)
  /-- VERIFY_DONE (R408): Verification completes and VLT_UPD_STATUS reads valid or invalid. -/
  | verifyDone
  /-- ACTIVATE (R408): Update command 3 ACTIVATE makes the target bank preferred with TRIAL set and resets the device. -/
  | activate (rq : Requester)
  /-- UPD_ABORT (R408): Update command 4 ABORT returns DEV_STATE to READY. -/
  | updAbort (rq : Requester)
  /-- UPDATE_TIMEOUT (R408): After 60 s without an update request, the update aborts. -/
  | updateTimeout
  /-- ROLLBACK_ADVANCE (R409): After network-ready on a confirmed bank, Groom blows rollback fuses up to its security version. -/
  | rollbackAdvance
  /-- FARRIER_TOKEN (R414): A write of VLT_FARRIER verifies a Farrier token and resets the device into Farrier mode, or raises a tamper attempt. -/
  | farrierToken (rq : Requester) (bytes : List Octet)
  /-- GATE_COMMAND_EDGE (R127): An edge of the active compare set falls due at its fine-step offset and changes a gate command wire, which the Saddle guard then passes, delays or drops. -/
  | gateCommandEdge (n : Fin 8) (clear : Bool)
  /-- BUS_OFF_RECOVERY (R360): The CAN FD controller returns from bus-off under ISO 11898-1, and its end-to-end streams send FORM 0x00 for the next 8 datagrams. -/
  | busOffRecovery
  /-- PLCA_RESTORED (R386): PLCA beacons return, the PHY leaves its CSMA/CD fallback, PLCA_ACTIVE sets and the end-to-end streams enter recovery. -/
  | plcaRestored
  /-- TRANSMITTER_DOMINANT_TIMEOUT (R429): A CAN FD transmitter held dominant for 3 ms, or the LIN transmitter for 20 ms, is released to recessive, and the frame is lost and counted in ERRORS. -/
  | transmitterDominantTimeout (lin : Bool)
  /-- LIN_RESPONSE_HEADER_RX (R381): A commander header for frame 0x3D arrives and the device sends its answer if it is ready, or stays silent otherwise. -/
  | linResponseHeaderRx
  /-- ETHERNET_FRAME_RX (R368): A 10BASE-T1S frame other than a KLP UDP datagram or a gPTP Sync pair arrives: ARP, ICMP or ICMPv6 echo, NDP, Announce, or an unsupported frame that is ignored and counted in ERRORS. -/
  | ethernetFrameRx (kind : EthKind) (forUs : Bool)
  /-- VGD_UV_CLEAR (R74): VGD rises back above its undervoltage threshold and VGD_OK sets again, which R344 requires before a safe-state release. -/
  | vgdUvClear (mv : Nat)
  /-- VCC5_UV_CLEAR (R74): VCC5 rises back above its undervoltage threshold, the transceivers and slices resume, and VCC5_OK sets again. -/
  | vcc5UvClear (mv : Nat)
  /-- REIN_FAILSAFE_EXIT (R315): A rein value has stayed within FS_LO to FS_HI for FS_TIME, and the input leaves the fail-safe so that y follows the bands again. -/
  | reinFailsafeExit (r : Fin 8)
  /-- VGD_LOW_EPISODE_END (R125): VGD has stayed at or above 9.0 V for 100 µs, the VGD_LOW episode ends, and a later VGD_LOW may be posted. -/
  | vgdLowEpisodeEnd (vgdMv : Nat)
  deriving DecidableEq, Repr

end Sys2Proof
end

