-- ==== Sys2Proof/Decode.lean ====
section
/-! DEFINITION. The opcode table gives its rows no bits: the block takes commands, and a command is no word. -/

namespace Sys2Proof

/-- The command that a word of the opcode table's bits spells: none, since no row has bits. -/
def decodeTableWord (nbits w : Nat) : Option Instr :=
  match nbits, w with
  | _, _ => none

end Sys2Proof
end

