-- ==== Sys2Proof/Machine/ObjType.lean ====
section
/-! DEFINITION. The attributes an object of the dictionary has (R41 to R43): its type, who reads and writes it, when a write takes effect, its range, and how a row of an object table is written. -/

namespace Sys2Proof.Machine

/-- The dictionary types of Table 3.3, in the order of their codes. -/
inductive ObjType where
  | bool | u8 | i8 | u16 | i16 | u32 | i32 | u64 | frac16 | gain16 | acc40 | angle16
  | speed32 | pos32 | vel32 | time64 | fine32 | temp16 | string | blob | table
  deriving DecidableEq, Repr

/-- The roles of R44, lowest first. -/
inductive Role where
  | reader | operator | integrator | custodian
  deriving DecidableEq, Repr

/-- The access forms of Table 3.4. -/
inductive Acc where
  /-- Reader RO. -/
  | ro
  /-- Reader, X RW. -/
  | rw (role : Role)
  /-- Reader RO, X clear. -/
  | clr (role : Role)
  /-- Reader, X WO. -/
  | wo (role : Role)
  deriving DecidableEq, Repr

/-- The classes of R48, R49 and R51; `dash` is an object that no role writes (R43). -/
inductive Cls where
  | dash | live | staged | frozen
  deriving DecidableEq, Repr

/-- The block that a Frozen class names (R43, R51). -/
inductive Frz where
  | none | allAxes | axisN | owningAxis
  deriving DecidableEq, Repr

/-- The LIMIT mark of R107 and R110; `ocThresh` is the packed field THRESH of `GDA_OC_CFG`. -/
inductive LimitMark where
  | none | upper | lower | ocThresh
  deriving DecidableEq, Repr

/-- A packed object whose fields each have a range of their own (R49). -/
inductive PackedObj where
  | ocCfg | edpEvt | holdList | seatCmd | thmExtCfg | ceSrc | hallMap
  deriving DecidableEq, Repr

/-- The values an object accepts, read as the numbers its type stands for. -/
inductive ValRange where
  /-- Every pattern of the type. -/
  | whole
  /-- One of these closed intervals. -/
  | within (parts : List (Int × Int))
  /-- Each field as its layout states. -/
  | packed (obj : PackedObj)
  deriving DecidableEq, Repr

/-- One row of an object table: `count` objects at `index`, `index + stride`, …, each with the subindices `subLo` to `subHi`. -/
structure ObjRow where
  index      : Nat
  count      : Nat
  stride     : Nat
  subLo      : Nat
  subHi      : Nat
  type       : ObjType
  access     : Acc
  cls        : Cls
  frozen     : Frz
  persistent : Bool
  /-- The defaults of the subindices in order; a single entry serves them all. -/
  defaults   : List Int
  range      : ValRange
  limit      : LimitMark
  deriving DecidableEq, Repr

/-- The code of Table 3.3. -/
def ObjType.code : ObjType → Nat
  | .bool => 0x01 | .u8 => 0x02 | .i8 => 0x03 | .u16 => 0x04 | .i16 => 0x05 | .u32 => 0x06
  | .i32 => 0x07 | .u64 => 0x08 | .frac16 => 0x09 | .gain16 => 0x0A | .acc40 => 0x0B
  | .angle16 => 0x0C | .speed32 => 0x0D | .pos32 => 0x0E | .vel32 => 0x0F | .time64 => 0x10
  | .fine32 => 0x11 | .temp16 => 0x12 | .string => 0x13 | .blob => 0x14 | .table => 0x15

/-- The length in bytes of Table 3.3; 0 for STRING, BLOB and TABLE, which have no fixed length. -/
def ObjType.size : ObjType → Nat
  | .bool | .u8 | .i8 => 1
  | .u16 | .i16 | .frac16 | .gain16 | .angle16 | .temp16 => 2
  | .u32 | .i32 | .speed32 | .pos32 | .vel32 | .fine32 => 4
  | .u64 | .acc40 | .time64 => 8
  | .string | .blob | .table => 0

/-- The signed types of Table 2.1 and Table 3.3. -/
def ObjType.isSigned : ObjType → Bool
  | .i8 | .i16 | .i32 | .frac16 | .gain16 | .acc40 | .speed32 | .pos32 | .temp16 => true
  | _ => false

/-- BLOB and TABLE objects are served by segmented transfer only (R54). -/
def ObjType.isSegmented : ObjType → Bool
  | .blob | .table => true
  | _ => false

/-- The rank of R44. -/
def Role.rank : Role → Nat
  | .reader => 0 | .operator => 1 | .integrator => 2 | .custodian => 3

/-- A role holds every right of the roles below it (R44). -/
def Role.holds (r need : Role) : Bool := need.rank ≤ r.rank

/-- The lowest role that writes, `none` where no role does (R42, Table 3.4). -/
def Acc.writer : Acc → Option Role
  | .ro => Option.none
  | .rw r | .clr r | .wo r => some r

/-- The class code of R42. -/
def Cls.code : Cls → Nat
  | .dash => 0 | .live => 1 | .staged => 2 | .frozen => 3

/-- The row's default at a subindex (R42). -/
def ObjRow.defaultAt (r : ObjRow) (sub : Nat) : Int :=
  match r.defaults with
  | [] => 0
  | [v] => v
  | vs => vs.getD (sub - r.subLo) 0

/-- Whether the row lists this index and subindex. -/
def ObjRow.lists (r : ObjRow) (index sub : Nat) : Bool :=
  r.index ≤ index && (index - r.index) % r.stride == 0 && (index - r.index) / r.stride < r.count
    && r.subLo ≤ sub && sub ≤ r.subHi

/-- Whether the row lists this index, whatever the subindex. -/
def ObjRow.listsIndex (r : ObjRow) (index : Nat) : Bool :=
  r.index ≤ index && (index - r.index) % r.stride == 0 && (index - r.index) / r.stride < r.count

/-- The instance of a row's object: the axis or unit number. -/
def ObjRow.instanceOf (r : ObjRow) (index : Nat) : Nat := (index - r.index) / r.stride

end Sys2Proof.Machine
end

