-- ==== Sys2Proof/Machine/Operands.lean ====
section
/-! DEFINITION. The number formats of R25 to R33: signed views of a bit pattern, rounding to nearest with ties to even, the limiting store, the ACC40 accumulator, wrapping angles and positions, and the byte order of R41. -/

namespace Sys2Proof.Machine

/-- The number a two's complement pattern of `w` bits stands for (R25). -/
def sgn (w : Nat) (n : Nat) : Int :=
  let m := n % 2 ^ w
  if m < 2 ^ (w - 1) then (m : Int) else (m : Int) - (2 ^ w : Nat)

/-- The `w`-bit pattern of a number, wrapping (R25). -/
def pat (w : Nat) (i : Int) : Nat := (i % ((2 ^ w : Nat) : Int)).toNat

/-- A value limited to a range. -/
def clampI (lo hi i : Int) : Int := max lo (min hi i)

/-- `a / d` rounded to the nearest integer, ties to the even one, for `d > 0` (R29). [log 44: DEDUCED] -/
def divRne (a d : Int) : Int :=
  let q := a / d
  let r := a - q * d
  if 2 * r > d || (2 * r == d && q % 2 != 0) then q + 1 else q

/-- `a / 2^drop` rounded to nearest, ties to even (R29). -/
def shiftRne (a : Int) (drop : Nat) : Int :=
  if drop == 0 then a else divRne a ((2 ^ drop : Nat) : Int)

/-- A stored value and whether the limit changed it (R29). -/
structure Stored where
  val : Int
  sat : Bool
  deriving DecidableEq, Repr

/-- The store of R29: round, then limit; SAT only if the limit changed the rounded value. -/
def store (a : Int) (drop : Nat) (lo hi : Int) : Stored :=
  let q := shiftRne a drop
  ⟨clampI lo hi q, q < lo || hi < q⟩

/-- The limits of FRAC16 and GAIN16. -/
def lo16 : Int := -32768
/-- The upper limit of FRAC16 and GAIN16. -/
def hi16 : Int := 32767
/-- The limits of a 32-bit signed format. -/
def lo32 : Int := -2147483648
/-- The upper limit of a 32-bit signed format. -/
def hi32 : Int := 2147483647

/-- ACC40 stored to FRAC16 (R29: 15 bits dropped). -/
def frac16Of (a : Int) : Stored := store a 15 lo16 hi16

/-- ACC40 stored to GAIN16 (R29: 18 bits dropped). -/
def gain16Of (a : Int) : Stored := store a 18 lo16 hi16

/-- A number limited to FRAC16 without rounding. -/
def limit16 (i : Int) : Stored := store i 0 lo16 hi16

/-- An ACC40 and its SAT flag (R28). -/
structure Acc40 where
  val : Int
  sat : Bool
  deriving DecidableEq, Repr

/-- The empty accumulator. -/
def Acc40.zero : Acc40 := ⟨0, false⟩

/-- An addition into an ACC40: a result outside the format leaves the nearer limit and sets SAT (R28). -/
def Acc40.add (a : Acc40) (x : Int) : Acc40 :=
  let s := a.val + x
  let lo : Int := -(2 ^ 39 : Nat)
  let hi : Int := (2 ^ 39 : Nat) - 1
  ⟨clampI lo hi s, a.sat || s < lo || hi < s⟩

/-- FRAC16 × FRAC16 or Q2.15 × FRAC16 in ACC40 units: left shift 0 (Table 2.2). -/
def mulFF (a b : Int) : Int := a * b

/-- FRAC16 × GAIN16 or Q2.15 × GAIN16 in ACC40 units: left shift 3 (Table 2.2). -/
def mulFG (a g : Int) : Int := a * g * 8

/-- GAIN16 × GAIN16 in ACC40 units: left shift 6 (Table 2.2). -/
def mulGG (a b : Int) : Int := a * b * 64

/-- An ANGLE16, wrapping (R31). -/
def wrapAngle (i : Int) : Nat := pat 16 i

/-- The difference of two angles read as a signed 16-bit value (R31). -/
def angleDiff (a b : Nat) : Int := sgn 16 (pat 16 ((a : Int) - b))

/-- The difference of two POS32 positions as a signed difference modulo 2^32 (R33). -/
def posDiff (a b : Nat) : Int := sgn 32 (pat 32 ((a : Int) - b))

/-- The signed difference of two FINE32 times (R19 rule 2). -/
def fineDiff (a b : Nat) : Int := sgn 32 (pat 32 ((a : Int) - b))

/-- The FINE32 time of a Pacer count and a fine step (R19 rule 2). -/
def fine32 (count fine : Nat) : Nat := (count * 32 + fine) % 2 ^ 32

/-- The sign of a number: −1, 0 or 1. -/
def sgnOf (i : Int) : Int := if i < 0 then -1 else if i == 0 then 0 else 1

/-- `n` as `len` bytes, least significant first (R41). -/
def leBytes : Nat → Nat → List Nat
  | 0, _ => []
  | len + 1, n => n % 256 :: leBytes len (n / 256)

/-- Bytes, least significant first, as a number (R41). -/
def leNat : List Nat → Nat
  | [] => 0
  | b :: bs => b % 256 + 256 * leNat bs

/-- `n` as `len` bytes, most significant first. -/
def beBytes (len n : Nat) : List Nat := (leBytes len n).reverse

/-- Bytes, most significant first, as a number. -/
def beNat (bs : List Nat) : Nat := leNat bs.reverse

/-- The integer square root, rounded down, by bits from `k` down. -/
def isqrtFrom : Nat → Nat → Nat → Nat
  | 0, n, r => if (r + 1) * (r + 1) ≤ n then r + 1 else r
  | k + 1, n, r => let t := r + 2 ^ (k + 1); isqrtFrom k n (if t * t ≤ n then t else r)

/-- The integer square root, rounded down, of a number below 2^144. -/
def isqrt (n : Nat) : Nat := isqrtFrom 72 n 0

end Sys2Proof.Machine
end

