-- ==== Sys2Proof/Machine/Flags.lean ====
section
/-! DEFINITION. The bits and fields of status words: reading one, setting one, clearing one, and the saturating counters. -/

namespace Sys2Proof.Machine

/-- Bit `k` of a status word. -/
def bit (n k : Nat) : Bool := n.testBit k

/-- Bits `hi` to `lo` of a word. -/
def field (n hi lo : Nat) : Nat := n / 2 ^ lo % 2 ^ (hi + 1 - lo)

/-- A Bool as the bit `k`. -/
def bitIf (b : Bool) (k : Nat) : Nat := if b then 2 ^ k else 0

/-- The word with bit `k` set to `b`. -/
def withBit (n k : Nat) (b : Bool) : Nat :=
  match b, n.testBit k with
  | true, false => n + 2 ^ k
  | false, true => n - 2 ^ k
  | _, _ => n

/-- The word with every bit of the list cleared. -/
def clearBits (n : Nat) (ks : List Nat) : Nat := ks.foldl (fun m k => withBit m k false) n

/-- One more, saturating at the top of a `w`-bit counter. -/
def satInc (w n : Nat) : Nat := min (n + 1) (2 ^ w - 1)

/-- `k` more, saturating at the top of a `w`-bit counter. -/
def satAdd (w n k : Nat) : Nat := min (n + k) (2 ^ w - 1)

/-- The members of a mask among 0 to `n − 1`, ascending. -/
def maskList (n mask : Nat) : List Nat := (List.range n).filter fun k => mask.testBit k

/-- The mask of a list of numbers. -/
def maskOf (ks : List Nat) : Nat := ks.foldl (fun m k => withBit m k true) 0

end Sys2Proof.Machine
end

