-- ==== Sys2Proof/Machine/Codes.lean ====
section
/-! DEFINITION. The check codes that storage, transfers and networks share: the CRC of R351 over its four parameters, and the extended Hamming code of R96. -/

namespace Sys2Proof.Machine

/-! ### Cyclic redundancy checks (R351 to R353) -/

/-- The parameters of a CRC (R351). -/
structure CrcParams where
  width   : Nat
  poly    : Nat
  init    : Nat
  reflect : Bool
  xorout  : Nat
  deriving DecidableEq, Repr

/-- `n` with its lowest `w` bits in reverse order. -/
def reflectBits : Nat → Nat → Nat
  | 0, _ => 0
  | w + 1, n => (n % 2) * 2 ^ w + reflectBits w (n / 2)

/-- `k` steps of a CRC register that takes bits most significant first. -/
def crcUp (w poly : Nat) : Nat → Nat → Nat
  | 0, c => c
  | k + 1, c => crcUp w poly k (if c.testBit (w - 1) then (c * 2 % 2 ^ w) ^^^ poly else c * 2 % 2 ^ w)

/-- `k` steps of a CRC register that takes bits least significant first, with the reflected polynomial. -/
def crcDown (rpoly : Nat) : Nat → Nat → Nat
  | 0, c => c
  | k + 1, c => crcDown rpoly k (if c % 2 == 1 then (c / 2) ^^^ rpoly else c / 2)

/-- Feed bytes into RUNNING (R351, R354). -/
def CrcParams.feed (p : CrcParams) (running : Nat) (bytes : List Nat) : Nat :=
  if p.reflect then
    let r := reflectBits p.width p.poly
    bytes.foldl (fun c b => crcDown r 8 (c ^^^ (b % 256))) running
  else bytes.foldl (fun c b => crcUp p.width p.poly 8 (c ^^^ (b % 256 * 2 ^ (p.width - 8)))) running

/-- The result over bytes, from INIT. -/
def CrcParams.crcOf (p : CrcParams) (bytes : List Nat) : Nat := p.feed p.init bytes ^^^ p.xorout

/-- The presets of Table 18.1, by code 1 to 4; any other code stands for preset 2. -/
def crcPreset (code : Nat) : CrcParams :=
  if code == 1 then ⟨16, 0x1021, 0xFFFF, false, 0⟩
  else if code == 3 then ⟨32, 0x04C1_1DB7, 0xFFFF_FFFF, true, 0xFFFF_FFFF⟩
  else if code == 4 then ⟨8, 0x1D, 0xFF, false, 0xFF⟩
  else ⟨32, 0x1EDC_6F41, 0xFFFF_FFFF, true, 0xFFFF_FFFF⟩

/-- CRC-32C: preset 2 (R352). -/
def crc32c (bytes : List Nat) : Nat := (crcPreset 2).crcOf bytes

/-- CRC-16: preset 1 (R352, R101). -/
def crc16f (bytes : List Nat) : Nat := (crcPreset 1).crcOf bytes

/-! ### The Hamming code of OTP words (R96) -/

/-- The code positions of data bits 0 to 31, in ascending order: 1 to 38 without the powers of two. -/
def dataPositions : List Nat := (List.range 39).filter fun p => 0 < p && !([1, 2, 4, 8, 16, 32].contains p)

/-- The XOR of a list of bits. -/
def xorAll (bs : List Bool) : Bool := bs.foldl xor false

/-- Code bit c_k, k = 0 to 5, of 32 data bits. -/
def codeBit (data k : Nat) : Bool :=
  xorAll ((dataPositions.zipIdx).map fun (p, i) => p.testBit k && data.testBit i)

/-- The 39 bits of a word: data in 31:0, c_0 to c_6 in 38:32. -/
def encodeWord (data : Nat) : Nat :=
  let low := ([0, 1, 2, 3, 4, 5].map fun k => bitIf (codeBit data k) k).foldl (· + ·) 0
  let all := xor (xorAll ((List.range 32).map data.testBit)) (xorAll ((List.range 6).map low.testBit))
  data % 2 ^ 32 + (low + bitIf all 6) * 2 ^ 32

/-- The syndrome of 39 bits as read: the failing position of c_0 to c_5, and whether the overall parity fails. [log 26: DEDUCED] -/
def syndrome (word : Nat) : Nat × Bool :=
  let data := word % 2 ^ 32
  let s := ([0, 1, 2, 3, 4, 5].map fun k => bitIf (xor (codeBit data k) (word.testBit (32 + k))) k).foldl (· + ·) 0
  (s, xorAll ((List.range 39).map word.testBit))

/-- Zero syndrome. -/
def cleanWord (word : Nat) : Bool := syndrome word == (0, false)

/-- The data of a word with no marginal fuse: as read, with one error corrected, or none after a double error. The Bool says whether it was corrected. [log 26: DEDUCED] -/
def correctWord (word : Nat) : Option (Nat × Bool) :=
  let data := word % 2 ^ 32
  match syndrome word with
  | (0, false) => some (data, false)
  | (_, false) => none
  | (s, true) =>
    if s == 0 || [1, 2, 4, 8, 16, 32].contains s then some (data, true)
    else match dataPositions.findIdx? (· == s) with
      | some i => some (withBit data i (!data.testBit i), true)
      | none => none

end Sys2Proof.Machine
end

