-- ==== Sys2Proof/Machine/Ix.lean ====
section
/-! DEFINITION. The index of every object of the dictionary, under the name its table gives it (R40, Tables 3.1 and 3.2).
An object of axis n stands at the index given here plus 0x200·n; an object of unit n (`+ n` in its table) at the index plus n. -/

namespace Sys2Proof.Machine.Ix

abbrev GTH_STATUS : Nat := 0x0060
abbrev GTH_CRC_ERR_TX : Nat := 0x0061
abbrev GTH_CRC_ERR_RX : Nat := 0x0061
abbrev GTH_RESENDS : Nat := 0x0062
abbrev GTH_PARITY_ERR : Nat := 0x0063
abbrev GTH_RESTARTS : Nat := 0x0064
abbrev PAC_TIME : Nat := 0x0180
abbrev PAC_SOURCE : Nat := 0x0181
abbrev PAC_SOURCE_ACTIVE : Nat := 0x0182
abbrev PAC_DL_STEPS : Nat := 0x0183
abbrev PAC_DL_CAL_COUNT : Nat := 0x0184
abbrev AX_SHUNT : Nat := 0x1010
abbrev AX_I_BASE : Nat := 0x1011
abbrev AX_V_BASE : Nat := 0x1012
abbrev AX_V_BASE_ACTIVE : Nat := 0x1013
abbrev AX_W_BASE : Nat := 0x1014
abbrev AX_K_ANGLE : Nat := 0x1015
abbrev AX_SAT : Nat := 0x1016
abbrev AX_SAT_COUNT : Nat := 0x1017
abbrev AX_BASE_COMMIT : Nat := 0x101F
abbrev DEV_VENDOR_ID : Nat := 0x0000
abbrev DEV_PRODUCT : Nat := 0x0001
abbrev DEV_SILICON : Nat := 0x0002
abbrev DEV_SERIAL : Nat := 0x0003
abbrev DEV_FW_VERSION : Nat := 0x0004
abbrev DEV_FW_BANK : Nat := 0x0005
abbrev DEV_ROM_VERSION : Nat := 0x0006
abbrev DEV_DICT_VERSION : Nat := 0x0007
abbrev DEV_STATE : Nat := 0x0010
abbrev DEV_AXES_ENABLED : Nat := 0x0011
abbrev DEV_SESSION_IDLE : Nat := 0x0020
abbrev DEV_SESSION_ROLE : Nat := 0x0021
abbrev DEV_SESSIONS_OPEN : Nat := 0x0022
abbrev DEV_LAST_REJECT : Nat := 0x0030
abbrev DEV_RESTORE_DEFAULTS : Nat := 0x0031
abbrev DEV_REQ_COUNT : Nat := 0x0032
abbrev DEV_ERR_COUNT : Nat := 0x0033
abbrev STO_POST : Nat := 0x0200
abbrev SUP_STATUS : Nat := 0x0100
abbrev SUP_VBAT : Nat := 0x0101
abbrev SUP_VIO : Nat := 0x0102
abbrev SUP_VGD : Nat := 0x0103
abbrev SUP_VCC5 : Nat := 0x0104
abbrev SUP_VHOLD : Nat := 0x0105
abbrev SUP_HOLD_CAP : Nat := 0x0106
abbrev SUP_VBAT_NOMINAL : Nat := 0x0110
abbrev SUP_BOW_LEVEL : Nat := 0x0111
abbrev SUP_RESET_CAUSE : Nat := 0x0120
abbrev SUP_RESET_COUNT : Nat := 0x0121
abbrev SUP_RESET : Nat := 0x0122
abbrev SUP_BOOT_TIME : Nat := 0x0123
abbrev SUP_CHECKPOINTS : Nat := 0x0124
abbrev SUP_PACE_REQ : Nat := 0x0130
abbrev SUP_PACE_ACTIVE : Nat := 0x0131
abbrev SUP_PACE_BOOT : Nat := 0x0132
abbrev SUP_PACE_CHANGES : Nat := 0x0133
abbrev SUP_SLEEP : Nat := 0x0140
abbrev SUP_WAKE_EN : Nat := 0x0141
abbrev SUP_WAKE_PIN_MODE : Nat := 0x0142
abbrev SUP_WAKE_TIMER : Nat := 0x0143
abbrev SUP_WAKE_CAUSE : Nat := 0x0144
abbrev SUP_BOOT_BANK_PREF : Nat := 0x0150
abbrev SUP_BOOT_TRIAL : Nat := 0x0151
abbrev STO_LEDGER_HEAD : Nat := 0x0201
abbrev STO_LEDGER_STATUS : Nat := 0x0202
abbrev STO_POST_TIME : Nat := 0x0203
abbrev STO_DIVERGED : Nat := 0x0204
abbrev STO_RECORDS_LOST : Nat := 0x0205
abbrev STO_CP_SERIAL : Nat := 0x0206
abbrev STO_CAL_RECORD : Nat := 0x0210
abbrev STO_CAL_ORIGIN : Nat := 0x0211
abbrev STO_CAL_WRITES : Nat := 0x0212
abbrev STO_OTP_SEL : Nat := 0x0220
abbrev STO_OTP_WORD : Nat := 0x0221
abbrev STO_OTP_BANKS : Nat := 0x0222
abbrev STO_OTP_PROG_ADDR : Nat := 0x0228
abbrev STO_OTP_PROG_DATA : Nat := 0x0229
abbrev STO_OTP_PROG_CMD : Nat := 0x022A
abbrev STO_OTP_PROG_STATUS : Nat := 0x022B
abbrev GDA_HITCH_AX : Nat := 0x0600
abbrev GDA_HITCH_COMMIT : Nat := 0x060F
abbrev GDA_LEG_OWNER : Nat := 0x0610
abbrev GDA_GATE_DRIVE : Nat := 0x0620
abbrev GDA_GUARD : Nat := 0x0621
abbrev GDA_TRIP_STATE : Nat := 0x0622
abbrev GDA_DS_CFG : Nat := 0x0623
abbrev GDA_OC_CFG : Nat := 0x0624
abbrev GDA_TRIPA_MASK : Nat := 0x0630
abbrev GDA_TRIPB_MASK : Nat := 0x0631
abbrev GDA_TRIP_QUAL : Nat := 0x0632
abbrev GDA_TRIP_LATCH : Nat := 0x0638
abbrev GDA_TRIP_CLEAR : Nat := 0x0639
abbrev GDA_TRIP_ACTIVE : Nat := 0x063A
abbrev GDA_TRIP_FIRST : Nat := 0x063B
abbrev GDA_HOBBLE_CMD : Nat := 0x063C
abbrev GDA_GUARD_COUNT : Nat := 0x0640
abbrev GDA_TRIP_COUNT : Nat := 0x0641
abbrev GDA_CLEAR_REFUSED_COUNT : Nat := 0x0642
abbrev GDA_BST_UV : Nat := 0x0643
abbrev AX_EDP_STATUS : Nat := 0x1040
abbrev AX_EDP_PERIOD : Nat := 0x1041
abbrev AX_EDP_PRESCALE : Nat := 0x1042
abbrev AX_EDP_PHASE : Nat := 0x1043
abbrev AX_EDP_MARK : Nat := 0x1044
abbrev AX_EDP_EVT : Nat := 0x1045
abbrev AX_EDP_LATE_LIMIT : Nat := 0x1046
abbrev AX_EDP_MODE : Nat := 0x1047
abbrev AX_EDP_MANUAL : Nat := 0x1048
abbrev AX_EDP_MINP : Nat := 0x1049
abbrev AX_EDP_POLICY : Nat := 0x104A
abbrev AX_EDP_NREF : Nat := 0x104B
abbrev AX_EDP_TREF : Nat := 0x104C
abbrev AX_EDP_REF_GAP : Nat := 0x104D
abbrev AX_EDP_CARRY : Nat := 0x1050
abbrev AX_EDP_SLACK : Nat := 0x1051
abbrev AX_EDP_LATE_COUNT : Nat := 0x1052
abbrev AX_EDP_LATE_SETS : Nat := 0x1053
abbrev AX_EDP_CARRY_DROP : Nat := 0x1054
abbrev AX_EDP_MINP_COUNT : Nat := 0x1055
abbrev AX_EDP_REF_COUNT : Nat := 0x1056
abbrev AX_EDP_PERIOD_SEQ : Nat := 0x1057
abbrev AX_EDP_COMMIT : Nat := 0x107F
abbrev CNV_STATUS : Nat := 0x0700
abbrev CNV_CS_GAIN : Nat := 0x0701
abbrev CNV_PV_RANGE : Nat := 0x0702
abbrev CNV_GROUP : Nat := 0x0710
abbrev CNV_GROUP_CNT : Nat := 0x0718
abbrev CNV_LAST : Nat := 0x0720
abbrev CNV_PV_SCALE : Nat := 0x0728
abbrev CNV_CAL_CHAN : Nat := 0x0730
abbrev CNV_CAL_AVG : Nat := 0x0731
abbrev CNV_CAL_REF : Nat := 0x0732
abbrev CNV_CAL_CMD : Nat := 0x0733
abbrev CNV_CAL_STATUS : Nat := 0x0734
abbrev CNV_CAL_RESULT : Nat := 0x0735
abbrev CNV_IL_CHAN : Nat := 0x0740
abbrev CNV_IL_COUNT : Nat := 0x0741
abbrev CNV_IL_TRIG : Nat := 0x0742
abbrev CNV_IL_CMD : Nat := 0x0743
abbrev CNV_IL_STATUS : Nat := 0x0744
abbrev CNV_IL_T0 : Nat := 0x0745
abbrev CNV_IL_DATA : Nat := 0x0746
abbrev CNV_SKEW : Nat := 0x0750
abbrev CNV_SLICES : Nat := 0x0751
abbrev CNV_LOAD : Nat := 0x0752
abbrev CNV_MON_AUX : Nat := 0x0760
abbrev CNV_CLIP_LIMIT : Nat := 0x0770
abbrev CNV_SAT_COUNT : Nat := 0x0771
abbrev CNV_FE_COMMIT : Nat := 0x077F
abbrev AX_CE_STATUS : Nat := 0x10C0
abbrev AX_CE_MODE : Nat := 0x10C1
abbrev AX_CE_REF : Nat := 0x10C2
abbrev AX_CE_MANUAL : Nat := 0x10C3
abbrev AX_CE_OUT : Nat := 0x10C4
abbrev AX_CE_ERR : Nat := 0x10C5
abbrev AX_CE_INTEG : Nat := 0x10C6
abbrev AX_CE_SLOT_STATUS : Nat := 0x10C7
abbrev AX_CE_SLACK : Nat := 0x10C8
abbrev AX_CE_MISS_COUNT : Nat := 0x10C9
abbrev AX_CE_POS_REF : Nat := 0x10CA
abbrev AX_CE_FB_EXT : Nat := 0x10CB
abbrev AX_CE_MISS_LIMIT : Nat := 0x10CC
abbrev AX_CE_RESIDUAL : Nat := 0x10CD
abbrev AX_CE_PLAUS_COUNT : Nat := 0x10CE
abbrev AX_CE_MODEL_G : Nat := 0x10CF
abbrev AX_CE_SRC : Nat := 0x10D0
abbrev AX_CE_DIV : Nat := 0x10D1
abbrev AX_CE_ESPAN : Nat := 0x10D2
abbrev AX_CE_KI_SHIFT : Nat := 0x10D3
abbrev AX_CE_OUT_MAX : Nat := 0x10D4
abbrev AX_CE_OUT_MIN : Nat := 0x10D5
abbrev AX_CE_RAMP : Nat := 0x10D6
abbrev AX_CE_I_LIMIT : Nat := 0x10D7
abbrev AX_CE_POS_SHIFT : Nat := 0x10D8
abbrev AX_CE_MODEL : Nat := 0x10D9
abbrev AX_CE_PLAUS_CFG : Nat := 0x10DA
abbrev AX_CE_FF_CFG : Nat := 0x10DB
abbrev AX_CE_BANK_SEL : Nat := 0x10DE
abbrev AX_CE_COMMIT : Nat := 0x10FF
abbrev AX_CE_GAIN_TABLE : Nat := 0x1180
abbrev AX_CE_FRICTION : Nat := 0x1181
abbrev AX_CE_COGGING : Nat := 0x1182
abbrev AX_SC_STATUS : Nat := 0x10E0
abbrev AX_SC_PREDICT : Nat := 0x10E1
abbrev AX_SC_PRED_LIMIT : Nat := 0x10E2
abbrev AX_SC_RATE_MIN : Nat := 0x10E3
abbrev AX_SC_HIT_RATE : Nat := 0x10E4
abbrev AX_SC_COUNT : Nat := 0x10E5
abbrev AX_SC_MISS_CAUSE : Nat := 0x10E6
abbrev AX_SC_LAST_DELTA : Nat := 0x10E7
abbrev AX_SC_VIEW_VD : Nat := 0x10E8
abbrev AX_SC_VIEW_VQ : Nat := 0x10E9
abbrev AX_SC_VIEW_ID_PRED : Nat := 0x10EA
abbrev AX_SC_VIEW_IQ_PRED : Nat := 0x10EB
abbrev AX_SC_TRACE_CFG : Nat := 0x10ED
abbrev AX_SC_TRACE : Nat := 0x10EE
abbrev AX_FE_STATUS : Nat := 0x1080
abbrev AX_FE_STATE : Nat := 0x1081
abbrev AX_FE_ANGLE : Nat := 0x1082
abbrev AX_FE_SPEED : Nat := 0x1083
abbrev AX_FE_POSITION : Nat := 0x1084
abbrev AX_FE_IDQ : Nat := 0x1085
abbrev AX_FE_VDQ : Nat := 0x1086
abbrev AX_FE_MOD : Nat := 0x1087
abbrev AX_FE_VLINK : Nat := 0x1088
abbrev AX_FE_COMM_COUNT : Nat := 0x1089
abbrev AX_FE_FLUX : Nat := 0x108A
abbrev AX_FE_TRACK_ERR : Nat := 0x108B
abbrev AX_FE_HANDOVERS : Nat := 0x108C
abbrev AX_FE_FW_ID : Nat := 0x108D
abbrev AX_FE_CURRENT_COUNT : Nat := 0x108E
abbrev AX_FE_DERIVED : Nat := 0x108F
abbrev AX_FE_ANGLE_SRC : Nat := 0x1090
abbrev AX_FE_POS_PINS : Nat := 0x1091
abbrev AX_FE_POS_FILT : Nat := 0x1092
abbrev AX_FE_HALL_MAP : Nat := 0x1093
abbrev AX_FE_HALL_OFFSET : Nat := 0x1094
abbrev AX_FE_HALL_TMAX : Nat := 0x1095
abbrev AX_FE_ENC_CPE : Nat := 0x1096
abbrev AX_FE_ENC_OFFSET : Nat := 0x1097
abbrev AX_FE_GAP : Nat := 0x1098
abbrev AX_FE_DTC : Nat := 0x1099
abbrev AX_FE_OBS_CFG : Nat := 0x109A
abbrev AX_FE_INJ_CFG : Nat := 0x109B
abbrev AX_FE_HANDOVER : Nat := 0x109C
abbrev AX_FE_FW_CFG : Nat := 0x109D
abbrev AX_FE_COMMIT : Nat := 0x10BF
abbrev AX_FE_SINE : Nat := 0x1183
abbrev POS_LEVELS : Nat := 0x0840
abbrev POS_OWNER : Nat := 0x0841
abbrev AX_ST_STATUS : Nat := 0x1140
abbrev AX_ST_STATE : Nat := 0x1141
abbrev AX_ST_CMD : Nat := 0x1142
abbrev AX_ST_FLAGS : Nat := 0x1143
abbrev AX_ST_ALIGN : Nat := 0x1144
abbrev AX_ST_RAMP : Nat := 0x1145
abbrev AX_ST_RETRY : Nat := 0x1146
abbrev AX_ST_PULSE : Nat := 0x1147
abbrev AX_ST_CATCH : Nat := 0x1148
abbrev AX_ST_TQ_RAMP : Nat := 0x1149
abbrev AX_ST_LOCK : Nat := 0x114A
abbrev AX_ST_RESULT : Nat := 0x1150
abbrev AX_ST_PULSE_I : Nat := 0x1151
abbrev AX_ST_COUNT : Nat := 0x1152
abbrev AX_ST_COMMIT : Nat := 0x117F
abbrev AX_PRF_STATUS : Nat := 0x1100
abbrev AX_PRF_STATE : Nat := 0x1101
abbrev AX_PRF_POS : Nat := 0x1102
abbrev AX_PRF_VEL : Nat := 0x1103
abbrev AX_PRF_PHASE : Nat := 0x1104
abbrev AX_PRF_QUEUE : Nat := 0x1105
abbrev AX_PRF_CMD : Nat := 0x1106
abbrev AX_PRF_I_SET : Nat := 0x1107
abbrev AX_PRF_MOVE : Nat := 0x1108
abbrev AX_PRF_STALL_METRIC : Nat := 0x110A
abbrev AX_PRF_COUNT : Nat := 0x110B
abbrev AX_PRF_CFG : Nat := 0x1110
abbrev AX_PRF_STEPPER : Nat := 0x1111
abbrev AX_PRF_STALL : Nat := 0x1112
abbrev AX_PRF_HOME : Nat := 0x1113
abbrev AX_PRF_COMMIT : Nat := 0x113F
abbrev INT_STATUS : Nat := 0x0B00
abbrev INT_GROUP : Nat := 0x0B01
abbrev INT_MOVE : Nat := 0x0B02
abbrev INT_CMD : Nat := 0x0B03
abbrev INT_QUEUE : Nat := 0x0B04
abbrev INT_MASTER : Nat := 0x0B05
abbrev INT_COMMIT : Nat := 0x0B0F
abbrev SVC_KIND : Nat := 0x0900
abbrev SVC_AUTORUN : Nat := 0x0901
abbrev SVC_CMD : Nat := 0x0902
abbrev SVC_STATE : Nat := 0x0903
abbrev SVC_STATUS : Nat := 0x0904
abbrev SVC_RUN_TIME : Nat := 0x0905
abbrev SVC_STARTS : Nat := 0x0906
abbrev SVC_COMMIT : Nat := 0x090F
abbrev SVC_PUMP : Nat := 0x0920
abbrev SVC_FAN : Nat := 0x0930
abbrev SVC_FLAP : Nat := 0x0940
abbrev SVC_SEAT : Nat := 0x0950
abbrev SVC_SEAT_SOFT_MIN : Nat := 0x0951
abbrev SVC_SEAT_SOFT_MAX : Nat := 0x0952
abbrev SVC_SEAT_MEM : Nat := 0x0953
abbrev SVC_SEAT_CMD : Nat := 0x0954
abbrev SVC_SEAT_KNOWN : Nat := 0x0955
abbrev SVC_THERM : Nat := 0x0960
abbrev SVC_TEMP_EXT : Nat := 0x0980
abbrev SVC_TEMP_EXT_TMO : Nat := 0x0981
abbrev REIN_CFG : Nat := 0x0800
abbrev REIN_VALUE : Nat := 0x0810
abbrev REIN_COMMIT : Nat := 0x083F
abbrev THM_STATUS : Nat := 0x0380
abbrev THM_MAX : Nat := 0x0381
abbrev THM_MAX_SRC : Nat := 0x0382
abbrev THM_READING : Nat := 0x0383
abbrev THM_STATE : Nat := 0x0384
abbrev THM_RATE : Nat := 0x0385
abbrev THM_PEAK : Nat := 0x0386
abbrev THM_DERATE : Nat := 0x0388
abbrev THM_AXIS_TEMP : Nat := 0x0389
abbrev THM_CLASS_RIDER : Nat := 0x0390
abbrev THM_CLASS_SADDLE : Nat := 0x0391
abbrev THM_EXT_CFG : Nat := 0x0392
abbrev THM_EXT_LIM : Nat := 0x03A0
abbrev THM_EXT_CURVE : Nat := 0x03A8
abbrev THM_COMMIT : Nat := 0x03BF
abbrev TLY_STATUS : Nat := 0x0300
abbrev TLY_FIRST : Nat := 0x0301
abbrev TLY_OVERFLOW_COUNT : Nat := 0x0302
abbrev TLY_HANDLE_TIME : Nat := 0x0303
abbrev TLY_ERR_TIME : Nat := 0x0304
abbrev TLY_ERRN_CFG : Nat := 0x0305
abbrev TLY_ERRN_RELEASE : Nat := 0x0306
abbrev TLY_ACK : Nat := 0x0307
abbrev TLY_PENDING_COUNT : Nat := 0x0308
abbrev TLY_PENDING : Nat := 0x0309
abbrev TLY_SAFE_RELEASE : Nat := 0x030A
abbrev TLY_SAFE_CAUSE : Nat := 0x030B
abbrev TLY_LOG_HEAD : Nat := 0x0310
abbrev TLY_LOG_SEL : Nat := 0x0311
abbrev TLY_LOG : Nat := 0x0312
abbrev TLY_LOG_LOST : Nat := 0x0313
abbrev TLY_COUNT : Nat := 0x0314
abbrev TLY_HEALTH : Nat := 0x0320
abbrev TLY_INJECT : Nat := 0x0330
abbrev AX_CMD : Nat := 0x1020
abbrev AX_STATE : Nat := 0x1021
abbrev AX_SAFE_STATE : Nat := 0x1022
abbrev AX_SAFE_CAUSE : Nat := 0x1023
abbrev ASY_STATUS : Nat := 0x0A00
abbrev ASY_USE : Nat := 0x0A01
abbrev ASY_SELFTEST_FAIL : Nat := 0x0A02
abbrev ASY_FW_CRC : Nat := 0x0A03
abbrev ASY_PRESET : Nat := 0x0A10
abbrev ASY_WIDTH : Nat := 0x0A11
abbrev ASY_POLY : Nat := 0x0A12
abbrev ASY_INIT : Nat := 0x0A13
abbrev ASY_REFLECT : Nat := 0x0A14
abbrev ASY_XOROUT : Nat := 0x0A15
abbrev ASY_RUNNING : Nat := 0x0A16
abbrev ASY_FEED : Nat := 0x0A17
abbrev ASY_RESULT : Nat := 0x0A18
abbrev ASY_RESTART : Nat := 0x0A19
abbrev ASY_SCAN_SPACE : Nat := 0x0A20
abbrev ASY_SCAN_START : Nat := 0x0A21
abbrev ASY_SCAN_LEN : Nat := 0x0A22
abbrev ASY_SCAN_EXPECT : Nat := 0x0A23
abbrev ASY_SCAN_CMD : Nat := 0x0A24
abbrev ASY_SCAN_STATUS : Nat := 0x0A25
abbrev NET_STATUS : Nat := 0x0500
abbrev NET_NODE : Nat := 0x0501
abbrev NET_GROUP : Nat := 0x0502
abbrev NET_GROUP_KEY : Nat := 0x0503
abbrev NET_PORT_EN : Nat := 0x0504
abbrev NET_CFG : Nat := 0x0505
abbrev NET_T1S : Nat := 0x0510
abbrev NET_IP : Nat := 0x0511
abbrev NET_UDP_PORT : Nat := 0x0512
abbrev NET_CAN : Nat := 0x0520
abbrev NET_LIN_NAD : Nat := 0x0530
abbrev NET_LIN_OPERATOR : Nat := 0x0531
abbrev NET_TIME : Nat := 0x0550
abbrev NET_TIME_NOW : Nat := 0x0551
abbrev NET_TIME_RATE : Nat := 0x0552
abbrev NET_TIME_ERR : Nat := 0x0553
abbrev NET_PORT_COUNT : Nat := 0x0560
abbrev NET_E2E_COUNT : Nat := 0x0570
abbrev NET_AUTH_COUNT : Nat := 0x0571
abbrev NET_STREAM : Nat := 0x0580
abbrev NET_COMMIT : Nat := 0x05FF
abbrev VLT_STATUS : Nat := 0x0400
abbrev VLT_LIFECYCLE : Nat := 0x0401
abbrev VLT_LIFECYCLE_CONFIRM : Nat := 0x0402
abbrev VLT_LIFECYCLE_CMD : Nat := 0x0403
abbrev VLT_ROLLBACK : Nat := 0x0404
abbrev VLT_SELFTEST : Nat := 0x0405
abbrev VLT_DEV_PUBKEY : Nat := 0x0408
abbrev VLT_DEV_CERT : Nat := 0x0409
abbrev VLT_TAMPER_LEVEL : Nat := 0x0410
abbrev VLT_TAMPER_FLOOR : Nat := 0x0411
abbrev VLT_POLICY : Nat := 0x0412
abbrev VLT_TAMPER_COUNT : Nat := 0x0413
abbrev VLT_MR : Nat := 0x0420
abbrev VLT_MR_EXTEND : Nat := 0x0421
abbrev VLT_FARRIER_NONCE : Nat := 0x0430
abbrev VLT_FARRIER : Nat := 0x0431
abbrev VLT_ROOT_KEY : Nat := 0x0440
abbrev VLT_SLOT_INFO : Nat := 0x0480
abbrev VLT_KEY_IMPORT : Nat := 0x0490
abbrev VLT_KEY_DELETE : Nat := 0x0491
abbrev VLT_UPD_CMD : Nat := 0x04A0
abbrev VLT_UPD_STATUS : Nat := 0x04A1
abbrev VLT_UPD_BLOCK : Nat := 0x04A2
abbrev VLT_UPD_BANK : Nat := 0x04A3

end Sys2Proof.Machine.Ix
end

