-- ==== Sys2Proof/Machine/ObjDev.lean ====
section
/-! DEFINITION. The object tables of the spec, as rows: R11, R20, R36, R59, R94, R117 (Tables 1.5, 1.9, 2.4, 3.6, 5.8, 6.10).
One row for a run of subindices with the same attributes; subindex 0x00 of a record (R39) is not listed, `countRow` gives it. -/

namespace Sys2Proof.Machine

/-- Rows of the object tables (Dev, part 0). -/
def rowsDev0 : List ObjRow := [
  ⟨Ix.GTH_STATUS, 1, 0x1, 0, 0, .u16, .ro, .dash, .none, false, [1], .whole, .none⟩,
  ⟨Ix.GTH_CRC_ERR_TX, 1, 0x1, 1, 1, .u32, (.clr .integrator), .live, .none, false, [0], .whole, .none⟩,
  ⟨Ix.GTH_CRC_ERR_RX, 1, 0x1, 2, 2, .u32, (.clr .integrator), .live, .none, false, [0], .whole, .none⟩,
  ⟨Ix.GTH_RESENDS, 1, 0x1, 0, 0, .u32, (.clr .integrator), .live, .none, false, [0], .whole, .none⟩,
  ⟨Ix.GTH_PARITY_ERR, 1, 0x1, 0, 0, .u32, (.clr .integrator), .live, .none, false, [0], .whole, .none⟩,
  ⟨Ix.GTH_RESTARTS, 1, 0x1, 0, 0, .u32, (.clr .integrator), .live, .none, false, [0], .whole, .none⟩,
  ⟨Ix.PAC_TIME, 1, 0x1, 0, 0, .time64, .ro, .dash, .none, false, [0], .whole, .none⟩,
  ⟨Ix.PAC_SOURCE, 1, 0x1, 0, 0, .u8, (.rw .integrator), .frozen, .allAxes, true, [0], .within [(0, 1)], .none⟩,
  ⟨Ix.PAC_SOURCE_ACTIVE, 1, 0x1, 0, 0, .u8, .ro, .dash, .none, false, [0], .whole, .none⟩,
  ⟨Ix.PAC_DL_STEPS, 1, 0x1, 0, 0, .u16, .ro, .dash, .none, false, [0], .whole, .none⟩,
  ⟨Ix.PAC_DL_CAL_COUNT, 1, 0x1, 0, 0, .u32, .ro, .dash, .none, false, [0], .whole, .none⟩,
  ⟨Ix.AX_SHUNT, 8, 0x200, 0, 0, .u32, (.rw .integrator), .staged, .none, true, [0x3E8], .within [(100, 1000000)], .none⟩,
  ⟨Ix.AX_I_BASE, 8, 0x200, 0, 0, .u32, .ro, .dash, .none, false, [0x3938700], .whole, .none⟩,
  ⟨Ix.AX_V_BASE, 8, 0x200, 0, 0, .u32, (.rw .integrator), .staged, .none, true, [0], .within [(0, 0), (1000, 84000)], .none⟩,
  ⟨Ix.AX_V_BASE_ACTIVE, 8, 0x200, 0, 0, .u32, .ro, .dash, .none, false, [0], .whole, .none⟩,
  ⟨Ix.AX_W_BASE, 8, 0x200, 0, 0, .u32, (.rw .integrator), .staged, .none, true, [0x7A120], .within [(1000, 3000000)], .none⟩,
  ⟨Ix.AX_K_ANGLE, 8, 0x200, 0, 0, .u32, .ro, .dash, .none, false, [0], .whole, .none⟩,
  ⟨Ix.AX_SAT, 8, 0x200, 0, 0, .u16, (.clr .operator), .live, .none, false, [0], .whole, .none⟩,
  ⟨Ix.AX_SAT_COUNT, 8, 0x200, 0, 0, .u32, (.clr .integrator), .live, .none, false, [0], .whole, .none⟩,
  ⟨Ix.AX_BASE_COMMIT, 8, 0x200, 0, 0, .u8, (.rw .integrator), .live, .none, false, [0], .within [(1, 2)], .none⟩,
  ⟨Ix.DEV_VENDOR_ID, 1, 0x1, 0, 0, .u32, .ro, .dash, .none, false, [0xDECF], .whole, .none⟩,
  ⟨Ix.DEV_PRODUCT, 1, 0x1, 0, 0, .string, .ro, .dash, .none, false, [0], .whole, .none⟩,
  ⟨Ix.DEV_SILICON, 1, 0x1, 0, 0, .u16, .ro, .dash, .none, false, [0], .whole, .none⟩,
  ⟨Ix.DEV_SERIAL, 1, 0x1, 0, 0, .u64, .ro, .dash, .none, false, [0], .whole, .none⟩]

/-- Rows of the object tables (Dev, part 1). -/
def rowsDev1 : List ObjRow := [
  ⟨Ix.DEV_FW_VERSION, 1, 0x1, 0, 0, .u32, .ro, .dash, .none, false, [0], .whole, .none⟩,
  ⟨Ix.DEV_FW_BANK, 1, 0x1, 0, 0, .u8, .ro, .dash, .none, false, [0], .whole, .none⟩,
  ⟨Ix.DEV_ROM_VERSION, 1, 0x1, 0, 0, .u32, .ro, .dash, .none, false, [0], .whole, .none⟩,
  ⟨Ix.DEV_DICT_VERSION, 1, 0x1, 0, 0, .u16, .ro, .dash, .none, false, [0], .whole, .none⟩,
  ⟨Ix.DEV_STATE, 1, 0x1, 0, 0, .u8, .ro, .dash, .none, false, [0], .whole, .none⟩,
  ⟨Ix.DEV_AXES_ENABLED, 1, 0x1, 0, 0, .u8, .ro, .dash, .none, false, [0], .whole, .none⟩,
  ⟨Ix.DEV_SESSION_IDLE, 1, 0x1, 0, 0, .u16, (.rw .integrator), .live, .none, true, [30], .within [(1, 600)], .none⟩,
  ⟨Ix.DEV_SESSION_ROLE, 1, 0x1, 0, 0, .u8, .ro, .dash, .none, false, [0], .whole, .none⟩,
  ⟨Ix.DEV_SESSIONS_OPEN, 1, 0x1, 0, 0, .u8, .ro, .dash, .none, false, [0], .whole, .none⟩,
  ⟨Ix.DEV_LAST_REJECT, 1, 0x1, 0, 0, .u8, .ro, .dash, .none, false, [5], .whole, .none⟩,
  ⟨Ix.DEV_LAST_REJECT, 1, 0x1, 1, 1, .u16, .ro, .dash, .none, false, [0], .whole, .none⟩,
  ⟨Ix.DEV_LAST_REJECT, 1, 0x1, 2, 5, .u8, .ro, .dash, .none, false, [0], .whole, .none⟩,
  ⟨Ix.DEV_RESTORE_DEFAULTS, 1, 0x1, 0, 0, .u8, (.wo .integrator), .frozen, .allAxes, false, [0], .within [(1, 1)], .none⟩,
  ⟨Ix.DEV_REQ_COUNT, 1, 0x1, 0, 0, .u32, (.clr .integrator), .live, .none, false, [0], .whole, .none⟩,
  ⟨Ix.DEV_ERR_COUNT, 1, 0x1, 0, 0, .u32, (.clr .integrator), .live, .none, false, [0], .whole, .none⟩,
  ⟨Ix.STO_POST, 1, 0x1, 0, 0, .u8, (.rw .integrator), .live, .none, false, [0], .within [(1, 1)], .none⟩,
  ⟨Ix.SUP_STATUS, 1, 0x1, 0, 0, .u16, .ro, .dash, .none, false, [0], .whole, .none⟩,
  ⟨Ix.SUP_VBAT, 1, 0x1, 0, 0, .u16, .ro, .dash, .none, false, [0], .whole, .none⟩,
  ⟨Ix.SUP_VIO, 1, 0x1, 0, 0, .u16, .ro, .dash, .none, false, [0], .whole, .none⟩,
  ⟨Ix.SUP_VGD, 1, 0x1, 0, 0, .u16, .ro, .dash, .none, false, [0], .whole, .none⟩,
  ⟨Ix.SUP_VCC5, 1, 0x1, 0, 0, .u16, .ro, .dash, .none, false, [0], .whole, .none⟩,
  ⟨Ix.SUP_VHOLD, 1, 0x1, 0, 0, .u16, .ro, .dash, .none, false, [0], .whole, .none⟩,
  ⟨Ix.SUP_HOLD_CAP, 1, 0x1, 0, 0, .u16, .ro, .dash, .none, false, [0], .whole, .none⟩,
  ⟨Ix.SUP_VBAT_NOMINAL, 1, 0x1, 0, 0, .u32, (.rw .integrator), .frozen, .allAxes, true, [0x2EE0], .within [(6000, 60000)], .none⟩]

/-- Rows of the object tables (Dev, part 2). -/
def rowsDev2 : List ObjRow := [
  ⟨Ix.SUP_BOW_LEVEL, 1, 0x1, 0, 0, .u32, (.rw .integrator), .live, .none, true, [0x1770], .within [(5600, 50000)], .none⟩,
  ⟨Ix.SUP_RESET_CAUSE, 1, 0x1, 0, 0, .u16, (.clr .integrator), .live, .none, false, [0], .whole, .none⟩,
  ⟨Ix.SUP_RESET_COUNT, 1, 0x1, 0, 0, .u32, (.clr .integrator), .live, .none, false, [0], .whole, .none⟩,
  ⟨Ix.SUP_RESET, 1, 0x1, 0, 0, .u8, (.wo .integrator), .frozen, .allAxes, false, [0], .within [(1, 1)], .none⟩,
  ⟨Ix.SUP_BOOT_TIME, 1, 0x1, 0, 0, .u32, .ro, .dash, .none, false, [0], .whole, .none⟩,
  ⟨Ix.SUP_CHECKPOINTS, 1, 0x1, 0, 0, .u32, .ro, .dash, .none, false, [0], .whole, .none⟩,
  ⟨Ix.SUP_PACE_REQ, 1, 0x1, 0, 0, .u8, (.rw .operator), .live, .none, false, [1], .within [(0, 2)], .none⟩,
  ⟨Ix.SUP_PACE_ACTIVE, 1, 0x1, 0, 0, .u8, .ro, .dash, .none, false, [1], .whole, .none⟩,
  ⟨Ix.SUP_PACE_BOOT, 1, 0x1, 0, 0, .u8, (.rw .integrator), .live, .none, true, [1], .within [(0, 2)], .none⟩,
  ⟨Ix.SUP_PACE_CHANGES, 1, 0x1, 0, 0, .u32, (.clr .integrator), .live, .none, false, [0], .whole, .none⟩,
  ⟨Ix.SUP_SLEEP, 1, 0x1, 0, 0, .u8, (.wo .operator), .frozen, .allAxes, false, [0], .within [(1, 1)], .none⟩,
  ⟨Ix.SUP_WAKE_EN, 1, 0x1, 0, 0, .u8, (.rw .integrator), .live, .none, true, [3], .within [(0, 31)], .none⟩,
  ⟨Ix.SUP_WAKE_PIN_MODE, 1, 0x1, 0, 0, .u8, (.rw .integrator), .live, .none, true, [0], .within [(0, 2)], .none⟩,
  ⟨Ix.SUP_WAKE_TIMER, 1, 0x1, 0, 0, .u16, (.rw .integrator), .live, .none, true, [0], .whole, .none⟩,
  ⟨Ix.SUP_WAKE_CAUSE, 1, 0x1, 0, 0, .u8, .ro, .dash, .none, false, [255], .whole, .none⟩,
  ⟨Ix.SUP_BOOT_BANK_PREF, 1, 0x1, 0, 0, .u8, (.rw .custodian), .frozen, .allAxes, false, [0], .within [(0, 1)], .none⟩,
  ⟨Ix.SUP_BOOT_TRIAL, 1, 0x1, 0, 0, .u8, .ro, .dash, .none, false, [0], .whole, .none⟩,
  ⟨Ix.STO_LEDGER_HEAD, 1, 0x1, 0, 0, .u32, .ro, .dash, .none, false, [0], .whole, .none⟩,
  ⟨Ix.STO_LEDGER_STATUS, 1, 0x1, 0, 0, .u16, .ro, .dash, .none, false, [0], .whole, .none⟩,
  ⟨Ix.STO_POST_TIME, 1, 0x1, 0, 0, .u32, .ro, .dash, .none, false, [0], .whole, .none⟩,
  ⟨Ix.STO_DIVERGED, 1, 0x1, 0, 0, .u16, (.clr .integrator), .live, .none, false, [0], .whole, .none⟩,
  ⟨Ix.STO_RECORDS_LOST, 1, 0x1, 0, 0, .u16, .ro, .dash, .none, false, [0], .whole, .none⟩,
  ⟨Ix.STO_CP_SERIAL, 1, 0x1, 0, 0, .u32, .ro, .dash, .none, false, [0], .whole, .none⟩,
  ⟨Ix.STO_CAL_RECORD, 1, 0x1, 0, 0, .blob, (.rw .integrator), .frozen, .allAxes, true, [0], .whole, .none⟩]

/-- Rows of the object tables (Dev, part 3). -/
def rowsDev3 : List ObjRow := [
  ⟨Ix.STO_CAL_ORIGIN, 1, 0x1, 0, 0, .u8, .ro, .dash, .none, false, [0], .whole, .none⟩,
  ⟨Ix.STO_CAL_WRITES, 1, 0x1, 0, 0, .u32, .ro, .dash, .none, false, [0], .whole, .none⟩,
  ⟨Ix.STO_OTP_SEL, 1, 0x1, 0, 0, .u8, (.rw .integrator), .live, .none, false, [0], .whole, .none⟩,
  ⟨Ix.STO_OTP_WORD, 1, 0x1, 0, 0, .u8, .ro, .dash, .none, false, [4], .whole, .none⟩,
  ⟨Ix.STO_OTP_WORD, 1, 0x1, 1, 1, .u32, .ro, .dash, .none, false, [0], .whole, .none⟩,
  ⟨Ix.STO_OTP_WORD, 1, 0x1, 2, 3, .u8, .ro, .dash, .none, false, [0], .whole, .none⟩,
  ⟨Ix.STO_OTP_WORD, 1, 0x1, 4, 4, .u64, .ro, .dash, .none, false, [0], .whole, .none⟩,
  ⟨Ix.STO_OTP_BANKS, 1, 0x1, 0, 0, .u32, .ro, .dash, .none, false, [0x4000_0000], .whole, .none⟩,
  ⟨Ix.STO_OTP_PROG_ADDR, 1, 0x1, 0, 0, .u8, (.rw .custodian), .live, .none, false, [0], .whole, .none⟩,
  ⟨Ix.STO_OTP_PROG_DATA, 1, 0x1, 0, 0, .u32, (.wo .custodian), .live, .none, false, [0], .whole, .none⟩,
  ⟨Ix.STO_OTP_PROG_CMD, 1, 0x1, 0, 0, .u8, (.wo .custodian), .frozen, .allAxes, false, [0], .within [(1, 4)], .none⟩,
  ⟨Ix.STO_OTP_PROG_STATUS, 1, 0x1, 0, 0, .u8, .ro, .dash, .none, false, [0], .whole, .none⟩]

/-- All rows of the tables named above. -/
def rowsDev : List ObjRow := rowsDev0 ++ rowsDev1 ++ rowsDev2 ++ rowsDev3

end Sys2Proof.Machine
end

