-- ==== Sys2Proof/Machine/ObjEng.lean ====
section
/-! DEFINITION. The object tables of the spec, as rows: R208, R225, R255, R276 (Tables 10.8, 11.6, 12.8, 13.4).
One row for a run of subindices with the same attributes; subindex 0x00 of a record (R39) is not listed, `countRow` gives it. -/

namespace Sys2Proof.Machine

/-- Rows of the object tables (Eng, part 0). -/
def rowsEng0 : List ObjRow := [
  ⟨Ix.AX_CE_STATUS, 8, 0x200, 0, 0, .u16, (.clr .operator), .live, .none, false, [0], .whole, .none⟩,
  ⟨Ix.AX_CE_MODE, 8, 0x200, 1, 6, .u8, (.rw .operator), .live, .none, true, [2, 2, 0, 0, 0, 0], .within [(0, 2)], .none⟩,
  ⟨Ix.AX_CE_REF, 8, 0x200, 1, 6, .frac16, (.rw .operator), .live, .none, false, [0], .whole, .none⟩,
  ⟨Ix.AX_CE_MANUAL, 8, 0x200, 1, 6, .frac16, (.rw .operator), .live, .none, false, [0], .whole, .none⟩,
  ⟨Ix.AX_CE_OUT, 8, 0x200, 1, 6, .frac16, .ro, .dash, .none, false, [0], .whole, .none⟩,
  ⟨Ix.AX_CE_ERR, 8, 0x200, 1, 6, .i32, .ro, .dash, .none, false, [0], .whole, .none⟩,
  ⟨Ix.AX_CE_INTEG, 8, 0x200, 1, 6, .acc40, .ro, .dash, .none, false, [0], .whole, .none⟩,
  ⟨Ix.AX_CE_SLOT_STATUS, 8, 0x200, 1, 6, .u16, (.clr .operator), .live, .none, false, [0], .whole, .none⟩,
  ⟨Ix.AX_CE_SLACK, 8, 0x200, 1, 6, .i32, .ro, .dash, .none, false, [0x7FFFFFFF], .whole, .none⟩,
  ⟨Ix.AX_CE_MISS_COUNT, 8, 0x200, 1, 6, .u32, (.clr .integrator), .live, .none, false, [0], .whole, .none⟩,
  ⟨Ix.AX_CE_POS_REF, 8, 0x200, 0, 0, .pos32, (.rw .operator), .live, .none, false, [0], .whole, .none⟩,
  ⟨Ix.AX_CE_FB_EXT, 8, 0x200, 1, 6, .frac16, (.rw .operator), .live, .none, false, [0], .whole, .none⟩,
  ⟨Ix.AX_CE_MISS_LIMIT, 8, 0x200, 0, 0, .u8, (.rw .integrator), .live, .none, true, [3], .within [(1, 255)], .none⟩,
  ⟨Ix.AX_CE_RESIDUAL, 8, 0x200, 1, 2, .i32, .ro, .dash, .none, false, [0], .whole, .none⟩,
  ⟨Ix.AX_CE_PLAUS_COUNT, 8, 0x200, 0, 0, .u32, (.clr .integrator), .live, .none, false, [0], .whole, .none⟩,
  ⟨Ix.AX_CE_MODEL_G, 8, 0x200, 1, 2, .gain16, .ro, .dash, .none, false, [0], .whole, .none⟩,
  ⟨Ix.AX_CE_SRC, 8, 0x200, 1, 6, .u16, (.rw .integrator), .staged, .none, true, [0], .packed .ceSrc, .none⟩,
  ⟨Ix.AX_CE_DIV, 8, 0x200, 1, 6, .u16, (.rw .integrator), .staged, .none, true, [1, 1, 10, 10, 100, 100], .within [(1, 65535)], .none⟩,
  ⟨Ix.AX_CE_ESPAN, 8, 0x200, 1, 6, .u8, (.rw .integrator), .staged, .none, true, [1], .within [(0, 7)], .none⟩,
  ⟨Ix.AX_CE_KI_SHIFT, 8, 0x200, 1, 6, .u8, (.rw .integrator), .staged, .none, true, [0], .within [(0, 15)], .none⟩,
  ⟨Ix.AX_CE_OUT_MAX, 8, 0x200, 1, 6, .frac16, (.rw .integrator), .staged, .none, true, [0x7FFF], .whole, .upper⟩,
  ⟨Ix.AX_CE_OUT_MIN, 8, 0x200, 1, 6, .frac16, (.rw .integrator), .staged, .none, true, [0x8000], .whole, .lower⟩,
  ⟨Ix.AX_CE_RAMP, 8, 0x200, 1, 6, .frac16, (.rw .integrator), .staged, .none, true, [0], .whole, .none⟩,
  ⟨Ix.AX_CE_I_LIMIT, 8, 0x200, 0, 0, .frac16, (.rw .integrator), .staged, .none, true, [0x7FFF], .within [(1, 32767)], .upper⟩]

/-- Rows of the object tables (Eng, part 1). -/
def rowsEng1 : List ObjRow := [
  ⟨Ix.AX_CE_POS_SHIFT, 8, 0x200, 0, 0, .u8, (.rw .integrator), .staged, .none, true, [16], .within [(0, 30)], .none⟩,
  ⟨Ix.AX_CE_MODEL, 8, 0x200, 1, 4, .gain16, (.rw .integrator), .staged, .none, true, [0], .whole, .none⟩,
  ⟨Ix.AX_CE_PLAUS_CFG, 8, 0x200, 1, 1, .frac16, (.rw .integrator), .staged, .none, true, [0xCCD], .within [(1, 32767)], .none⟩,
  ⟨Ix.AX_CE_PLAUS_CFG, 8, 0x200, 2, 2, .u16, (.rw .integrator), .staged, .none, true, [20], .within [(1, 65535)], .none⟩,
  ⟨Ix.AX_CE_PLAUS_CFG, 8, 0x200, 3, 3, .u8, (.rw .integrator), .staged, .none, true, [0], .within [(0, 1)], .none⟩,
  ⟨Ix.AX_CE_FF_CFG, 8, 0x200, 1, 1, .u8, (.rw .integrator), .staged, .none, true, [0], .within [(0, 3)], .none⟩,
  ⟨Ix.AX_CE_FF_CFG, 8, 0x200, 2, 2, .frac16, (.rw .integrator), .staged, .none, true, [0], .within [(0, 32767)], .none⟩,
  ⟨Ix.AX_CE_FF_CFG, 8, 0x200, 3, 3, .pos32, (.rw .integrator), .staged, .none, true, [0], .whole, .none⟩,
  ⟨Ix.AX_CE_FF_CFG, 8, 0x200, 4, 5, .u32, (.rw .integrator), .staged, .none, true, [0x10000], .within [(1, 2147483648)], .none⟩,
  ⟨Ix.AX_CE_BANK_SEL, 8, 0x200, 0, 0, .u8, (.rw .integrator), .live, .none, false, [0], .within [(0, 1)], .none⟩,
  ⟨Ix.AX_CE_COMMIT, 8, 0x200, 0, 0, .u8, (.rw .integrator), .live, .none, false, [0], .within [(1, 2)], .none⟩,
  ⟨Ix.AX_CE_GAIN_TABLE, 8, 0x200, 1, 6, .table, (.rw .integrator), .staged, .none, true, [0], .whole, .none⟩,
  ⟨Ix.AX_CE_FRICTION, 8, 0x200, 0, 0, .table, (.rw .integrator), .staged, .none, true, [0], .whole, .none⟩,
  ⟨Ix.AX_CE_COGGING, 8, 0x200, 0, 0, .table, (.rw .integrator), .staged, .none, true, [0], .whole, .none⟩,
  ⟨Ix.AX_SC_STATUS, 8, 0x200, 0, 0, .u16, (.clr .operator), .live, .none, false, [0], .whole, .none⟩,
  ⟨Ix.AX_SC_PREDICT, 8, 0x200, 0, 0, .u8, (.rw .integrator), .live, .none, true, [1], .within [(0, 2)], .none⟩,
  ⟨Ix.AX_SC_PRED_LIMIT, 8, 0x200, 0, 0, .u8, (.rw .integrator), .live, .none, true, [1], .within [(0, 8)], .none⟩,
  ⟨Ix.AX_SC_RATE_MIN, 8, 0x200, 0, 0, .u16, (.rw .integrator), .live, .none, true, [0x384], .within [(0, 1000)], .none⟩,
  ⟨Ix.AX_SC_HIT_RATE, 8, 0x200, 0, 0, .u16, .ro, .dash, .none, false, [0], .whole, .none⟩,
  ⟨Ix.AX_SC_COUNT, 8, 0x200, 1, 5, .u32, (.clr .integrator), .live, .none, false, [0], .whole, .none⟩,
  ⟨Ix.AX_SC_MISS_CAUSE, 8, 0x200, 1, 5, .u32, (.clr .integrator), .live, .none, false, [0], .whole, .none⟩,
  ⟨Ix.AX_SC_LAST_DELTA, 8, 0x200, 1, 2, .i32, .ro, .dash, .none, false, [0], .whole, .none⟩,
  ⟨Ix.AX_SC_VIEW_VD, 8, 0x200, 1, 1, .frac16, .ro, .dash, .none, false, [0], .whole, .none⟩,
  ⟨Ix.AX_SC_VIEW_VD, 8, 0x200, 2, 2, .bool, .ro, .dash, .none, false, [0], .whole, .none⟩]

/-- Rows of the object tables (Eng, part 2). -/
def rowsEng2 : List ObjRow := [
  ⟨Ix.AX_SC_VIEW_VQ, 8, 0x200, 1, 1, .frac16, .ro, .dash, .none, false, [0], .whole, .none⟩,
  ⟨Ix.AX_SC_VIEW_VQ, 8, 0x200, 2, 2, .bool, .ro, .dash, .none, false, [0], .whole, .none⟩,
  ⟨Ix.AX_SC_VIEW_ID_PRED, 8, 0x200, 1, 1, .frac16, .ro, .dash, .none, false, [0], .whole, .none⟩,
  ⟨Ix.AX_SC_VIEW_ID_PRED, 8, 0x200, 2, 2, .bool, .ro, .dash, .none, false, [0], .whole, .none⟩,
  ⟨Ix.AX_SC_VIEW_IQ_PRED, 8, 0x200, 1, 1, .frac16, .ro, .dash, .none, false, [0], .whole, .none⟩,
  ⟨Ix.AX_SC_VIEW_IQ_PRED, 8, 0x200, 2, 2, .bool, .ro, .dash, .none, false, [0], .whole, .none⟩,
  ⟨Ix.AX_SC_TRACE_CFG, 8, 0x200, 0, 0, .u8, (.rw .integrator), .live, .none, false, [0], .within [(0, 7)], .none⟩,
  ⟨Ix.AX_SC_TRACE, 8, 0x200, 0, 0, .blob, .ro, .dash, .none, false, [0], .whole, .none⟩,
  ⟨Ix.AX_FE_STATUS, 8, 0x200, 0, 0, .u16, (.clr .operator), .live, .none, false, [0], .whole, .none⟩,
  ⟨Ix.AX_FE_STATE, 8, 0x200, 0, 0, .u8, .ro, .dash, .none, false, [0], .whole, .none⟩,
  ⟨Ix.AX_FE_ANGLE, 8, 0x200, 0, 0, .angle16, .ro, .dash, .none, false, [0], .whole, .none⟩,
  ⟨Ix.AX_FE_SPEED, 8, 0x200, 0, 0, .speed32, .ro, .dash, .none, false, [0], .whole, .none⟩,
  ⟨Ix.AX_FE_POSITION, 8, 0x200, 0, 0, .pos32, (.rw .operator), .live, .none, false, [0], .whole, .none⟩,
  ⟨Ix.AX_FE_IDQ, 8, 0x200, 1, 2, .frac16, .ro, .dash, .none, false, [0], .whole, .none⟩,
  ⟨Ix.AX_FE_VDQ, 8, 0x200, 1, 2, .frac16, .ro, .dash, .none, false, [0], .whole, .none⟩,
  ⟨Ix.AX_FE_MOD, 8, 0x200, 0, 0, .i32, .ro, .dash, .none, false, [0], .whole, .none⟩,
  ⟨Ix.AX_FE_VLINK, 8, 0x200, 0, 0, .frac16, .ro, .dash, .none, false, [0], .whole, .none⟩,
  ⟨Ix.AX_FE_COMM_COUNT, 8, 0x200, 1, 2, .u32, .ro, .dash, .none, false, [0], .whole, .none⟩,
  ⟨Ix.AX_FE_COMM_COUNT, 8, 0x200, 3, 3, .time64, .ro, .dash, .none, false, [0], .whole, .none⟩,
  ⟨Ix.AX_FE_COMM_COUNT, 8, 0x200, 4, 4, .u8, .ro, .dash, .none, false, [0], .whole, .none⟩,
  ⟨Ix.AX_FE_FLUX, 8, 0x200, 1, 2, .frac16, .ro, .dash, .none, false, [0], .whole, .none⟩,
  ⟨Ix.AX_FE_TRACK_ERR, 8, 0x200, 1, 2, .frac16, .ro, .dash, .none, false, [0], .whole, .none⟩,
  ⟨Ix.AX_FE_HANDOVERS, 8, 0x200, 1, 4, .u32, (.clr .integrator), .live, .none, false, [0], .whole, .none⟩,
  ⟨Ix.AX_FE_FW_ID, 8, 0x200, 0, 0, .frac16, .ro, .dash, .none, false, [0], .whole, .none⟩]

/-- Rows of the object tables (Eng, part 3). -/
def rowsEng3 : List ObjRow := [
  ⟨Ix.AX_FE_CURRENT_COUNT, 8, 0x200, 1, 2, .u32, (.clr .integrator), .live, .none, false, [0], .whole, .none⟩,
  ⟨Ix.AX_FE_DERIVED, 8, 0x200, 1, 1, .frac16, .ro, .dash, .none, false, [0], .whole, .none⟩,
  ⟨Ix.AX_FE_DERIVED, 8, 0x200, 2, 4, .gain16, .ro, .dash, .none, false, [0], .whole, .none⟩,
  ⟨Ix.AX_FE_DERIVED, 8, 0x200, 5, 5, .u8, .ro, .dash, .none, false, [0], .whole, .none⟩,
  ⟨Ix.AX_FE_DERIVED, 8, 0x200, 6, 6, .gain16, .ro, .dash, .none, false, [0], .whole, .none⟩,
  ⟨Ix.AX_FE_DERIVED, 8, 0x200, 7, 7, .u32, .ro, .dash, .none, false, [0], .whole, .none⟩,
  ⟨Ix.AX_FE_ANGLE_SRC, 8, 0x200, 0, 0, .u8, (.rw .integrator), .staged, .none, true, [0], .within [(0, 2)], .none⟩,
  ⟨Ix.AX_FE_POS_PINS, 8, 0x200, 0, 0, .u32, (.rw .integrator), .staged, .none, true, [0xFFFFFFFF], .whole, .none⟩,
  ⟨Ix.AX_FE_POS_FILT, 8, 0x200, 0, 0, .u8, (.rw .integrator), .staged, .none, true, [5], .whole, .none⟩,
  ⟨Ix.AX_FE_HALL_MAP, 8, 0x200, 0, 0, .u32, (.rw .integrator), .staged, .none, true, [0xF354120F], .packed .hallMap, .none⟩,
  ⟨Ix.AX_FE_HALL_OFFSET, 8, 0x200, 0, 0, .angle16, (.rw .integrator), .staged, .none, true, [0], .whole, .none⟩,
  ⟨Ix.AX_FE_HALL_TMAX, 8, 0x200, 0, 0, .u16, (.rw .integrator), .staged, .none, true, [100], .within [(1, 1000)], .none⟩,
  ⟨Ix.AX_FE_ENC_CPE, 8, 0x200, 0, 0, .u32, (.rw .integrator), .staged, .none, true, [0x1000], .within [(4, 16777216)], .none⟩,
  ⟨Ix.AX_FE_ENC_OFFSET, 8, 0x200, 0, 0, .angle16, (.rw .integrator), .staged, .none, true, [0], .whole, .none⟩,
  ⟨Ix.AX_FE_GAP, 8, 0x200, 0, 0, .u16, (.rw .integrator), .staged, .none, true, [200], .within [(20, 5000)], .none⟩,
  ⟨Ix.AX_FE_DTC, 8, 0x200, 1, 1, .u8, (.rw .integrator), .staged, .none, true, [0], .within [(0, 1)], .none⟩,
  ⟨Ix.AX_FE_DTC, 8, 0x200, 2, 2, .frac16, (.rw .integrator), .staged, .none, true, [0x148], .within [(1, 32767)], .none⟩,
  ⟨Ix.AX_FE_OBS_CFG, 8, 0x200, 1, 1, .frac16, (.rw .integrator), .staged, .none, true, [33], .within [(0, 32767)], .none⟩,
  ⟨Ix.AX_FE_OBS_CFG, 8, 0x200, 2, 3, .gain16, (.rw .integrator), .staged, .none, true, [0x400, 64], .within [(0, 32767)], .none⟩,
  ⟨Ix.AX_FE_OBS_CFG, 8, 0x200, 4, 4, .u8, (.rw .integrator), .staged, .none, true, [4], .within [(0, 15)], .none⟩,
  ⟨Ix.AX_FE_OBS_CFG, 8, 0x200, 5, 5, .frac16, (.rw .integrator), .staged, .none, true, [0xCCD], .within [(1, 32767)], .none⟩,
  ⟨Ix.AX_FE_OBS_CFG, 8, 0x200, 6, 6, .u16, (.rw .integrator), .staged, .none, true, [64], .within [(1, 65535)], .none⟩,
  ⟨Ix.AX_FE_INJ_CFG, 8, 0x200, 1, 1, .u8, (.rw .integrator), .staged, .none, true, [0], .within [(0, 1)], .none⟩,
  ⟨Ix.AX_FE_INJ_CFG, 8, 0x200, 2, 2, .frac16, (.rw .integrator), .staged, .none, true, [0x800], .within [(1, 16384)], .none⟩]

/-- Rows of the object tables (Eng, part 4). -/
def rowsEng4 : List ObjRow := [
  ⟨Ix.AX_FE_INJ_CFG, 8, 0x200, 3, 4, .gain16, (.rw .integrator), .staged, .none, true, [0x400, 64], .within [(0, 32767)], .none⟩,
  ⟨Ix.AX_FE_INJ_CFG, 8, 0x200, 5, 5, .u8, (.rw .integrator), .staged, .none, true, [4], .within [(0, 15)], .none⟩,
  ⟨Ix.AX_FE_HANDOVER, 8, 0x200, 1, 2, .frac16, (.rw .integrator), .staged, .none, true, [0xCCD, 0x1333], .within [(1, 32767)], .none⟩,
  ⟨Ix.AX_FE_HANDOVER, 8, 0x200, 3, 3, .u16, (.rw .integrator), .staged, .none, true, [64], .within [(1, 65535)], .none⟩,
  ⟨Ix.AX_FE_HANDOVER, 8, 0x200, 4, 4, .angle16, (.rw .integrator), .staged, .none, true, [0xE39], .within [(1, 16383)], .none⟩,
  ⟨Ix.AX_FE_HANDOVER, 8, 0x200, 5, 5, .u8, (.rw .integrator), .staged, .none, true, [3], .within [(1, 255)], .none⟩,
  ⟨Ix.AX_FE_FW_CFG, 8, 0x200, 1, 1, .u8, (.rw .integrator), .staged, .none, true, [0], .within [(0, 1)], .none⟩,
  ⟨Ix.AX_FE_FW_CFG, 8, 0x200, 2, 2, .frac16, (.rw .integrator), .staged, .none, true, [0x799A], .within [(16384, 32767)], .none⟩,
  ⟨Ix.AX_FE_FW_CFG, 8, 0x200, 3, 3, .gain16, (.rw .integrator), .staged, .none, true, [16], .within [(0, 32767)], .none⟩,
  ⟨Ix.AX_FE_FW_CFG, 8, 0x200, 4, 4, .frac16, (.rw .integrator), .staged, .none, true, [0xC000], .within [(-32768, 0)], .lower⟩,
  ⟨Ix.AX_FE_COMMIT, 8, 0x200, 0, 0, .u8, (.rw .integrator), .live, .none, false, [0], .within [(1, 2)], .none⟩,
  ⟨Ix.AX_FE_SINE, 8, 0x200, 0, 0, .table, .ro, .dash, .none, false, [0], .whole, .none⟩,
  ⟨Ix.POS_LEVELS, 1, 0x1, 0, 0, .u16, .ro, .dash, .none, false, [0], .whole, .none⟩,
  ⟨Ix.POS_OWNER, 1, 0x1, 1, 16, .u8, .ro, .dash, .none, false, [255], .whole, .none⟩,
  ⟨Ix.AX_ST_STATUS, 8, 0x200, 0, 0, .u16, (.clr .operator), .live, .none, false, [0], .whole, .none⟩,
  ⟨Ix.AX_ST_STATE, 8, 0x200, 0, 0, .u8, .ro, .dash, .none, false, [0], .whole, .none⟩,
  ⟨Ix.AX_ST_CMD, 8, 0x200, 0, 0, .u8, (.wo .operator), .live, .none, false, [0], .within [(1, 2)], .none⟩,
  ⟨Ix.AX_ST_FLAGS, 8, 0x200, 0, 0, .u8, (.rw .integrator), .staged, .none, true, [2], .within [(0, 3)], .none⟩,
  ⟨Ix.AX_ST_ALIGN, 8, 0x200, 1, 1, .angle16, (.rw .integrator), .staged, .none, true, [0], .whole, .none⟩,
  ⟨Ix.AX_ST_ALIGN, 8, 0x200, 2, 2, .frac16, (.rw .integrator), .staged, .none, true, [0x1000], .within [(1, 32767)], .none⟩,
  ⟨Ix.AX_ST_ALIGN, 8, 0x200, 3, 3, .u16, (.rw .integrator), .staged, .none, true, [100], .within [(2, 5000)], .none⟩,
  ⟨Ix.AX_ST_RAMP, 8, 0x200, 1, 2, .frac16, (.rw .integrator), .staged, .none, true, [0x1000, 0x1333], .within [(1, 32767)], .none⟩,
  ⟨Ix.AX_ST_RAMP, 8, 0x200, 3, 3, .u16, (.rw .integrator), .staged, .none, true, [0x3E8], .within [(10, 30000)], .none⟩,
  ⟨Ix.AX_ST_RAMP, 8, 0x200, 4, 4, .u16, (.rw .integrator), .staged, .none, true, [200], .within [(1, 5000)], .none⟩]

/-- Rows of the object tables (Eng, part 5). -/
def rowsEng5 : List ObjRow := [
  ⟨Ix.AX_ST_RETRY, 8, 0x200, 1, 1, .u8, (.rw .integrator), .staged, .none, true, [2], .within [(0, 7)], .none⟩,
  ⟨Ix.AX_ST_RETRY, 8, 0x200, 2, 2, .frac16, (.rw .integrator), .staged, .none, true, [0x400], .within [(0, 32767)], .none⟩,
  ⟨Ix.AX_ST_RETRY, 8, 0x200, 3, 3, .u16, (.rw .integrator), .staged, .none, true, [0x1F4], .within [(0, 10000)], .none⟩,
  ⟨Ix.AX_ST_PULSE, 8, 0x200, 1, 1, .frac16, (.rw .integrator), .staged, .none, true, [0x800], .within [(1, 16384)], .none⟩,
  ⟨Ix.AX_ST_PULSE, 8, 0x200, 2, 2, .u8, (.rw .integrator), .staged, .none, true, [2], .within [(1, 16)], .none⟩,
  ⟨Ix.AX_ST_PULSE, 8, 0x200, 3, 3, .u8, (.rw .integrator), .staged, .none, true, [8], .within [(1, 64)], .none⟩,
  ⟨Ix.AX_ST_PULSE, 8, 0x200, 4, 4, .frac16, (.rw .integrator), .staged, .none, true, [82], .within [(1, 32767)], .none⟩,
  ⟨Ix.AX_ST_CATCH, 8, 0x200, 1, 2, .frac16, (.rw .integrator), .staged, .none, true, [0xCCD, 0x148], .within [(1, 32767)], .none⟩,
  ⟨Ix.AX_ST_CATCH, 8, 0x200, 3, 3, .u16, (.rw .integrator), .staged, .none, true, [200], .within [(16, 2000)], .none⟩,
  ⟨Ix.AX_ST_CATCH, 8, 0x200, 4, 4, .frac16, (.rw .integrator), .staged, .none, true, [0x1000], .within [(1, 32767)], .upper⟩,
  ⟨Ix.AX_ST_TQ_RAMP, 8, 0x200, 0, 0, .frac16, (.rw .integrator), .staged, .none, true, [16], .within [(1, 32767)], .none⟩,
  ⟨Ix.AX_ST_LOCK, 8, 0x200, 1, 1, .u16, (.rw .integrator), .staged, .none, true, [0x1F4], .within [(10, 10000)], .none⟩,
  ⟨Ix.AX_ST_LOCK, 8, 0x200, 2, 2, .frac16, (.rw .integrator), .staged, .none, true, [0xCCD], .within [(1, 32767)], .none⟩,
  ⟨Ix.AX_ST_RESULT, 8, 0x200, 1, 1, .speed32, .ro, .dash, .none, false, [0], .whole, .none⟩,
  ⟨Ix.AX_ST_RESULT, 8, 0x200, 2, 2, .angle16, .ro, .dash, .none, false, [0], .whole, .none⟩,
  ⟨Ix.AX_ST_RESULT, 8, 0x200, 3, 3, .u8, .ro, .dash, .none, false, [0], .whole, .none⟩,
  ⟨Ix.AX_ST_RESULT, 8, 0x200, 4, 4, .angle16, .ro, .dash, .none, false, [0], .whole, .none⟩,
  ⟨Ix.AX_ST_RESULT, 8, 0x200, 5, 5, .u8, .ro, .dash, .none, false, [0], .whole, .none⟩,
  ⟨Ix.AX_ST_PULSE_I, 8, 0x200, 1, 12, .frac16, .ro, .dash, .none, false, [0], .whole, .none⟩,
  ⟨Ix.AX_ST_COUNT, 8, 0x200, 1, 7, .u32, (.clr .integrator), .live, .none, false, [0], .whole, .none⟩,
  ⟨Ix.AX_ST_COMMIT, 8, 0x200, 0, 0, .u8, (.rw .integrator), .live, .none, false, [0], .within [(1, 2)], .none⟩]

/-- All rows of the tables named above. -/
def rowsEng : List ObjRow := rowsEng0 ++ rowsEng1 ++ rowsEng2 ++ rowsEng3 ++ rowsEng4 ++ rowsEng5

end Sys2Proof.Machine
end

