-- ==== Sys2Proof/Machine/ObjGda.lean ====
section
/-! DEFINITION. The object tables of the spec, as rows: R136, R155, R183 (Tables 7.10, 8.12, 9.11).
One row for a run of subindices with the same attributes; subindex 0x00 of a record (R39) is not listed, `countRow` gives it. -/

namespace Sys2Proof.Machine

/-- Rows of the object tables (Gda, part 0). -/
def rowsGda0 : List ObjRow := [
  ⟨Ix.GDA_HITCH_AX, 8, 0x1, 0, 0, .u8, .ro, .dash, .none, false, [5], .whole, .none⟩,
  ⟨Ix.GDA_HITCH_AX, 8, 0x1, 1, 1, .u8, (.rw .integrator), .staged, .none, true, [0], .within [(0, 3)], .none⟩,
  ⟨Ix.GDA_HITCH_AX, 8, 0x1, 2, 5, .u8, (.rw .integrator), .staged, .none, true, [255], .within [(0, 23), (255, 255)], .none⟩,
  ⟨Ix.GDA_HITCH_COMMIT, 1, 0x1, 0, 0, .u8, (.rw .integrator), .live, .none, false, [0], .within [(1, 2)], .none⟩,
  ⟨Ix.GDA_LEG_OWNER, 1, 0x1, 1, 24, .u8, .ro, .dash, .none, false, [255], .whole, .none⟩,
  ⟨Ix.GDA_GATE_DRIVE, 1, 0x1, 1, 24, .u16, (.rw .integrator), .frozen, .owningAxis, true, [0x3333], .whole, .none⟩,
  ⟨Ix.GDA_GUARD, 1, 0x1, 1, 24, .u8, (.rw .integrator), .frozen, .owningAxis, true, [20], .within [(2, 127)], .none⟩,
  ⟨Ix.GDA_TRIP_STATE, 1, 0x1, 1, 24, .u8, (.rw .integrator), .frozen, .owningAxis, true, [0], .within [(0, 1)], .none⟩,
  ⟨Ix.GDA_DS_CFG, 1, 0x1, 1, 24, .u16, (.rw .integrator), .frozen, .owningAxis, true, [0x4469], .within [(0, 49151)], .none⟩,
  ⟨Ix.GDA_OC_CFG, 1, 0x1, 1, 24, .u16, (.rw .integrator), .frozen, .owningAxis, true, [0x42F0], .packed .ocCfg, .ocThresh⟩,
  ⟨Ix.GDA_TRIPA_MASK, 1, 0x1, 0, 0, .u32, (.rw .integrator), .frozen, .allAxes, true, [0xFFFFFF], .within [(0, 16777215)], .none⟩,
  ⟨Ix.GDA_TRIPB_MASK, 1, 0x1, 0, 0, .u32, (.rw .integrator), .frozen, .allAxes, true, [0xFFFFFF], .within [(0, 16777215)], .none⟩,
  ⟨Ix.GDA_TRIP_QUAL, 1, 0x1, 1, 4, .u16, (.rw .integrator), .live, .none, true, [10, 10, 100, 100], .within [(1, 10000)], .none⟩,
  ⟨Ix.GDA_TRIP_LATCH, 1, 0x1, 0, 0, .u32, .ro, .dash, .none, false, [0], .whole, .none⟩,
  ⟨Ix.GDA_TRIP_CLEAR, 1, 0x1, 0, 0, .u32, (.wo .operator), .live, .none, false, [0], .within [(0, 16777215)], .none⟩,
  ⟨Ix.GDA_TRIP_ACTIVE, 1, 0x1, 0, 0, .u32, .ro, .dash, .none, false, [0], .whole, .none⟩,
  ⟨Ix.GDA_TRIP_FIRST, 1, 0x1, 1, 2, .u8, .ro, .dash, .none, false, [255], .whole, .none⟩,
  ⟨Ix.GDA_TRIP_FIRST, 1, 0x1, 3, 3, .time64, .ro, .dash, .none, false, [0], .whole, .none⟩,
  ⟨Ix.GDA_HOBBLE_CMD, 1, 0x1, 0, 0, .u8, (.rw .operator), .live, .none, false, [0], .within [(0, 1)], .none⟩,
  ⟨Ix.GDA_GUARD_COUNT, 1, 0x1, 1, 24, .u32, (.clr .integrator), .live, .none, false, [0], .whole, .none⟩,
  ⟨Ix.GDA_TRIP_COUNT, 1, 0x1, 1, 24, .u32, (.clr .integrator), .live, .none, false, [0], .whole, .none⟩,
  ⟨Ix.GDA_CLEAR_REFUSED_COUNT, 1, 0x1, 0, 0, .u32, (.clr .integrator), .live, .none, false, [0], .whole, .none⟩,
  ⟨Ix.GDA_BST_UV, 1, 0x1, 0, 0, .u32, .ro, .dash, .none, false, [0], .whole, .none⟩,
  ⟨Ix.AX_EDP_STATUS, 8, 0x200, 0, 0, .u16, (.clr .operator), .live, .none, false, [0], .whole, .none⟩]

/-- Rows of the object tables (Gda, part 1). -/
def rowsGda1 : List ObjRow := [
  ⟨Ix.AX_EDP_PERIOD, 8, 0x200, 0, 0, .u32, (.rw .integrator), .staged, .none, true, [0xC800], .within [(1, 16777215)], .none⟩,
  ⟨Ix.AX_EDP_PRESCALE, 8, 0x200, 0, 0, .u8, (.rw .integrator), .staged, .none, true, [0], .within [(0, 7)], .none⟩,
  ⟨Ix.AX_EDP_PHASE, 8, 0x200, 0, 0, .u32, (.rw .integrator), .staged, .none, true, [0], .whole, .none⟩,
  ⟨Ix.AX_EDP_MARK, 8, 0x200, 1, 2, .u32, (.rw .integrator), .staged, .none, true, [0], .whole, .none⟩,
  ⟨Ix.AX_EDP_EVT, 8, 0x200, 1, 4, .u32, (.rw .integrator), .staged, .none, true, [0x3000001, 0, 0, 0], .packed .edpEvt, .none⟩,
  ⟨Ix.AX_EDP_LATE_LIMIT, 8, 0x200, 0, 0, .u8, (.rw .integrator), .live, .none, true, [3], .within [(1, 254)], .none⟩,
  ⟨Ix.AX_EDP_MODE, 8, 0x200, 0, 0, .u8, (.rw .integrator), .frozen, .axisN, false, [0], .within [(0, 1)], .none⟩,
  ⟨Ix.AX_EDP_MANUAL, 8, 0x200, 0, 0, .table, (.rw .integrator), .live, .none, false, [0], .whole, .none⟩,
  ⟨Ix.AX_EDP_MINP, 8, 0x200, 1, 4, .u8, (.rw .integrator), .frozen, .axisN, true, [10], .within [(4, 250)], .none⟩,
  ⟨Ix.AX_EDP_POLICY, 8, 0x200, 1, 4, .u8, (.rw .integrator), .frozen, .axisN, true, [0], .within [(0, 2)], .none⟩,
  ⟨Ix.AX_EDP_NREF, 8, 0x200, 1, 4, .u8, (.rw .integrator), .frozen, .axisN, true, [16], .within [(1, 255)], .none⟩,
  ⟨Ix.AX_EDP_TREF, 8, 0x200, 1, 4, .u8, (.rw .integrator), .frozen, .axisN, true, [50], .within [(10, 250)], .none⟩,
  ⟨Ix.AX_EDP_REF_GAP, 8, 0x200, 0, 0, .u8, (.rw .integrator), .frozen, .axisN, true, [20], .within [(2, 127)], .none⟩,
  ⟨Ix.AX_EDP_CARRY, 8, 0x200, 1, 4, .i32, .ro, .dash, .none, false, [0], .whole, .none⟩,
  ⟨Ix.AX_EDP_SLACK, 8, 0x200, 0, 0, .i32, .ro, .dash, .none, false, [0x7FFFFFFF], .whole, .none⟩,
  ⟨Ix.AX_EDP_LATE_COUNT, 8, 0x200, 0, 0, .u32, (.clr .integrator), .live, .none, false, [0], .whole, .none⟩,
  ⟨Ix.AX_EDP_LATE_SETS, 8, 0x200, 0, 0, .u32, (.clr .integrator), .live, .none, false, [0], .whole, .none⟩,
  ⟨Ix.AX_EDP_CARRY_DROP, 8, 0x200, 0, 0, .u32, (.clr .integrator), .live, .none, false, [0], .whole, .none⟩,
  ⟨Ix.AX_EDP_MINP_COUNT, 8, 0x200, 1, 4, .u32, (.clr .integrator), .live, .none, false, [0], .whole, .none⟩,
  ⟨Ix.AX_EDP_REF_COUNT, 8, 0x200, 1, 4, .u32, (.clr .integrator), .live, .none, false, [0], .whole, .none⟩,
  ⟨Ix.AX_EDP_PERIOD_SEQ, 8, 0x200, 0, 0, .u32, .ro, .dash, .none, false, [0], .whole, .none⟩,
  ⟨Ix.AX_EDP_COMMIT, 8, 0x200, 0, 0, .u8, (.rw .integrator), .live, .none, false, [0], .within [(1, 2)], .none⟩,
  ⟨Ix.CNV_STATUS, 1, 0x1, 0, 0, .u16, (.clr .operator), .live, .none, false, [0], .whole, .none⟩,
  ⟨Ix.CNV_CS_GAIN, 1, 0x1, 1, 24, .u8, (.rw .integrator), .staged, .none, true, [2], .within [(0, 3)], .none⟩]

/-- Rows of the object tables (Gda, part 2). -/
def rowsGda2 : List ObjRow := [
  ⟨Ix.CNV_PV_RANGE, 1, 0x1, 1, 24, .u8, (.rw .integrator), .staged, .none, true, [0], .within [(0, 2)], .none⟩,
  ⟨Ix.CNV_GROUP, 8, 0x1, 1, 4, .u32, (.rw .integrator), .staged, .none, true, [0xFFFFFFFF], .packed .holdList, .none⟩,
  ⟨Ix.CNV_GROUP, 8, 0x1, 5, 5, .u16, (.rw .integrator), .staged, .none, true, [48], .within [(2, 1600)], .none⟩,
  ⟨Ix.CNV_GROUP, 8, 0x1, 6, 6, .u8, (.rw .integrator), .staged, .none, true, [0], .within [(0, 7)], .none⟩,
  ⟨Ix.CNV_GROUP_CNT, 8, 0x1, 1, 4, .u32, (.clr .integrator), .live, .none, false, [0], .whole, .none⟩,
  ⟨Ix.CNV_GROUP_CNT, 8, 0x1, 5, 5, .u16, (.clr .integrator), .live, .none, false, [0], .whole, .none⟩,
  ⟨Ix.CNV_LAST, 8, 0x1, 1, 4, .frac16, .ro, .dash, .none, false, [0], .whole, .none⟩,
  ⟨Ix.CNV_LAST, 8, 0x1, 5, 5, .u32, .ro, .dash, .none, false, [0], .whole, .none⟩,
  ⟨Ix.CNV_LAST, 8, 0x1, 6, 6, .fine32, .ro, .dash, .none, false, [0], .whole, .none⟩,
  ⟨Ix.CNV_PV_SCALE, 1, 0x1, 1, 8, .gain16, .ro, .dash, .none, false, [0], .whole, .none⟩,
  ⟨Ix.CNV_CAL_CHAN, 1, 0x1, 0, 0, .u8, (.rw .integrator), .live, .none, false, [0], .within [(0, 55)], .none⟩,
  ⟨Ix.CNV_CAL_AVG, 1, 0x1, 0, 0, .u8, (.rw .integrator), .live, .none, false, [10], .within [(4, 12)], .none⟩,
  ⟨Ix.CNV_CAL_REF, 1, 0x1, 0, 0, .frac16, (.rw .integrator), .live, .none, false, [0], .whole, .none⟩,
  ⟨Ix.CNV_CAL_CMD, 1, 0x1, 0, 0, .u8, (.wo .integrator), .live, .none, false, [0], .within [(1, 3)], .none⟩,
  ⟨Ix.CNV_CAL_STATUS, 1, 0x1, 0, 0, .u8, .ro, .dash, .none, false, [0], .whole, .none⟩,
  ⟨Ix.CNV_CAL_RESULT, 1, 0x1, 1, 2, .i32, .ro, .dash, .none, false, [0], .whole, .none⟩,
  ⟨Ix.CNV_CAL_RESULT, 1, 0x1, 3, 3, .gain16, .ro, .dash, .none, false, [0x1000], .whole, .none⟩,
  ⟨Ix.CNV_CAL_RESULT, 1, 0x1, 4, 4, .frac16, .ro, .dash, .none, false, [0], .whole, .none⟩,
  ⟨Ix.CNV_CAL_RESULT, 1, 0x1, 5, 5, .temp16, .ro, .dash, .none, false, [0], .whole, .none⟩,
  ⟨Ix.CNV_IL_CHAN, 1, 0x1, 0, 0, .u8, (.rw .integrator), .live, .none, false, [0], .within [(0, 23), (32, 55), (64, 71), (80, 80)], .none⟩,
  ⟨Ix.CNV_IL_COUNT, 1, 0x1, 0, 0, .u16, (.rw .integrator), .live, .none, false, [0x1000], .within [(16, 4096)], .none⟩,
  ⟨Ix.CNV_IL_TRIG, 1, 0x1, 0, 0, .u8, (.rw .integrator), .live, .none, false, [255], .within [(0, 31), (255, 255)], .none⟩,
  ⟨Ix.CNV_IL_CMD, 1, 0x1, 0, 0, .u8, (.wo .integrator), .live, .none, false, [0], .within [(1, 2)], .none⟩,
  ⟨Ix.CNV_IL_STATUS, 1, 0x1, 0, 0, .u8, .ro, .dash, .none, false, [0], .whole, .none⟩]

/-- Rows of the object tables (Gda, part 3). -/
def rowsGda3 : List ObjRow := [
  ⟨Ix.CNV_IL_T0, 1, 0x1, 0, 0, .fine32, .ro, .dash, .none, false, [0], .whole, .none⟩,
  ⟨Ix.CNV_IL_DATA, 1, 0x1, 0, 0, .table, .ro, .dash, .none, false, [0], .whole, .none⟩,
  ⟨Ix.CNV_SKEW, 1, 0x1, 1, 8, .i8, .ro, .dash, .none, false, [0], .whole, .none⟩,
  ⟨Ix.CNV_SLICES, 1, 0x1, 0, 0, .u8, .ro, .dash, .none, false, [255], .whole, .none⟩,
  ⟨Ix.CNV_LOAD, 1, 0x1, 0, 0, .u8, .ro, .dash, .none, false, [0], .whole, .none⟩,
  ⟨Ix.CNV_MON_AUX, 1, 0x1, 0, 0, .u8, (.rw .integrator), .live, .none, true, [0], .whole, .none⟩,
  ⟨Ix.CNV_CLIP_LIMIT, 1, 0x1, 0, 0, .u8, (.rw .integrator), .live, .none, true, [8], .within [(1, 255)], .none⟩,
  ⟨Ix.CNV_SAT_COUNT, 1, 0x1, 0, 0, .u32, (.clr .integrator), .live, .none, false, [0], .whole, .none⟩,
  ⟨Ix.CNV_FE_COMMIT, 1, 0x1, 0, 0, .u8, (.rw .integrator), .live, .none, false, [0], .within [(1, 2)], .none⟩]

/-- All rows of the tables named above. -/
def rowsGda : List ObjRow := rowsGda0 ++ rowsGda1 ++ rowsGda2 ++ rowsGda3

end Sys2Proof.Machine
end

