-- ==== Sys2Proof/Machine/ObjPrf.lean ====
section
/-! DEFINITION. The object tables of the spec, as rows: R298, R318, R330 (Tables 14.8, 15.6, 16.6).
One row for a run of subindices with the same attributes; subindex 0x00 of a record (R39) is not listed, `countRow` gives it. -/

namespace Sys2Proof.Machine

/-- Rows of the object tables (Prf, part 0). -/
def rowsPrf0 : List ObjRow := [
  ⟨Ix.AX_PRF_STATUS, 8, 0x200, 0, 0, .u16, (.clr .operator), .live, .none, false, [0], .whole, .none⟩,
  ⟨Ix.AX_PRF_STATE, 8, 0x200, 0, 0, .u8, .ro, .dash, .none, false, [0], .whole, .none⟩,
  ⟨Ix.AX_PRF_POS, 8, 0x200, 0, 0, .pos32, .ro, .dash, .none, false, [0], .whole, .none⟩,
  ⟨Ix.AX_PRF_VEL, 8, 0x200, 0, 0, .vel32, .ro, .dash, .none, false, [0], .whole, .none⟩,
  ⟨Ix.AX_PRF_PHASE, 8, 0x200, 0, 0, .u16, .ro, .dash, .none, false, [0], .whole, .none⟩,
  ⟨Ix.AX_PRF_QUEUE, 8, 0x200, 0, 0, .u8, .ro, .dash, .none, false, [0], .whole, .none⟩,
  ⟨Ix.AX_PRF_CMD, 8, 0x200, 0, 0, .u8, (.wo .operator), .live, .none, false, [0], .within [(1, 4)], .none⟩,
  ⟨Ix.AX_PRF_I_SET, 8, 0x200, 0, 0, .frac16, .ro, .dash, .none, false, [0], .whole, .none⟩,
  ⟨Ix.AX_PRF_MOVE, 8, 0x200, 1, 1, .u8, (.rw .operator), .live, .none, false, [0], .within [(0, 3)], .none⟩,
  ⟨Ix.AX_PRF_MOVE, 8, 0x200, 2, 2, .pos32, (.rw .operator), .live, .none, false, [0], .whole, .none⟩,
  ⟨Ix.AX_PRF_MOVE, 8, 0x200, 3, 3, .vel32, (.rw .operator), .live, .none, false, [0], .whole, .none⟩,
  ⟨Ix.AX_PRF_MOVE, 8, 0x200, 4, 4, .u32, (.rw .operator), .live, .none, false, [0], .whole, .none⟩,
  ⟨Ix.AX_PRF_MOVE, 8, 0x200, 5, 5, .u32, (.rw .operator), .live, .none, false, [0], .within [(1, 4294967295)], .none⟩,
  ⟨Ix.AX_PRF_MOVE, 8, 0x200, 6, 6, .u32, (.rw .operator), .live, .none, false, [0], .whole, .none⟩,
  ⟨Ix.AX_PRF_MOVE, 8, 0x200, 7, 7, .u8, (.rw .operator), .live, .none, false, [0], .within [(0, 1)], .none⟩,
  ⟨Ix.AX_PRF_MOVE, 8, 0x200, 8, 8, .vel32, (.rw .operator), .live, .none, false, [0], .whole, .none⟩,
  ⟨Ix.AX_PRF_STALL_METRIC, 8, 0x200, 0, 0, .frac16, .ro, .dash, .none, false, [0], .whole, .none⟩,
  ⟨Ix.AX_PRF_COUNT, 8, 0x200, 1, 6, .u32, (.clr .integrator), .live, .none, false, [0], .whole, .none⟩,
  ⟨Ix.AX_PRF_CFG, 8, 0x200, 1, 1, .vel32, (.rw .integrator), .staged, .none, true, [0], .whole, .none⟩,
  ⟨Ix.AX_PRF_CFG, 8, 0x200, 2, 2, .vel32, (.rw .integrator), .staged, .none, true, [0xFFFFFFFF], .whole, .upper⟩,
  ⟨Ix.AX_PRF_CFG, 8, 0x200, 3, 3, .u32, (.rw .integrator), .staged, .none, true, [0x10000], .within [(1, 4294967295)], .none⟩,
  ⟨Ix.AX_PRF_CFG, 8, 0x200, 4, 4, .u8, (.rw .integrator), .staged, .none, true, [0], .within [(0, 3)], .none⟩,
  ⟨Ix.AX_PRF_STEPPER, 8, 0x200, 1, 1, .frac16, (.rw .integrator), .staged, .none, true, [0x2000], .within [(1, 32767)], .upper⟩,
  ⟨Ix.AX_PRF_STEPPER, 8, 0x200, 2, 2, .frac16, (.rw .integrator), .staged, .none, true, [0x4000], .within [(0, 32767)], .none⟩]

/-- Rows of the object tables (Prf, part 1). -/
def rowsPrf1 : List ObjRow := [
  ⟨Ix.AX_PRF_STEPPER, 8, 0x200, 3, 4, .u16, (.rw .integrator), .staged, .none, true, [200, 50], .within [(0, 60000)], .none⟩,
  ⟨Ix.AX_PRF_STEPPER, 8, 0x200, 5, 6, .vel32, (.rw .integrator), .staged, .none, true, [0x10000000, 0xC000000], .whole, .none⟩,
  ⟨Ix.AX_PRF_STEPPER, 8, 0x200, 7, 7, .u8, (.rw .integrator), .staged, .none, true, [0], .within [(0, 2)], .none⟩,
  ⟨Ix.AX_PRF_STALL, 8, 0x200, 1, 1, .frac16, (.rw .integrator), .staged, .none, true, [0x400], .within [(1, 32767)], .none⟩,
  ⟨Ix.AX_PRF_STALL, 8, 0x200, 2, 3, .u16, (.rw .integrator), .staged, .none, true, [20, 8], .within [(1, 1000)], .none⟩,
  ⟨Ix.AX_PRF_HOME, 8, 0x200, 1, 1, .u8, (.rw .integrator), .staged, .none, true, [0], .within [(0, 3)], .none⟩,
  ⟨Ix.AX_PRF_HOME, 8, 0x200, 2, 2, .u8, (.rw .integrator), .staged, .none, true, [0], .within [(0, 1)], .none⟩,
  ⟨Ix.AX_PRF_HOME, 8, 0x200, 3, 3, .u8, (.rw .integrator), .staged, .none, true, [255], .whole, .none⟩,
  ⟨Ix.AX_PRF_HOME, 8, 0x200, 4, 4, .u8, (.rw .integrator), .staged, .none, true, [0], .within [(0, 1)], .none⟩,
  ⟨Ix.AX_PRF_HOME, 8, 0x200, 5, 6, .vel32, (.rw .integrator), .staged, .none, true, [0x1000000, 0x400000], .whole, .none⟩,
  ⟨Ix.AX_PRF_HOME, 8, 0x200, 7, 7, .pos32, (.rw .integrator), .staged, .none, true, [0], .whole, .none⟩,
  ⟨Ix.AX_PRF_HOME, 8, 0x200, 8, 9, .u32, (.rw .integrator), .staged, .none, true, [0x100000, 0x10000], .within [(1, 4294967295)], .none⟩,
  ⟨Ix.AX_PRF_COMMIT, 8, 0x200, 0, 0, .u8, (.rw .integrator), .live, .none, false, [0], .within [(1, 2)], .none⟩,
  ⟨Ix.INT_STATUS, 1, 0x1, 0, 0, .u16, (.clr .operator), .live, .none, false, [0], .whole, .none⟩,
  ⟨Ix.INT_GROUP, 1, 0x1, 0, 0, .u8, (.rw .integrator), .staged, .none, true, [0], .whole, .none⟩,
  ⟨Ix.INT_MOVE, 1, 0x1, 1, 1, .u8, (.rw .operator), .live, .none, false, [0], .within [(0, 1)], .none⟩,
  ⟨Ix.INT_MOVE, 1, 0x1, 2, 5, .pos32, (.rw .operator), .live, .none, false, [0], .whole, .none⟩,
  ⟨Ix.INT_MOVE, 1, 0x1, 6, 6, .vel32, (.rw .operator), .live, .none, false, [0], .whole, .none⟩,
  ⟨Ix.INT_MOVE, 1, 0x1, 7, 7, .u32, (.rw .operator), .live, .none, false, [0], .whole, .none⟩,
  ⟨Ix.INT_MOVE, 1, 0x1, 8, 8, .u32, (.rw .operator), .live, .none, false, [0], .within [(1, 4294967295)], .none⟩,
  ⟨Ix.INT_MOVE, 1, 0x1, 9, 9, .u32, (.rw .operator), .live, .none, false, [0], .whole, .none⟩,
  ⟨Ix.INT_CMD, 1, 0x1, 0, 0, .u8, (.wo .operator), .live, .none, false, [0], .within [(1, 3)], .none⟩,
  ⟨Ix.INT_QUEUE, 1, 0x1, 0, 0, .u8, .ro, .dash, .none, false, [0], .whole, .none⟩,
  ⟨Ix.INT_MASTER, 1, 0x1, 0, 0, .u8, .ro, .dash, .none, false, [255], .whole, .none⟩]

/-- Rows of the object tables (Prf, part 2). -/
def rowsPrf2 : List ObjRow := [
  ⟨Ix.INT_COMMIT, 1, 0x1, 0, 0, .u8, (.rw .integrator), .live, .none, false, [0], .within [(1, 2)], .none⟩,
  ⟨Ix.SVC_KIND, 1, 0x1, 1, 8, .u8, (.rw .integrator), .staged, .none, true, [0], .within [(0, 4)], .none⟩,
  ⟨Ix.SVC_AUTORUN, 1, 0x1, 1, 8, .u8, (.rw .integrator), .staged, .none, true, [0], .within [(0, 1)], .none⟩,
  ⟨Ix.SVC_CMD, 1, 0x1, 1, 8, .u8, (.wo .operator), .live, .none, false, [0], .within [(1, 2)], .none⟩,
  ⟨Ix.SVC_STATE, 1, 0x1, 1, 8, .u8, .ro, .dash, .none, false, [0], .whole, .none⟩,
  ⟨Ix.SVC_STATUS, 1, 0x1, 1, 8, .u16, (.clr .operator), .live, .none, false, [0], .whole, .none⟩,
  ⟨Ix.SVC_RUN_TIME, 1, 0x1, 1, 8, .u32, (.clr .integrator), .live, .none, false, [0], .whole, .none⟩,
  ⟨Ix.SVC_STARTS, 1, 0x1, 1, 8, .u32, (.clr .integrator), .live, .none, false, [0], .whole, .none⟩,
  ⟨Ix.SVC_COMMIT, 1, 0x1, 0, 0, .u8, (.rw .integrator), .live, .none, false, [0], .within [(1, 2)], .none⟩,
  ⟨Ix.SVC_PUMP, 8, 0x1, 1, 1, .u8, (.rw .integrator), .staged, .none, true, [0], .within [(0, 2)], .none⟩,
  ⟨Ix.SVC_PUMP, 8, 0x1, 2, 2, .frac16, (.rw .operator), .live, .none, true, [0], .within [(0, 32767)], .none⟩,
  ⟨Ix.SVC_PUMP, 8, 0x1, 3, 3, .u8, (.rw .integrator), .staged, .none, true, [255], .within [(0, 7), (255, 255)], .none⟩,
  ⟨Ix.SVC_PUMP, 8, 0x1, 4, 6, .frac16, (.rw .integrator), .staged, .none, true, [0x2000, 0x4000, 0x1000], .within [(0, 32767)], .none⟩,
  ⟨Ix.SVC_PUMP, 8, 0x1, 7, 7, .u16, (.rw .integrator), .staged, .none, true, [0x7D0], .within [(10, 60000)], .none⟩,
  ⟨Ix.SVC_PUMP, 8, 0x1, 8, 8, .u16, (.rw .integrator), .staged, .none, true, [30], .within [(1, 3600)], .none⟩,
  ⟨Ix.SVC_PUMP, 8, 0x1, 9, 9, .u8, (.rw .integrator), .staged, .none, true, [3], .whole, .none⟩,
  ⟨Ix.SVC_PUMP, 8, 0x1, 10, 10, .u16, (.rw .integrator), .staged, .none, true, [0x7530], .whole, .none⟩,
  ⟨Ix.SVC_PUMP, 8, 0x1, 11, 11, .u8, (.rw .integrator), .staged, .none, true, [5], .within [(1, 20)], .none⟩,
  ⟨Ix.SVC_PUMP, 8, 0x1, 12, 12, .frac16, (.rw .integrator), .staged, .none, true, [0x6000], .whole, .upper⟩,
  ⟨Ix.SVC_PUMP, 8, 0x1, 13, 13, .u16, (.rw .integrator), .staged, .none, true, [0x7D0], .within [(100, 30000)], .none⟩,
  ⟨Ix.SVC_FAN, 8, 0x1, 1, 1, .u8, (.rw .integrator), .staged, .none, true, [0], .within [(0, 2)], .none⟩,
  ⟨Ix.SVC_FAN, 8, 0x1, 2, 2, .frac16, (.rw .operator), .live, .none, true, [0], .within [(0, 32767)], .none⟩,
  ⟨Ix.SVC_FAN, 8, 0x1, 3, 3, .u8, (.rw .integrator), .staged, .none, true, [0], .within [(0, 7), (16, 19)], .none⟩,
  ⟨Ix.SVC_FAN, 8, 0x1, 4, 11, .u32, (.rw .integrator), .staged, .none, true, [0], .whole, .none⟩]

/-- Rows of the object tables (Prf, part 3). -/
def rowsPrf3 : List ObjRow := [
  ⟨Ix.SVC_FAN, 8, 0x1, 12, 13, .frac16, (.rw .integrator), .staged, .none, true, [0x1333, 0xCCD], .whole, .none⟩,
  ⟨Ix.SVC_FAN, 8, 0x1, 14, 14, .u8, (.rw .integrator), .staged, .none, true, [3], .whole, .none⟩,
  ⟨Ix.SVC_FAN, 8, 0x1, 15, 15, .u16, (.rw .integrator), .staged, .none, true, [10], .within [(1, 3600)], .none⟩,
  ⟨Ix.SVC_FLAP, 8, 0x1, 1, 1, .pos32, (.rw .operator), .live, .none, false, [0], .whole, .none⟩,
  ⟨Ix.SVC_FLAP, 8, 0x1, 2, 3, .pos32, (.rw .integrator), .staged, .none, true, [0, 0x7FFFFFFF], .whole, .none⟩,
  ⟨Ix.SVC_FLAP, 8, 0x1, 4, 4, .vel32, (.rw .integrator), .staged, .none, true, [0x1000000], .whole, .none⟩,
  ⟨Ix.SVC_FLAP, 8, 0x1, 5, 5, .u32, (.rw .integrator), .staged, .none, true, [0x10000], .within [(1, 4294967295)], .none⟩,
  ⟨Ix.SVC_FLAP, 8, 0x1, 6, 6, .u8, (.rw .integrator), .staged, .none, true, [2], .whole, .none⟩,
  ⟨Ix.SVC_SEAT, 1, 0x1, 1, 1, .u32, (.rw .integrator), .staged, .none, true, [0x10000], .whole, .none⟩,
  ⟨Ix.SVC_SEAT, 1, 0x1, 2, 3, .u32, (.rw .integrator), .staged, .none, true, [0x4000, 0x10000], .within [(1, 4294967295)], .none⟩,
  ⟨Ix.SVC_SEAT, 1, 0x1, 4, 5, .vel32, (.rw .integrator), .staged, .none, true, [0x80000000, 0x20000000], .whole, .none⟩,
  ⟨Ix.SVC_SEAT, 1, 0x1, 6, 6, .frac16, (.rw .integrator), .staged, .none, true, [0x555], .within [(1, 32767)], .none⟩,
  ⟨Ix.SVC_SEAT, 1, 0x1, 7, 8, .u16, (.rw .integrator), .staged, .none, true, [20, 150], .within [(1, 5000)], .none⟩,
  ⟨Ix.SVC_SEAT, 1, 0x1, 9, 9, .u32, (.rw .integrator), .staged, .none, true, [0x10000], .within [(1, 4294967295)], .none⟩,
  ⟨Ix.SVC_SEAT, 1, 0x1, 10, 10, .frac16, (.rw .integrator), .staged, .none, true, [0x1000], .within [(1, 32767)], .none⟩,
  ⟨Ix.SVC_SEAT, 1, 0x1, 11, 11, .u16, (.rw .integrator), .staged, .none, true, [50], .within [(1, 5000)], .none⟩,
  ⟨Ix.SVC_SEAT, 1, 0x1, 12, 12, .u32, (.rw .integrator), .staged, .none, true, [0x4000000], .within [(1, 2147483647)], .none⟩,
  ⟨Ix.SVC_SEAT_SOFT_MIN, 1, 0x1, 1, 4, .pos32, (.rw .integrator), .staged, .none, true, [0], .whole, .none⟩,
  ⟨Ix.SVC_SEAT_SOFT_MAX, 1, 0x1, 1, 4, .pos32, (.rw .integrator), .staged, .none, true, [0x1000000], .whole, .none⟩,
  ⟨Ix.SVC_SEAT_MEM, 1, 0x1, 1, 16, .pos32, .ro, .dash, .none, true, [0], .whole, .none⟩,
  ⟨Ix.SVC_SEAT_CMD, 1, 0x1, 0, 0, .u16, (.wo .operator), .live, .none, false, [0], .packed .seatCmd, .none⟩,
  ⟨Ix.SVC_SEAT_KNOWN, 1, 0x1, 0, 0, .u8, .ro, .dash, .none, false, [0], .whole, .none⟩,
  ⟨Ix.SVC_THERM, 8, 0x1, 1, 1, .u8, (.rw .integrator), .staged, .none, true, [0], .within [(0, 1)], .none⟩,
  ⟨Ix.SVC_THERM, 8, 0x1, 2, 2, .temp16, (.rw .operator), .live, .none, true, [0x2D00], .whole, .none⟩]

/-- Rows of the object tables (Prf, part 4). -/
def rowsPrf4 : List ObjRow := [
  ⟨Ix.SVC_THERM, 8, 0x1, 3, 3, .u8, (.rw .integrator), .staged, .none, true, [0], .within [(0, 7), (16, 19)], .none⟩,
  ⟨Ix.SVC_THERM, 8, 0x1, 4, 4, .u8, (.rw .integrator), .staged, .none, true, [128], .within [(16, 255)], .none⟩,
  ⟨Ix.SVC_TEMP_EXT, 1, 0x1, 1, 4, .temp16, (.rw .operator), .live, .none, false, [0x7FFF], .whole, .none⟩,
  ⟨Ix.SVC_TEMP_EXT_TMO, 1, 0x1, 0, 0, .u16, (.rw .integrator), .live, .none, true, [0x7D0], .within [(100, 60000)], .none⟩,
  ⟨Ix.REIN_CFG, 8, 0x1, 1, 1, .u8, (.rw .integrator), .staged, .none, true, [0], .within [(0, 3)], .none⟩,
  ⟨Ix.REIN_CFG, 8, 0x1, 2, 2, .u8, (.rw .integrator), .staged, .none, true, [0], .within [(0, 1)], .none⟩,
  ⟨Ix.REIN_CFG, 8, 0x1, 3, 3, .u8, (.rw .integrator), .staged, .none, true, [255], .within [(0, 7), (255, 255)], .none⟩,
  ⟨Ix.REIN_CFG, 8, 0x1, 4, 4, .u8, (.rw .integrator), .staged, .none, true, [0], .within [(0, 1)], .none⟩,
  ⟨Ix.REIN_CFG, 8, 0x1, 5, 8, .frac16, (.rw .integrator), .staged, .none, true, [0x666, 0xCCD, 0x7333, 0x7999], .within [(0, 32767)], .none⟩,
  ⟨Ix.REIN_CFG, 8, 0x1, 9, 11, .frac16, (.rw .integrator), .staged, .none, true, [0, 0x7FFF, 0], .whole, .none⟩,
  ⟨Ix.REIN_CFG, 8, 0x1, 12, 12, .u16, (.rw .integrator), .staged, .none, true, [200], .within [(1, 10000)], .none⟩,
  ⟨Ix.REIN_CFG, 8, 0x1, 13, 13, .u16, (.rw .integrator), .staged, .none, true, [0x3E8], .within [(1, 20000)], .none⟩,
  ⟨Ix.REIN_CFG, 8, 0x1, 14, 14, .u16, (.rw .integrator), .staged, .none, true, [100], .within [(1, 10000)], .none⟩,
  ⟨Ix.REIN_VALUE, 8, 0x1, 1, 2, .frac16, .ro, .dash, .none, false, [0], .whole, .none⟩,
  ⟨Ix.REIN_VALUE, 8, 0x1, 3, 3, .u8, .ro, .dash, .none, false, [0], .whole, .none⟩,
  ⟨Ix.REIN_VALUE, 8, 0x1, 4, 4, .gain16, .ro, .dash, .none, false, [0], .whole, .none⟩,
  ⟨Ix.REIN_COMMIT, 1, 0x1, 0, 0, .u8, (.rw .integrator), .live, .none, false, [0], .within [(1, 2)], .none⟩,
  ⟨Ix.THM_STATUS, 1, 0x1, 0, 0, .u16, (.clr .operator), .live, .none, false, [0], .whole, .none⟩,
  ⟨Ix.THM_MAX, 1, 0x1, 0, 0, .temp16, .ro, .dash, .none, false, [0], .whole, .none⟩,
  ⟨Ix.THM_MAX_SRC, 1, 0x1, 0, 0, .u8, .ro, .dash, .none, false, [0], .whole, .none⟩,
  ⟨Ix.THM_READING, 1, 0x1, 1, 18, .temp16, .ro, .dash, .none, false, [0], .whole, .none⟩,
  ⟨Ix.THM_STATE, 1, 0x1, 1, 18, .u8, .ro, .dash, .none, false, [0], .whole, .none⟩,
  ⟨Ix.THM_RATE, 1, 0x1, 1, 18, .temp16, .ro, .dash, .none, false, [0], .whole, .none⟩,
  ⟨Ix.THM_PEAK, 1, 0x1, 1, 18, .temp16, (.clr .integrator), .live, .none, false, [0x8000], .whole, .none⟩]

/-- Rows of the object tables (Prf, part 5). -/
def rowsPrf5 : List ObjRow := [
  ⟨Ix.THM_DERATE, 1, 0x1, 1, 8, .frac16, .ro, .dash, .none, false, [0x7FFF], .whole, .none⟩,
  ⟨Ix.THM_AXIS_TEMP, 1, 0x1, 1, 8, .temp16, .ro, .dash, .none, false, [0], .whole, .none⟩,
  ⟨Ix.THM_CLASS_RIDER, 1, 0x1, 1, 1, .temp16, (.rw .integrator), .staged, .none, true, [0x4600], .whole, .none⟩,
  ⟨Ix.THM_CLASS_RIDER, 1, 0x1, 2, 2, .temp16, (.rw .integrator), .staged, .none, true, [0x4B00], .whole, .upper⟩,
  ⟨Ix.THM_CLASS_RIDER, 1, 0x1, 3, 3, .temp16, (.rw .integrator), .staged, .none, true, [0x5280], .within [(19200, 21760)], .upper⟩,
  ⟨Ix.THM_CLASS_RIDER, 1, 0x1, 4, 4, .temp16, (.rw .integrator), .staged, .none, true, [0x280], .within [(128, 2560)], .none⟩,
  ⟨Ix.THM_CLASS_RIDER, 1, 0x1, 5, 5, .temp16, (.rw .integrator), .staged, .none, true, [0x1400], .within [(128, 25600)], .none⟩,
  ⟨Ix.THM_CLASS_SADDLE, 1, 0x1, 1, 1, .temp16, (.rw .integrator), .staged, .none, true, [0x4600], .whole, .none⟩,
  ⟨Ix.THM_CLASS_SADDLE, 1, 0x1, 2, 2, .temp16, (.rw .integrator), .staged, .none, true, [0x4B00], .whole, .upper⟩,
  ⟨Ix.THM_CLASS_SADDLE, 1, 0x1, 3, 3, .temp16, (.rw .integrator), .staged, .none, true, [0x5280], .within [(19200, 21760)], .upper⟩,
  ⟨Ix.THM_CLASS_SADDLE, 1, 0x1, 4, 4, .temp16, (.rw .integrator), .staged, .none, true, [0x280], .within [(128, 2560)], .none⟩,
  ⟨Ix.THM_CLASS_SADDLE, 1, 0x1, 5, 5, .temp16, (.rw .integrator), .staged, .none, true, [0x1400], .within [(128, 25600)], .none⟩,
  ⟨Ix.THM_CLASS_SADDLE, 1, 0x1, 6, 6, .frac16, (.rw .integrator), .staged, .none, true, [0x2000], .within [(0, 32767)], .upper⟩,
  ⟨Ix.THM_CLASS_SADDLE, 1, 0x1, 7, 7, .frac16, (.rw .integrator), .staged, .none, true, [0x5000], .within [(0, 32767)], .none⟩,
  ⟨Ix.THM_EXT_CFG, 1, 0x1, 1, 8, .u32, (.rw .integrator), .staged, .none, true, [0], .packed .thmExtCfg, .none⟩,
  ⟨Ix.THM_EXT_LIM, 8, 0x1, 1, 1, .temp16, (.rw .integrator), .staged, .none, true, [0x3700], .whole, .none⟩,
  ⟨Ix.THM_EXT_LIM, 8, 0x1, 2, 2, .temp16, (.rw .integrator), .staged, .none, true, [0x3E80], .whole, .upper⟩,
  ⟨Ix.THM_EXT_LIM, 8, 0x1, 3, 3, .temp16, (.rw .integrator), .staged, .none, true, [0x4B00], .within [(0, 22400)], .upper⟩,
  ⟨Ix.THM_EXT_LIM, 8, 0x1, 4, 4, .temp16, (.rw .integrator), .staged, .none, true, [0x280], .within [(128, 2560)], .none⟩,
  ⟨Ix.THM_EXT_LIM, 8, 0x1, 5, 5, .temp16, (.rw .integrator), .staged, .none, true, [0xA00], .within [(128, 25600)], .none⟩,
  ⟨Ix.THM_EXT_LIM, 8, 0x1, 6, 6, .frac16, (.rw .integrator), .staged, .none, true, [0x2000], .within [(0, 32767)], .upper⟩,
  ⟨Ix.THM_EXT_LIM, 8, 0x1, 7, 7, .frac16, (.rw .integrator), .staged, .none, true, [0x5000], .within [(0, 32767)], .none⟩,
  ⟨Ix.THM_EXT_LIM, 8, 0x1, 8, 9, .frac16, (.rw .integrator), .staged, .none, true, [0x148, 0x7EB8], .whole, .none⟩,
  ⟨Ix.THM_EXT_CURVE, 8, 0x1, 0, 0, .table, (.rw .integrator), .staged, .none, true, [0], .whole, .none⟩]

/-- Rows of the object tables (Prf, part 6). -/
def rowsPrf6 : List ObjRow := [
  ⟨Ix.THM_COMMIT, 1, 0x1, 0, 0, .u8, (.rw .integrator), .live, .none, false, [0], .within [(1, 2)], .none⟩]

/-- All rows of the tables named above. -/
def rowsPrf : List ObjRow := rowsPrf0 ++ rowsPrf1 ++ rowsPrf2 ++ rowsPrf3 ++ rowsPrf4 ++ rowsPrf5 ++ rowsPrf6

end Sys2Proof.Machine
end

