-- ==== Sys2Proof/Machine/ObjTly.lean ====
section
/-! DEFINITION. The object tables of the spec, as rows: R350, R367, R390, R417 (Tables 17.11, 18.8, 19.8, 20.10).
One row for a run of subindices with the same attributes; subindex 0x00 of a record (R39) is not listed, `countRow` gives it. -/

namespace Sys2Proof.Machine

/-- Rows of the object tables (Tly, part 0). -/
def rowsTly0 : List ObjRow := [
  ⟨Ix.TLY_STATUS, 1, 0x1, 0, 0, .u16, .ro, .dash, .none, false, [0], .whole, .none⟩,
  ⟨Ix.TLY_FIRST, 1, 0x1, 1, 1, .u32, (.clr .operator), .live, .none, false, [0], .whole, .none⟩,
  ⟨Ix.TLY_FIRST, 1, 0x1, 2, 2, .time64, .ro, .dash, .none, false, [0], .whole, .none⟩,
  ⟨Ix.TLY_FIRST, 1, 0x1, 3, 3, .u8, .ro, .dash, .none, false, [0], .whole, .none⟩,
  ⟨Ix.TLY_OVERFLOW_COUNT, 1, 0x1, 0, 0, .u32, (.clr .integrator), .live, .none, false, [0], .whole, .none⟩,
  ⟨Ix.TLY_HANDLE_TIME, 1, 0x1, 0, 0, .u16, (.rw .integrator), .live, .none, true, [100], .within [(1, 10000)], .upper⟩,
  ⟨Ix.TLY_ERR_TIME, 1, 0x1, 0, 0, .u8, (.rw .integrator), .live, .none, true, [10], .within [(1, 64)], .none⟩,
  ⟨Ix.TLY_ERRN_CFG, 1, 0x1, 0, 0, .u8, (.rw .integrator), .live, .none, true, [0], .within [(0, 1)], .none⟩,
  ⟨Ix.TLY_ERRN_RELEASE, 1, 0x1, 0, 0, .u8, (.wo .operator), .live, .none, false, [0], .within [(1, 1)], .none⟩,
  ⟨Ix.TLY_ACK, 1, 0x1, 0, 0, .u32, (.rw .operator), .live, .none, false, [0], .whole, .none⟩,
  ⟨Ix.TLY_PENDING_COUNT, 1, 0x1, 0, 0, .u8, .ro, .dash, .none, false, [0], .whole, .none⟩,
  ⟨Ix.TLY_PENDING, 1, 0x1, 0, 0, .blob, .ro, .dash, .none, false, [0], .whole, .none⟩,
  ⟨Ix.TLY_SAFE_RELEASE, 1, 0x1, 0, 0, .u8, (.wo .operator), .live, .none, false, [0], .within [(1, 1)], .none⟩,
  ⟨Ix.TLY_SAFE_CAUSE, 1, 0x1, 0, 0, .u32, .ro, .dash, .none, false, [0], .whole, .none⟩,
  ⟨Ix.TLY_LOG_HEAD, 1, 0x1, 0, 0, .u32, .ro, .dash, .none, false, [0], .whole, .none⟩,
  ⟨Ix.TLY_LOG_SEL, 1, 0x1, 0, 0, .u32, (.rw .operator), .live, .none, false, [0], .whole, .none⟩,
  ⟨Ix.TLY_LOG, 1, 0x1, 0, 0, .blob, .ro, .dash, .none, false, [0], .whole, .none⟩,
  ⟨Ix.TLY_LOG_LOST, 1, 0x1, 0, 0, .u32, (.clr .integrator), .live, .none, false, [0], .whole, .none⟩,
  ⟨Ix.TLY_COUNT, 1, 0x1, 1, 4, .u32, (.clr .integrator), .live, .none, false, [0], .whole, .none⟩,
  ⟨Ix.TLY_HEALTH, 1, 0x1, 0, 0, .u16, .ro, .dash, .none, false, [0], .whole, .none⟩,
  ⟨Ix.TLY_INJECT, 1, 0x1, 0, 0, .u32, (.wo .custodian), .live, .none, false, [0], .whole, .none⟩,
  ⟨Ix.AX_CMD, 8, 0x200, 0, 0, .u8, (.wo .operator), .live, .none, false, [0], .within [(1, 2)], .none⟩,
  ⟨Ix.AX_STATE, 8, 0x200, 0, 0, .u8, .ro, .dash, .none, false, [0], .whole, .none⟩,
  ⟨Ix.AX_SAFE_STATE, 8, 0x200, 0, 0, .u8, (.rw .integrator), .frozen, .axisN, true, [0], .within [(0, 2)], .none⟩]

/-- Rows of the object tables (Tly, part 1). -/
def rowsTly1 : List ObjRow := [
  ⟨Ix.AX_SAFE_CAUSE, 8, 0x200, 0, 0, .u32, .ro, .dash, .none, false, [0], .whole, .none⟩,
  ⟨Ix.ASY_STATUS, 1, 0x1, 0, 0, .u16, (.clr .operator), .live, .none, false, [0], .whole, .none⟩,
  ⟨Ix.ASY_USE, 1, 0x1, 1, 4, .u8, .ro, .dash, .none, false, [0], .whole, .none⟩,
  ⟨Ix.ASY_SELFTEST_FAIL, 1, 0x1, 1, 4, .u32, (.clr .integrator), .live, .none, false, [0], .whole, .none⟩,
  ⟨Ix.ASY_FW_CRC, 1, 0x1, 0, 0, .u32, .ro, .dash, .none, false, [0], .whole, .none⟩,
  ⟨Ix.ASY_PRESET, 1, 0x1, 0, 0, .u8, (.rw .integrator), .live, .none, false, [2], .within [(1, 4)], .none⟩,
  ⟨Ix.ASY_WIDTH, 1, 0x1, 0, 0, .u8, (.rw .integrator), .live, .none, false, [32], .within [(8, 8), (16, 16), (32, 32)], .none⟩,
  ⟨Ix.ASY_POLY, 1, 0x1, 0, 0, .u32, (.rw .integrator), .live, .none, false, [0x1EDC6F41], .whole, .none⟩,
  ⟨Ix.ASY_INIT, 1, 0x1, 0, 0, .u32, (.rw .integrator), .live, .none, false, [0xFFFFFFFF], .whole, .none⟩,
  ⟨Ix.ASY_REFLECT, 1, 0x1, 0, 0, .bool, (.rw .integrator), .live, .none, false, [1], .within [(0, 1)], .none⟩,
  ⟨Ix.ASY_XOROUT, 1, 0x1, 0, 0, .u32, (.rw .integrator), .live, .none, false, [0xFFFFFFFF], .whole, .none⟩,
  ⟨Ix.ASY_RUNNING, 1, 0x1, 0, 0, .u32, (.rw .integrator), .live, .none, false, [0xFFFFFFFF], .whole, .none⟩,
  ⟨Ix.ASY_FEED, 1, 0x1, 0, 0, .blob, (.wo .integrator), .live, .none, false, [0], .whole, .none⟩,
  ⟨Ix.ASY_RESULT, 1, 0x1, 0, 0, .u32, .ro, .dash, .none, false, [0], .whole, .none⟩,
  ⟨Ix.ASY_RESTART, 1, 0x1, 0, 0, .u8, (.wo .integrator), .live, .none, false, [0], .within [(1, 1)], .none⟩,
  ⟨Ix.ASY_SCAN_SPACE, 1, 0x1, 0, 0, .u8, (.rw .integrator), .live, .none, false, [0], .whole, .none⟩,
  ⟨Ix.ASY_SCAN_START, 1, 0x1, 0, 0, .u32, (.rw .integrator), .live, .none, false, [0], .whole, .none⟩,
  ⟨Ix.ASY_SCAN_LEN, 1, 0x1, 0, 0, .u32, (.rw .integrator), .live, .none, false, [4], .within [(1, 4294967295)], .none⟩,
  ⟨Ix.ASY_SCAN_EXPECT, 1, 0x1, 0, 0, .u32, (.rw .integrator), .live, .none, false, [0], .whole, .none⟩,
  ⟨Ix.ASY_SCAN_CMD, 1, 0x1, 0, 0, .u8, (.wo .integrator), .live, .none, false, [0], .within [(1, 4)], .none⟩,
  ⟨Ix.ASY_SCAN_STATUS, 1, 0x1, 0, 0, .u8, .ro, .dash, .none, false, [0], .whole, .none⟩,
  ⟨Ix.NET_STATUS, 1, 0x1, 0, 0, .u16, (.clr .operator), .live, .none, false, [0], .whole, .none⟩,
  ⟨Ix.NET_NODE, 1, 0x1, 0, 0, .u16, (.rw .integrator), .staged, .none, true, [0xFFFF], .within [(0, 16383), (65535, 65535)], .none⟩,
  ⟨Ix.NET_GROUP, 1, 0x1, 1, 8, .u16, (.rw .integrator), .staged, .none, true, [0xFFFF], .within [(0, 16382), (65535, 65535)], .none⟩]

/-- Rows of the object tables (Tly, part 2). -/
def rowsTly2 : List ObjRow := [
  ⟨Ix.NET_GROUP_KEY, 1, 0x1, 1, 8, .u8, (.rw .integrator), .staged, .none, true, [0], .within [(0, 15)], .none⟩,
  ⟨Ix.NET_PORT_EN, 1, 0x1, 0, 0, .u8, (.rw .integrator), .staged, .none, true, [3], .within [(0, 7)], .none⟩,
  ⟨Ix.NET_CFG, 1, 0x1, 0, 0, .u8, (.rw .integrator), .staged, .none, true, [0], .within [(0, 1)], .none⟩,
  ⟨Ix.NET_T1S, 1, 0x1, 1, 1, .u64, (.rw .integrator), .staged, .none, true, [0], .within [(0, 281474976710655)], .none⟩,
  ⟨Ix.NET_T1S, 1, 0x1, 2, 2, .u8, (.rw .integrator), .staged, .none, true, [255], .whole, .none⟩,
  ⟨Ix.NET_T1S, 1, 0x1, 3, 3, .u8, (.rw .integrator), .staged, .none, true, [8], .within [(1, 255)], .none⟩,
  ⟨Ix.NET_T1S, 1, 0x1, 4, 4, .u8, (.rw .integrator), .staged, .none, true, [32], .within [(20, 255)], .none⟩,
  ⟨Ix.NET_T1S, 1, 0x1, 5, 5, .u8, .ro, .dash, .none, false, [0], .whole, .none⟩,
  ⟨Ix.NET_IP, 1, 0x1, 1, 2, .u32, (.rw .integrator), .staged, .none, true, [0], .whole, .none⟩,
  ⟨Ix.NET_IP, 1, 0x1, 3, 4, .u64, (.rw .integrator), .staged, .none, true, [0], .whole, .none⟩,
  ⟨Ix.NET_UDP_PORT, 1, 0x1, 0, 0, .u16, (.rw .integrator), .staged, .none, true, [0xBA0E], .within [(1024, 65535)], .none⟩,
  ⟨Ix.NET_CAN, 1, 0x1, 1, 1, .u8, (.rw .integrator), .staged, .none, true, [2], .within [(0, 3)], .none⟩,
  ⟨Ix.NET_CAN, 1, 0x1, 2, 2, .u8, (.rw .integrator), .staged, .none, true, [2], .within [(0, 5)], .none⟩,
  ⟨Ix.NET_LIN_NAD, 1, 0x1, 0, 0, .u8, (.rw .integrator), .staged, .none, true, [16], .within [(1, 125)], .none⟩,
  ⟨Ix.NET_LIN_OPERATOR, 1, 0x1, 0, 0, .bool, (.rw .integrator), .staged, .none, true, [0], .within [(0, 1)], .none⟩,
  ⟨Ix.NET_TIME, 1, 0x1, 1, 1, .u8, (.rw .integrator), .staged, .none, true, [0], .whole, .none⟩,
  ⟨Ix.NET_TIME, 1, 0x1, 2, 2, .u16, (.rw .integrator), .staged, .none, true, [100], .within [(10, 1000)], .none⟩,
  ⟨Ix.NET_TIME, 1, 0x1, 3, 3, .u16, (.rw .integrator), .staged, .none, true, [0], .within [(0, 10000)], .none⟩,
  ⟨Ix.NET_TIME, 1, 0x1, 4, 4, .u8, (.rw .integrator), .staged, .none, true, [0], .within [(0, 127)], .none⟩,
  ⟨Ix.NET_TIME, 1, 0x1, 5, 5, .u16, (.rw .integrator), .staged, .none, true, [0xFFFF], .whole, .none⟩,
  ⟨Ix.NET_TIME_NOW, 1, 0x1, 0, 0, .time64, .ro, .dash, .none, false, [0], .whole, .none⟩,
  ⟨Ix.NET_TIME_RATE, 1, 0x1, 0, 0, .i32, .ro, .dash, .none, false, [0], .whole, .none⟩,
  ⟨Ix.NET_TIME_ERR, 1, 0x1, 0, 0, .i32, .ro, .dash, .none, false, [0], .whole, .none⟩,
  ⟨Ix.NET_PORT_COUNT, 4, 0x1, 1, 5, .u32, (.clr .integrator), .live, .none, false, [0], .whole, .none⟩]

/-- Rows of the object tables (Tly, part 3). -/
def rowsTly3 : List ObjRow := [
  ⟨Ix.NET_E2E_COUNT, 1, 0x1, 1, 5, .u32, (.clr .integrator), .live, .none, false, [0], .whole, .none⟩,
  ⟨Ix.NET_AUTH_COUNT, 1, 0x1, 1, 2, .u32, (.clr .integrator), .live, .none, false, [0], .whole, .none⟩,
  ⟨Ix.NET_STREAM, 8, 0x1, 1, 1, .u8, (.rw .integrator), .staged, .none, true, [0], .within [(0, 3)], .none⟩,
  ⟨Ix.NET_STREAM, 8, 0x1, 2, 2, .u8, (.rw .integrator), .staged, .none, true, [1], .within [(0, 2)], .none⟩,
  ⟨Ix.NET_STREAM, 8, 0x1, 3, 3, .u16, (.rw .integrator), .staged, .none, true, [0], .whole, .none⟩,
  ⟨Ix.NET_STREAM, 8, 0x1, 4, 4, .u16, (.rw .integrator), .staged, .none, true, [100], .within [(1, 60000)], .none⟩,
  ⟨Ix.NET_STREAM, 8, 0x1, 5, 5, .u8, (.rw .integrator), .staged, .none, true, [0], .within [(0, 7)], .none⟩,
  ⟨Ix.NET_STREAM, 8, 0x1, 6, 6, .u8, (.rw .integrator), .staged, .none, true, [0], .within [(0, 15)], .none⟩,
  ⟨Ix.NET_STREAM, 8, 0x1, 7, 14, .u32, (.rw .integrator), .staged, .none, true, [0xFFFFFFFF], .within [(0, 16777215), (4294967295, 4294967295)], .none⟩,
  ⟨Ix.NET_COMMIT, 1, 0x1, 0, 0, .u8, (.rw .integrator), .live, .none, false, [0], .within [(1, 2)], .none⟩,
  ⟨Ix.VLT_STATUS, 1, 0x1, 0, 0, .u16, .ro, .dash, .none, false, [0], .whole, .none⟩,
  ⟨Ix.VLT_LIFECYCLE, 1, 0x1, 0, 0, .u8, .ro, .dash, .none, false, [0], .whole, .none⟩,
  ⟨Ix.VLT_LIFECYCLE_CONFIRM, 1, 0x1, 0, 0, .u32, (.wo .custodian), .live, .none, false, [0], .whole, .none⟩,
  ⟨Ix.VLT_LIFECYCLE_CMD, 1, 0x1, 0, 0, .u8, (.wo .custodian), .frozen, .allAxes, false, [0], .within [(1, 3)], .none⟩,
  ⟨Ix.VLT_ROLLBACK, 1, 0x1, 0, 0, .u8, .ro, .dash, .none, false, [0], .whole, .none⟩,
  ⟨Ix.VLT_SELFTEST, 1, 0x1, 0, 0, .u8, .ro, .dash, .none, false, [0], .whole, .none⟩,
  ⟨Ix.VLT_DEV_PUBKEY, 1, 0x1, 0, 0, .blob, .ro, .dash, .none, false, [0], .whole, .none⟩,
  ⟨Ix.VLT_DEV_CERT, 1, 0x1, 0, 0, .blob, .ro, .dash, .none, true, [0], .whole, .none⟩,
  ⟨Ix.VLT_TAMPER_LEVEL, 1, 0x1, 1, 6, .u8, (.rw .custodian), .live, .none, true, [0], .within [(0, 2)], .none⟩,
  ⟨Ix.VLT_TAMPER_FLOOR, 1, 0x1, 1, 6, .u8, .ro, .dash, .none, false, [0], .whole, .none⟩,
  ⟨Ix.VLT_POLICY, 1, 0x1, 0, 0, .u8, (.rw .custodian), .live, .none, true, [0], .within [(0, 1)], .none⟩,
  ⟨Ix.VLT_TAMPER_COUNT, 1, 0x1, 1, 6, .u32, (.clr .integrator), .live, .none, false, [0], .whole, .none⟩,
  ⟨Ix.VLT_MR, 1, 0x1, 1, 8, .blob, .ro, .dash, .none, false, [0], .whole, .none⟩,
  ⟨Ix.VLT_MR_EXTEND, 1, 0x1, 0, 0, .blob, (.wo .integrator), .live, .none, false, [0], .whole, .none⟩]

/-- Rows of the object tables (Tly, part 4). -/
def rowsTly4 : List ObjRow := [
  ⟨Ix.VLT_FARRIER_NONCE, 1, 0x1, 0, 0, .blob, .ro, .dash, .none, false, [0], .whole, .none⟩,
  ⟨Ix.VLT_FARRIER, 1, 0x1, 0, 0, .blob, (.wo .custodian), .live, .none, false, [0], .whole, .none⟩,
  ⟨Ix.VLT_ROOT_KEY, 1, 0x1, 0, 0, .blob, (.rw .custodian), .live, .none, true, [0], .whole, .none⟩,
  ⟨Ix.VLT_SLOT_INFO, 1, 0x1, 1, 16, .u32, .ro, .dash, .none, false, [0], .whole, .none⟩,
  ⟨Ix.VLT_KEY_IMPORT, 1, 0x1, 0, 0, .blob, (.wo .custodian), .live, .none, false, [0], .whole, .none⟩,
  ⟨Ix.VLT_KEY_DELETE, 1, 0x1, 0, 0, .u8, (.wo .custodian), .live, .none, false, [0], .within [(2, 15)], .none⟩,
  ⟨Ix.VLT_UPD_CMD, 1, 0x1, 0, 0, .u8, (.wo .integrator), .live, .none, false, [0], .within [(1, 4)], .none⟩,
  ⟨Ix.VLT_UPD_STATUS, 1, 0x1, 0, 0, .u8, .ro, .dash, .none, false, [0], .whole, .none⟩,
  ⟨Ix.VLT_UPD_BLOCK, 1, 0x1, 1, 1, .u32, (.wo .integrator), .live, .none, false, [0], .whole, .none⟩,
  ⟨Ix.VLT_UPD_BLOCK, 1, 0x1, 2, 16, .u64, (.wo .integrator), .live, .none, false, [0], .whole, .none⟩,
  ⟨Ix.VLT_UPD_BANK, 1, 0x1, 0, 0, .u8, .ro, .dash, .none, false, [255], .whole, .none⟩]

/-- All rows of the tables named above. -/
def rowsTly : List ObjRow := rowsTly0 ++ rowsTly1 ++ rowsTly2 ++ rowsTly3 ++ rowsTly4

end Sys2Proof.Machine
end

