-- ==== Sys2Proof/Machine/Objects.lean ====
section
/-! DEFINITION. The dictionary's table of objects (R39, R40): which rows an index may stand in, the row and the default of an object, and the entries of TABLE objects. -/

namespace Sys2Proof.Machine

/-- The position of subindex `sub` of index `index`. -/
def keyOf (index sub : Nat) : ObjKey := index * 256 + sub

/-- The index of a position. -/
def keyIndex (k : ObjKey) : Nat := k / 256

/-- The subindex of a position. -/
def keySub (k : ObjKey) : Nat := k % 256

/-- An object of axis `n` from its name for axis 0 (R40). -/
def axIx (index n : Nat) : Nat := index + 0x200 * n

/-- The rows that may list an index, by the index plan of Tables 3.1 and 3.2. -/
def rowsFor (index : Nat) : List ObjRow :=
  if index < 0x300 then rowsDev
  else if index < 0x380 then rowsTly
  else if index < 0x400 then rowsPrf
  else if index < 0x600 then rowsTly
  else if index < 0x800 then rowsGda
  else if 0x840 ≤ index && index < 0x900 then rowsEng
  else if index < 0xA00 then rowsPrf
  else if index < 0xB00 then rowsTly
  else if index < 0x1000 then rowsPrf
  else if index < 0x2000 then
    let off := (index - 0x1000) % 0x200
    if off < 0x20 then rowsDev
    else if off < 0x40 then rowsTly
    else if off < 0x80 then rowsGda
    else if off < 0x100 then rowsEng
    else if off < 0x140 then rowsPrf
    else rowsEng
  else []

/-- The row of an object, `none` for the count of a record and for an absent object. -/
def rowAt (index sub : Nat) : Option ObjRow := (rowsFor index).find? fun r => r.lists index sub

/-- Whether an index holds an object (R39). -/
def indexHeld (index : Nat) : Bool := (rowsFor index).any fun r => r.listsIndex index

/-- The count of a record's subindices (R39), 0 where the index is no record. -/
def recordCount (index : Nat) : Nat :=
  (rowsFor index).foldl (fun m r => if r.listsIndex index then max m r.subHi else m) 0

/-- The row of the count at subindex 0x00 of a record: a U8 that no role writes (R39, R136). -/
def countRow (index : Nat) : ObjRow :=
  ⟨index, 1, 1, 0, 0, .u8, .ro, .dash, .none, false, [recordCount index], .whole, .none⟩

/-- The row of an object, with the counts of records (R39). -/
def rowOf (index sub : Nat) : Option ObjRow :=
  match rowAt index sub with
  | some r => some r
  | none => if sub == 0 && indexHeld index then some (countRow index) else none

/-- The width in bits of an object's pattern. -/
def widthAt (index sub : Nat) : Nat :=
  match rowOf index sub with
  | some r => 8 * r.type.size
  | none => 0

/-- The default of `NET_T1S`.01: 0x02, then the low 40 bits of `DEV_SERIAL` (Table 19.8). -/
def defaultMac : Nat := 0x02 * 2 ^ 40 + Config.serial.toNat % 2 ^ 40

/-- The pattern an object reads where nothing has written it: its default (R42), or for the objects that one chip fixes, that constant. [log 7: DESIGN CHOICE] -/
def defaultAt (index sub : Nat) : Pattern :=
  if index == Ix.NET_T1S && sub == 1 then defaultMac
  else if index == Ix.DEV_SERIAL then Config.serial.toNat
  else if index == Ix.DEV_SILICON then Config.silicon.toNat
  else if index == Ix.DEV_ROM_VERSION then Config.romVersion.toNat
  else if index == Ix.DEV_DICT_VERSION then Config.dictVersion.toNat
  else
    match rowOf index sub with
    | some r => pat (8 * r.type.size) (r.defaultAt sub)
    | none => 0

/-- The entry type, the number of entries and the default entry of a TABLE object. -/
def tableSpec (index : Nat) : Option (ObjType × Nat × Nat) :=
  let off := (index - 0x1000) % 0x200 + 0x1000
  if 0x1000 ≤ index && off == Ix.AX_EDP_MANUAL then some (.u32, 16, 0)
  else if 0x1000 ≤ index && off == Ix.AX_CE_GAIN_TABLE then some (.u32, 64, 0x1000_0000)
  else if 0x1000 ≤ index && off == Ix.AX_CE_FRICTION then some (.frac16, 256, 0)
  else if 0x1000 ≤ index && off == Ix.AX_CE_COGGING then some (.frac16, 1024, 0)
  else if 0x1000 ≤ index && off == Ix.AX_FE_SINE then some (.frac16, 4096, 0)
  else if index == Ix.CNV_IL_DATA then some (.frac16, 4096, 0)
  else if Ix.THM_EXT_CURVE ≤ index && index < Ix.THM_EXT_CURVE + 8 then some (.temp16, 129, 0x7FFF)
  else none

/-- The number an object's pattern stands for. -/
def valueOf (t : ObjType) (p : Pattern) : Int :=
  if t.isSigned then sgn (8 * t.size) p else (p : Int)

/-- The codes a hold list accepts (R159, Table 9.1): CS0–CS23, PV0–PV23, AUX0–AUX7 and VLINK. -/
def holdCode (c : Nat) : Bool :=
  c ≤ 0x17 || (0x20 ≤ c && c ≤ 0x37) || (0x40 ≤ c && c ≤ 0x47) || c == 0x50

/-- The bytes of a hold list, first input first. -/
def holdBytes (v : Nat) : List Nat := [field v 7 0, field v 15 8, field v 23 16, field v 31 24]

/-- The channels a hold list names. -/
def holdCodes (v : Nat) : List Nat := (holdBytes v).filter fun c => c != 0xFF

/-- A hold list: every byte 0xFF or an accepted code, used bytes filled from bits 7:0 onward, no code twice (R163, R182 condition 5). [log 32: DEDUCED] -/
def holdListOk (v : Nat) : Bool :=
  let cs := holdCodes v
  cs.all holdCode && (holdBytes v).take cs.length == cs && cs.Nodup

/-- Whether every field of a packed object holds an accepted value (R49; Tables 7.4, 8.5, 10.2, 15.5b and 16.9, and R245 for the sector of each Hall code). REF_SRC 0x01 and 0x02 are never allowed; whether a code is allowed for its slot is condition 3 of R198. [log 32: DEDUCED] -/
def PackedObj.accepts : PackedObj → Nat → Bool
  | .ocCfg, v => field v 15 14 != 3 && field v 13 12 == 0 && field v 7 0 != 0
  | .edpEvt, v =>
    field v 31 28 == 0 && field v 15 8 == 0 && (field v 7 0 ≤ 4 || (0x10 ≤ field v 7 0 && field v 7 0 ≤ 0x1F))
  | .holdList, v => holdListOk v
  | .seatCmd, v => 1 ≤ field v 15 12 && field v 15 12 ≤ 5 && field v 11 8 ≤ 3 && field v 7 1 == 0
  | .ceSrc, v =>
    [0x00, 0x03, 0x04, 0x05, 0x06, 0x10, 0x11, 0x12].contains (field v 15 8) && [0x00, 0x01, 0x20, 0x21, 0x22, 0x23].contains (field v 7 0)
  | .hallMap, v => (List.range 8).all fun k => field v (4 * k + 3) (4 * k) ≤ 5 || field v (4 * k + 3) (4 * k) == 15
  | .thmExtCfg, v => v % 4 != 3 && v / 4 % 2 ^ 14 == 0 && v / 2 ^ 19 % 32 == 0

/-- Whether a pattern lies in the object's range (R49, R53). -/
def ObjRow.accepts (r : ObjRow) (p : Pattern) : Bool :=
  match r.range with
  | .whole => if r.type = .bool then p < 2 else true
  | .within parts => parts.any fun (lo, hi) => lo ≤ valueOf r.type p && valueOf r.type p ≤ hi
  | .packed o => o.accepts p

end Sys2Proof.Machine
end

