-- ==== Sys2Proof/Machine/State.lean ====
section
/-! DEFINITION. The state of the block as plain data: the queue of commands that wait, the Pacer count, and the device; the reasons a step can stop; and the state after reset. -/

namespace Sys2Proof.Machine

/-! ### Girth link (R8 to R10) -/

/-- What a Girth frame carries besides its ALIVE value and CRC (Table 1.3). -/
structure GirthFrame where
  type    : Nat
  chan    : Nat
  payload : List Nat
  deriving DecidableEq, Repr

/-- The one unacknowledged frame of an end (R9 rule 2): the frame, the ALIVE it was last sent under, and its failed resends. -/
structure InFlight where
  frame   : GirthFrame
  alive   : Nat
  resends : Nat
  deriving DecidableEq, Repr

/-- One end of the Girth link. -/
structure GirthEnd where
  /-- This end counts the link up (R10). -/
  up        : Bool
  /-- ALIVE of the next frame this end sends. -/
  nextAlive : Nat
  /-- ALIVE of the last frame this end accepted. -/
  rxAlive   : Nat
  inFlight  : Option InFlight
  /-- Acknowledged types that wait to be sent, oldest first. -/
  waiting   : List GirthFrame
  /-- Payload of this end's restart frames: 0x5A or 0xA5 (R10 rule 1). -/
  code      : Nat
  /-- Restart frames accepted in ALIVE sequence (R10 rule 4). -/
  accepted  : Nat
  /-- Bytes of the frame this end put on the wire last. -/
  lastSent  : List Nat
  deriving DecidableEq, Repr

/-- Both ends of the link, and the Pacer strobe. -/
structure Girth where
  rider      : GirthEnd
  saddle     : GirthEnd
  /-- Pacer count of the last strobe the Rider sent (R9 rule 6). -/
  lastStrobe : Nat
  deriving DecidableEq, Repr

/-! ### Supplies, pace, reset and boot -/

/-- What reset phase the device is in. -/
inductive Phase where
  /-- Held in reset (R63, R77, R78). -/
  | held
  /-- Out of reset and past network-ready, or in UPDATE of the boot ROM. -/
  | running
  /-- Ledger service mode (R79). -/
  | service
  /-- In Sleep: Rider and VCC5 rails off (R86). -/
  | asleep
  /-- After a power-loss sequence with VIO still present (R79 rule 6). -/
  | dormant
  deriving DecidableEq, Repr

/-- The Pacer, pace control and supplies, beside their objects. -/
structure Supply where
  phase        : Phase
  /-- The crystal is stable (R80). -/
  xtalStable   : Bool
  /-- The Pacer left the crystal under R20 and waits for a write of `PAC_SOURCE` or a reset. -/
  xtalLost     : Bool
  /-- Which of the two delay lines places edges (R20). -/
  delayLine    : Fin 2
  /-- Pace mode in force: 0 Walk, 1 Trot, 2 Gallop (R16). -/
  pace         : Nat
  /-- The mode a change in progress goes to (R18). -/
  paceTarget   : Option Nat
  /-- The latest request kept while a change is in progress (R18 rule 4). -/
  paceKept     : Option Nat
  /-- The cause bits of the resets that wait for the end of the power-loss sequence (R91). -/
  deferred     : Nat
  /-- The checkpoint of the present warning is written. -/
  cpDone       : Bool
  /-- VHOLD charging failed within 20 ms and is retried (R78). -/
  chargeRetry  : Bool
  /-- Armed wake sources recorded at Sleep entry (R86 step 4). -/
  wakeArmed    : Nat
  /-- VBAT stands below its absent threshold (R74). -/
  vbatAbsent   : Bool
  /-- The transceivers and the PHY serve the ports (Table 5.4 step 9; off below VCC5 and in Sleep). -/
  transceivers : Bool
  /-- The service-exit reset waits for a post to complete (R79 rule 4). -/
  exitPending  : Bool
  /-- Seconds in READY or RUN count toward the confirmation of a TRIAL bank (R82). -/
  trialRunning : Bool
  deriving DecidableEq, Repr

/-- A firmware bank in MRAM (R81, R407). -/
structure FwBank where
  headerIntact : Bool
  sigValid     : Bool
  secVersion   : Nat
  version      : Nat
  /-- Bytes by offset, rising; an offset not listed reads as the factory's image, or as 0xFF, the erased value the model uses. -/
  image        : List (Nat × Nat)
  /-- The bank came with the factory's image. -/
  factory      : Bool
  length       : Nat
  deriving DecidableEq, Repr

/-- The boot record in MRAM (R81) and the banks. -/
structure BootRecord where
  preferred  : Fin 2
  trial      : Bool
  trialCount : Nat
  bankA      : FwBank
  bankB      : FwBank
  deriving DecidableEq, Repr

/-! ### OTP and the Ledger -/

/-- The fuses of one OTP word: bits 31:0 data, 38:32 code. `blown` reads 1 at both strict margins, `weak` at one only. -/
structure Fuses where
  blown : Nat
  weak  : Nat
  deriving DecidableEq, Repr

/-- An OTP command that runs (R104, R105). -/
structure OtpJob where
  /-- The word being programmed. -/
  word   : Nat
  /-- The 39 bits that must read back. -/
  target : Nat
  deriving DecidableEq, Repr

/-- OTP: fuses by word, the shadow registers of R98, what is in force, and the command that runs. -/
structure Otp where
  /-- Words with a fuse that is not unblown, by word number, rising. -/
  fuses   : List (Nat × Fuses)
  /-- The shadow registers, in the same form. -/
  shadow  : List (Nat × Fuses)
  /-- Mask of the banks in force since the last reset (R102). -/
  inForce : Nat
  /-- Words whose programming read back wrong (R104). -/
  spoiled : List Nat
  job     : Option OtpJob
  deriving DecidableEq, Repr

/-- One value of a record of the posted set (Table 6.5): key, type code and value bytes. -/
structure LedgerItem where
  key   : Nat
  code  : Nat
  bytes : List Nat
  deriving DecidableEq, Repr

/-- A record copy (Table 6.5). -/
structure LedgerRecord where
  id     : Nat
  serial : Nat
  limit  : Bool
  items  : List LedgerItem
  deriving DecidableEq, Repr

/-- A head copy (Table 6.6). -/
structure LedgerHead where
  serial : Nat
  slot   : Nat
  count  : Nat
  length : Nat
  deriving DecidableEq, Repr

/-- A checkpoint slot (Table 6.7). -/
structure Checkpoint where
  serial   : Nat
  loss     : Bool
  brownOut : Bool
  time     : Nat
  counters : List Nat
  deriving DecidableEq, Repr

/-- One entry slot of the Ledger: the copies A, B, C of its records. A record that is not intact is absent. -/
structure LedgerSlot where
  /-- The RECORD_IDs that the post laid out, ascending (R107). -/
  ids   : List Nat
  copyA : List LedgerRecord
  copyB : List LedgerRecord
  copyC : List LedgerRecord
  deriving DecidableEq, Repr

/-- The Ledger in MRAM: three head copies (`none`: CRC invalid), two slots, the ring of intact checkpoints newest first, and the post that runs. -/
structure Ledger where
  head1 : Option LedgerHead
  head2 : Option LedgerHead
  head3 : Option LedgerHead
  slot0 : LedgerSlot
  slot1 : LedgerSlot
  ring  : List Checkpoint
  /-- The set captured by the post in progress (R55 rule 1). -/
  post  : Option (List LedgerRecord)
  deriving DecidableEq, Repr

/-! ### Legs (R118 to R136) -/

/-- One leg on the Saddle die. -/
structure Leg where
  /-- Level of the high-side gate command wire. -/
  cmdHigh      : Bool
  /-- Level of the low-side gate command wire. -/
  cmdLow       : Bool
  /-- The high-side gate is driven on. -/
  high         : Bool
  /-- The low-side gate is driven on. -/
  low          : Bool
  /-- A high-side turn-on waits for the guard (R127). -/
  waitHigh     : Bool
  /-- A low-side turn-on waits for the guard (R127). -/
  waitLow      : Bool
  /-- The turn-on of trip state LOW waits (R131). -/
  waitTrip     : Bool
  /-- The Hobble latch bit. -/
  latched      : Bool
  /-- The leg is held OFF whatever its configured trip state (R123). -/
  forceOff     : Bool
  /-- The monitors and the comparator are on (R121). -/
  monitors     : Bool
  /-- The monitors come on within 10 µs of the hitch commit (R121). -/
  monitorsDue  : Bool
  /-- Its trip sources 2, 3, 4 and 7 that are active, or inactive but not yet for their tQUAL (R133). -/
  active       : List Nat
  deriving DecidableEq, Repr

/-- A trip source that acted between the Saddle die's reset and boot step 5, with the fault that it posts there (R130). -/
structure EarlyTrip where
  src    : Nat
  leg    : Nat
  source : Nat
  kind   : Nat
  detail : Nat
  deriving DecidableEq, Repr

/-- The gate driver array beside its legs and objects. -/
structure Gda where
  legs        : Vector Leg 24
  /-- Trip sources 0, 1, 5 and 6 that are active, or inactive but not yet for their tQUAL (R133). -/
  active      : List Nat
  /-- The device safe state drives the Hobble command wire (R343). -/
  hobbleSafe  : Bool
  /-- Every gate is held off: VGD undervoltage or the power-loss sequence. -/
  allOff      : Bool
  /-- A VGD_LOW episode runs (R125). -/
  vgdLow      : Bool
  /-- The trip sources that acted while the device was held in reset, first to last (R130). -/
  early       : List EarlyTrip
  deriving DecidableEq, Repr

/-! ### The Tally (R331 to R350) -/

/-- A message on its way to the Tally: when it was posted, its value, and whether it was injected (R348). -/
structure Posted where
  tick     : Nat
  message  : Message
  injected : Bool
  deriving DecidableEq, Repr

/-- A pending entry (Table 17.5). -/
structure PendingEntry where
  message   : Message
  posted    : Nat
  /-- tHANDLE in ms in force at intake; 0xFFFF for Immediate. -/
  handleMs  : Nat
  /-- 1 Handle, 2 Immediate. -/
  cls       : Nat
  escalated : Bool
  device    : Bool
  axes      : Nat
  deriving DecidableEq, Repr

/-- An event log record (Table 17.7). -/
structure LogRecord where
  message : Message
  time    : Nat
  flags   : Nat
  axes    : Nat
  deriving DecidableEq, Repr

/-- The Tally beside its objects. -/
structure Tally where
  /-- Messages sent and not yet taken, in order of arrival. -/
  inbox     : List Posted
  /-- Pending entries, oldest first (R338). -/
  entries   : List PendingEntry
  /-- The queue for Groom, at most 64 (R346). -/
  logQueue  : List LogRecord
  /-- The ring in MRAM: serial and record, newest first, at most 16,384. -/
  log       : List (Nat × LogRecord)
  /-- Logging stopped after a failed write (R347). -/
  logStop   : Bool
  /-- tERR has not elapsed since the latest Handle or Immediate intake (R345). -/
  errTiming : Bool
  /-- ERRN is driven low. -/
  errnLow   : Bool
  deriving DecidableEq, Repr

/-! ### The dictionary server (R39 to R57) -/

/-- Who owns a staged set or a transfer: a session, the host SPI port outside any session (R49, R54), or a requester of a field port outside any session, which can hold a read transfer. -/
inductive Owner where
  | session (n : Nat)
  | hostSpi
  | outside (port : Port) (node : Nat)
  deriving DecidableEq, Repr

/-- A staged set: its block, its owner, the staged values by position, and the staged table entries by position (R49). -/
structure StagedSet where
  block  : Block
  owner  : Owner
  values : List (ObjKey × Pattern)
  tables : List (ObjKey × List Nat)
  deriving DecidableEq, Repr

/-- A session (R45). -/
structure Session where
  number : Nat
  /-- The role asked for. -/
  role   : Nat
  /-- The key slot the proof uses. -/
  slot   : Nat
  port   : Port
  node   : Nat
  nonce  : List Nat
  /-- The proof was accepted: the session holds its role. -/
  proven : Bool
  /-- The session key of R403. -/
  key    : List Nat
  /-- The proof method that was accepted. -/
  method : Nat
  /-- Last FRESH accepted and last FRESH sent (R374 rule 3). -/
  freshRx : Nat
  freshTx : Nat
  deriving DecidableEq, Repr

/-- A segmented transfer (R54). -/
structure Transfer where
  owner   : Owner
  key     : ObjKey
  writing : Bool
  /-- First entry and entry count of a TABLE, 0 and 0 for a BLOB. -/
  first   : Nat
  count   : Nat
  length  : Nat
  crc     : Nat
  /-- Bytes received so far, or bytes captured. -/
  data    : List Nat
  deriving DecidableEq, Repr

/-- The answer to a request: its status (Table 3.5), the entry position it names, and the bytes it returns. -/
structure Answer where
  status   : Nat
  position : Nat
  data     : List Nat
  deriving DecidableEq, Repr

/-- The dictionary server. -/
structure Server where
  sessions  : List Session
  staged    : List StagedSet
  transfers : List Transfer
  /-- Transfers ended by the timeout of R54 rule 6, whose next request is answered SEGMENT. -/
  timedOut  : List Owner
  /-- The answer to the last request served. -/
  answer    : Answer
  /-- The Teamster pair serves requests (R13). -/
  teamster  : Bool
  /-- Failed proofs of the last 60 s: node number and Pacer count (R402). -/
  failed    : List (Nat × Nat)
  /-- Nodes under the OPEN_SESSION lockout (R402). -/
  locked    : List Nat
  deriving DecidableEq, Repr
/-! ### Edge placers (R137 to R155) -/

/-- An edge set: the period it is computed for, and its 16 compares in carrier units (R139, R140). -/
structure EdgeSet where
  seq : Nat
  cmp : List Nat
  deriving DecidableEq, Repr

/-- A set accepted for the period to be decided, and its arrival in fine steps. -/
structure AcceptedSet where
  set     : EdgeSet
  arrival : Nat
  deriving DecidableEq, Repr

/-- Where a gate output stands at the start of the next period to be treated: its level, and its last edge in fine steps before that start (as a negative number). -/
structure OutRun where
  level : Bool
  last  : Int
  deriving DecidableEq, Repr

/-- An edge of an active compare set that has not fallen due: absolute time in fine steps, gate output, new level. -/
structure DueEdge where
  time   : Nat
  output : Nat
  on     : Bool
  deriving DecidableEq, Repr

/-- The Staged set of an edge placer as a period holds it (R138): the carrier unit in fine steps, P, the event channels and the markers. -/
structure EdpCfg where
  unit  : Nat
  len   : Nat
  evts  : List Nat
  marks : List Nat
  deriving DecidableEq, Repr

/-- A period: its sequence number, its start in fine steps, its settings, and its set as posted (R137, R152). -/
structure Frame where
  seq   : Nat
  start : Nat
  cfg   : EdpCfg
  cmp   : List Nat
  /-- The period is the first with a set that was committed on the running axis (R138). -/
  fresh : Bool
  deriving DecidableEq, Repr

/-- The edge placer of one axis, beside its objects. [log 40: DEDUCED] -/
structure Edp where
  /-- Enable accepted, first period not started: the enable in fine steps (R154). -/
  armed     : Option Nat
  running   : Bool
  /-- Sequence number the next period to start after an enable carries (R137 rule 5). -/
  nextSeq   : Nat
  /-- Sequence number of the last period decided. -/
  decided   : Nat
  /-- Post-by time in fine steps of that period. -/
  decidedBy : Int
  /-- Start in fine steps of the period after the last one decided. -/
  nextStart : Nat
  /-- Carrier unit in fine steps and period in units of the last period decided. -/
  unit      : Nat
  length    : Nat
  /-- A set on its way from the correction unit. -/
  mailbox   : Option EdgeSet
  /-- Compares of the newest set posted; all off until the first after the enable (R154). -/
  newest    : List Nat
  /-- Compares of the repeat candidate of the next period to be decided (R142). -/
  candidate : List Nat
  accepted  : Option AcceptedSet
  /-- A set for the period after the one to be decided. -/
  early     : Option AcceptedSet
  /-- Arrival of the first late set for the period to be decided. -/
  lateAt    : Option Nat
  /-- Sequence numbers and post-by times in fine steps of repeated periods whose late set has not arrived (R145). -/
  owed      : List (Nat × Int)
  edges     : List DueEdge
  /-- Edges of the set accepted for the period to be decided. -/
  placed    : List DueEdge
  outs      : List OutRun
  /-- Level of each gate output now, and the fine step of its last edge (R161). -/
  lines     : List (Bool × Nat)
  /-- Consecutive refresh periods per slot (R150). -/
  refCount  : List Nat
  /-- Occurrences of each event channel's source since it was set (R153). -/
  occurs    : List Nat
  /-- Refresh windows of the last periods, per slot: from and to in fine steps, 0 and 0 for none (R151). -/
  windows   : List (Nat × Nat)
  /-- The same of the set accepted for the period to be decided. -/
  placedWins : List (Nat × Nat)
  /-- The first period after an enable runs: no compare set is active yet (R154). -/
  unset     : Bool
  /-- Event channels whose firing was marked in the trace since reset. -/
  marks     : Nat
  /-- High-side on-times in units by slot, and whether any gate is on, of the last four periods decided, newest first (R235). -/
  onTimes   : List (Nat × List Nat × Bool)
  /-- The last three periods decided, newest first. -/
  frames    : List Frame
  /-- The settings of the period that runs and is not decided yet: they are fixed at its start (R138). -/
  held      : Option EdpCfg
  /-- A set committed on the running axis waits for the next period that takes its settings (R138). -/
  renew     : Bool
  /-- Source codes whose event has occurred in the period that runs (R152). -/
  fired     : List Nat
  /-- A set was posted since the enable; before that the repeat candidate is the all-off set, which places no edge (R154). -/
  posted    : Bool
  /-- The repeat candidate is the all-off set of R154. -/
  allOff    : Bool
  /-- Kind 0x09 was posted in the present run of repeats (R143). -/
  reported  : Bool
  /-- A compare was limited to P since the SAT flag was last cleared (R140). -/
  limited   : Bool
  /-- Event channels whose firing was notified to the Teamster since reset (R153). -/
  notified  : Nat
  deriving DecidableEq, Repr

/-- An edge placer that runs no period. [log 9: DESIGN CHOICE] -/
def Edp.idle : Edp :=
  { armed := none, running := false, nextSeq := 0, decided := 0, decidedBy := 0, nextStart := 0, unit := 1, length := 51200
    mailbox := none, newest := List.replicate 16 0, candidate := List.replicate 16 0, accepted := none, early := none, lateAt := none
    owed := [], edges := [], placed := [], outs := List.replicate 8 ⟨false, -1000000000⟩, lines := List.replicate 8 (false, 0)
    refCount := [0, 0, 0, 0], occurs := [0, 0, 0, 0], windows := List.replicate 4 (0, 0), placedWins := List.replicate 4 (0, 0)
    unset := false, marks := 0, onTimes := [], frames := [], held := none, renew := false, fired := [], posted := false
    allOff := true, reported := false, limited := false, notified := 0 }

/-! ### The conversion pool (R159 to R183) -/

/-- One input of a hold: its channel, its place among the inputs, and what has become of it. -/
structure HeldInput where
  code  : Nat
  /-- Held and waiting for a slice. -/
  waits : Bool
  /-- Being converted. -/
  busy  : Bool
  /-- Its result value and flags (Table 9.6), once ready or declared missing. -/
  value : Int
  flags : Nat
  /-- The result is ready or the input is missing. -/
  ready : Bool
  deriving DecidableEq, Repr

/-- A hold of a capture group that is not yet delivered (R163, R170): its instant in fine steps and its inputs in list order. -/
structure Hold where
  group  : Nat
  time   : Nat
  /-- PRIO and window (ticks) of the group at the hold: a commit acts on the next one (R182). -/
  prio   : Nat
  window : Nat
  inputs : List HeldInput
  deriving DecidableEq, Repr

/-- What a slice converts (R168). -/
inductive SliceJob where
  | idle
  | held (group time place : Nat)
  | monitor (code : Nat)
  | equalise
  | calibrate
  deriving DecidableEq, Repr

/-- One slice of the pool. -/
structure Slice where
  inService : Bool
  job       : SliceJob
  /-- Successive failed checks of R175 rule 4. -/
  fails     : Nat
  /-- An equalisation conversion is due. -/
  due       : Bool
  deriving DecidableEq, Repr

/-- A result set on its way to the engines of its axis (R170). -/
structure ResultSet where
  group  : Nat
  time   : Nat
  codes  : List Nat
  values : List Int
  flags  : List Nat
  deriving DecidableEq, Repr

/-- A monitor conversion of an AUX channel or an analog rein (FRAC16) or of a Saddle temperature sensor (TEMP16), with whether it carries CLIP or is MISSING (R177, R320, R322). -/
structure Mon where
  value   : Int
  clip    : Bool
  missing : Bool
  deriving DecidableEq, Repr

/-- None yet. -/
def Mon.rest : Mon := ⟨0, false, false⟩

/-- The conversion pool beside its objects. -/
structure Cnv where
  holds     : List Hold
  slices    : List Slice
  /-- Pacer counts of owed monitor conversions, oldest first (R167). -/
  owed      : List Nat
  /-- Position in the round robin of the monitor path (R177). -/
  round     : Nat
  /-- Fine step until which each group re-tracks (R164). -/
  retrack   : List Nat
  /-- Runs of clipped holds by group × 256 + channel code (R173). -/
  clipRuns  : List (Nat × Nat)
  /-- Current channels outside their common-mode band (R160). -/
  outside   : List Nat
  /-- Result sets delivered and not yet taken by the engines. -/
  delivered : List ResultSet
  /-- Latest monitor conversion of AUX0 to AUX7, of the analog reins and of Saddle temperature sensors 0 to 5 (R177, R320). -/
  monitor   : List Mon
  /-- Pacer counts at which capture-group conversions started, within the last 1 ms (`CNV_LOAD`). -/
  starts    : List Nat
  /-- Calibration: 1 ZERO, 2 FULL, 0 no measurement; conversions summed, their sum, and whether one clipped or is missing (R178). -/
  calPhase  : Nat
  calCount  : Nat
  calSum    : Int
  calBad    : Bool
  /-- Pacer count of the end of the last burst (R176). -/
  burstEnd  : Option Nat
  /-- The slices stand still: VCC5 is below its threshold (R74). -/
  stopped   : Bool
  deriving DecidableEq, Repr

/-- The pool at rest, all slices in service. [log 9: DESIGN CHOICE] -/
def Cnv.rest : Cnv :=
  ⟨[], List.replicate 8 ⟨true, .idle, 0, false⟩, [], 0, List.replicate 8 0, [], [], [], List.replicate 22 Mon.rest, [], 0, 0, 0, false, none, false⟩
/-! ### Control engines (R184 to R208) and the current pair (R209 to R225) -/

/-- A coefficient bank: the values and tables of R198's Staged set that are listed, by position (R198). -/
structure Bank where
  objs : List (ObjKey × Pattern)
  tabs : List (ObjKey × List Nat)
  deriving DecidableEq, Repr

/-- What one sample of a slot gives (R191, Tables 10.3 and 10.10). -/
structure Sample where
  err   : Int
  seg   : Nat
  /-- The integrator after the sample, and the unrounded sum u', in ACC40. -/
  integ : Int
  sum   : Int
  out   : Int
  high  : Bool
  low   : Bool
  hold  : Bool
  sat   : Bool
  /-- The slot's state and effective reference after the sample. -/
  state : Nat
  rEff  : Int
  /-- The feedback was missing: the sample keeps the output and the integrator (R202 item 4). -/
  missing : Bool
  deriving DecidableEq, Repr

/-- What the law of one slot is computed with (R189 to R191). -/
structure SlotCoef where
  /-- Gain-table entries: Kp in bits 31:16, Ki in bits 15:0. -/
  table  : List Nat
  span   : Nat
  shift  : Nat
  outMin : Int
  outMax : Int
  deriving DecidableEq, Repr

/-- What a slot took of its Live objects at its last sample boundary (R48): `AXn_CE_REF` or `AXn_CE_POS_REF`, `AXn_CE_FB_EXT` and `AXn_CE_MANUAL`. -/
structure LiveIn where
  ref    : Int
  ext    : Int
  manual : Int
  deriving DecidableEq, Repr

/-- A slot beside its objects. -/
structure SlotRun where
  rEff    : Int
  /-- The first RAMP sample is to come (R193). -/
  enter   : Bool
  /-- The first AUTO sample after MANUAL is to come (R194). -/
  preset  : Bool
  /-- `AXn_CE_MANUAL` was written since the slot's last sample boundary (R195). -/
  written : Bool
  /-- Consecutive misses, and whether kind 0x09 was posted in this run (R202). -/
  missRun : Nat
  reported : Bool
  /-- A sample that waits for the datapath (R204). -/
  due     : Bool
  /-- The computation in progress. -/
  job     : Option Sample
  /-- The computation cycle of the present or last sample. -/
  cycle   : Nat
  /-- Pacer count of a post whose deadline has not come (R203). -/
  posted  : Option Nat
  /-- Pacer count of the deadline that passed while the slot computed. -/
  late    : Option Nat
  live    : LiveIn
  deriving DecidableEq, Repr

/-- A slot at rest. -/
def SlotRun.rest : SlotRun := ⟨0, false, false, false, 0, false, false, none, 0, none, none, ⟨0, 0, 0⟩⟩

/-- A check that waits for the plausibility supervisor (R204 to R206): the cycle, the previous and the present measured currents, and the voltages and speed posted then. -/
structure PlausCheck where
  count : Nat
  prevD : Int
  prevQ : Int
  measD : Int
  measQ : Int
  vd    : Int
  vq    : Int
  omega : Int
  deriving DecidableEq, Repr

/-- The control engine of one axis, beside its objects. -/
structure Ce where
  bankA   : Bank
  bankB   : Bank
  /-- The bank write of the last commit runs (R198). -/
  writing : Bool
  /-- A pending computation took the other bank: the swap comes with the cycle it prepares (R210). -/
  swapNext : Bool
  /-- The commit of the pending swap wrote the table origin (R197 item 2). -/
  origin  : Bool
  /-- Computation cycles begun since the enable (R186). -/
  cycles  : Nat
  slots   : List SlotRun
  /-- Posted current references of slots 0 and 1 (R196). -/
  refs    : List Int
  /-- Table phases of friction and cogging, and the position of their last advance (R197). -/
  phases  : List Nat
  lastPos : Nat
  /-- Run counts of the supervisor for d and q (R206). -/
  plaus   : List Nat
  /-- The latest value and flags of each channel code delivered to the group of the axis (Table 10.2). -/
  last    : List (Nat × (Int × Nat))
  /-- Current references that wait for the feed-forward lookups, and the check that waits for the supervisor (R204). -/
  lookups : List Nat
  check   : Option PlausCheck
  /-- Uncorrectable words of engine table RAM that no disable has reloaded yet (R207). -/
  bad     : List Nat
  deriving DecidableEq, Repr

/-- A control engine at rest. -/
def Ce.rest : Ce :=
  ⟨⟨[], []⟩, ⟨[], []⟩, false, false, false, 0, List.replicate 6 SlotRun.rest, [0, 0], [0, 0], 0, [0, 0], [], [], none, []⟩

/-- How a slot of the pair forms its output (R191 to R194, R213). -/
inductive PairKind where
  /-- No output depends on the measurement: DISABLED, OFF, or a slot that is not computed. -/
  | off
  | manual
  /-- The law of R191. -/
  | law
  /-- The first RAMP sample, whose error is 0. -/
  | rampFirst
  /-- The first AUTO sample after MANUAL. -/
  | preset
  deriving DecidableEq, Repr

/-- What one sample of slot 0 or 1 is computed from, as it stood at the start of the pending computation (R210). -/
structure PairIn where
  coef   : SlotCoef
  kind   : PairKind
  integ  : Int
  /-- Last posted output, and the manual value. -/
  um     : Int
  manual : Int
  /-- The posted reference, and the effective one of this sample (R193). -/
  target : Int
  ref    : Int
  /-- The state before the sample. -/
  state  : Nat
  /-- The last error and its segment, kept where none is formed. -/
  err    : Int
  seg    : Nat
  deriving DecidableEq, Repr

/-- One slot of a pending set (R212). -/
structure PairSlot where
  inn    : PairIn
  /-- The predicted current. -/
  pred   : Int
  /-- The sample computed for the prediction. -/
  sample : Sample
  sens   : Int
  /-- Δ within the segment run of R214 condition 1, within condition 2 as well, and the box. -/
  segLo  : Int
  segHi  : Int
  limLo  : Int
  limHi  : Int
  boxLo  : Int
  boxHi  : Int
  deriving DecidableEq, Repr

/-- What the pair's edge set is made of. -/
inductive PairPlan where
  /-- Every gate off: the states of Table 13.1 with the gates off. -/
  | gatesOff
  /-- Every low side on: the shorts of Table 13.1. -/
  | lowsOn
  /-- Two voltages that no loop forms, at an angle: a pulse (R264), or the quiet mode of R279. -/
  | fixed (vd vq : Int) (theta : Nat)
  /-- The outputs of slots 0 and 1. -/
  | loop
  deriving DecidableEq, Repr

/-- A pending set (R212). -/
structure PendingSet where
  plan    : PairPlan
  d       : PairSlot
  q       : PairSlot
  cmp     : List Int
  sensD   : List Int
  sensQ   : List Int
  /-- A sensitivity cannot be represented (R213). -/
  noSens  : Bool
  /-- The modulation angle and the period it was computed for. -/
  thetaM  : Nat
  seq     : Nat
  /-- The pending computation has completed, and when, as FINE32. -/
  done    : Bool
  time    : Nat
  deriving DecidableEq, Repr

/-- A computation cycle whose result set has not been used: its number since the enable, the fine step of its hold, the list it holds, and the period its set is for. -/
structure Cycle where
  count : Nat
  time  : Nat
  codes : List Nat
  seq   : Nat
  deriving DecidableEq, Repr

/-- The measurement of a cycle (R227 to R229). -/
structure Meas where
  cycle : Cycle
  d     : Option Int
  q     : Option Int
  /-- Leg currents as used, by slot. -/
  legs  : List (Option Int)
  /-- Phase voltages of PV channels in the set, by slot. -/
  pv    : List (Option Int)
  deriving DecidableEq, Repr

/-- A full computation in progress (R218, R209 item 4). -/
structure FullJob where
  meas   : Meas
  /-- It follows a misspeculation. -/
  miss   : Bool
  plan   : PairPlan
  d      : Sample
  q      : Sample
  cmp    : List Int
  thetaM : Nat
  deriving DecidableEq, Repr

/-- The speculative-correction unit of one axis, beside its objects. -/
structure Sc where
  pending : Option PendingSet
  full    : Option FullJob
  /-- A measurement that waits for the pending set to complete (R217). -/
  waiting : Option Meas
  /-- Measurements that came while the pair was busy and were not computed (R201), oldest first: step 2 of R226 follows that of the one before them. -/
  passed  : List Meas
  cycles  : List Cycle
  /-- Posts for a period whose post-by time is not fixed yet: its sequence number and the Pacer count of the post (R201, R203). -/
  early   : List (Nat × Nat)
  /-- The last measured currents, or the last prediction where the last measurement was missing (R211). -/
  lastD   : Int
  lastQ   : Int
  /-- Outputs d and q, and predictions d and q, posted last (R221). -/
  posted  : List Int
  /-- Cycles and hits of the running window of 1,024, and the hits of a full window that waits for its update (R224). -/
  window  : Nat
  hits    : Nat
  full1k  : Option Nat
  /-- The trace ring, oldest first, as bytes (R222). -/
  trace   : List (List Nat)
  /-- Records still to come before recording stops. -/
  left    : Option Nat
  deriving DecidableEq, Repr

/-- A correction unit at rest. -/
def Sc.rest : Sc := ⟨none, none, none, [], [], [], 0, 0, [0, 0, 0, 0], 0, 0, none, [], none⟩

/-! ### Field engines (R226 to R255) -/

/-- A tracker of R239: its integral in ACC40, its speed as SPEED32, and its 32-bit angle at the next hold. -/
structure Tracker where
  integ : Int
  omega : Int
  theta : Nat
  deriving DecidableEq, Repr

/-- A tracker at rest. -/
def Tracker.rest : Tracker := ⟨0, 0, 0⟩

/-- The field engine of one axis, beside its objects. -/
structure Fe where
  obs     : Tracker
  inj     : Tracker
  sensor  : Tracker
  /-- The flux integral ψ_αβ (R238). -/
  psiA    : Int
  psiB    : Int
  /-- The 32-bit angle in use, predicted for the next hold. -/
  theta   : Nat
  /-- The speed in use. -/
  omega   : Int
  /-- θ_use of the last hold, once there was one. -/
  held    : Option Nat
  blend   : Nat
  lockRun : Nat
  /-- Holds since the handover comparison first failed, and consecutive refusals (R243). -/
  wait    : Nat
  refused : Nat
  /-- Leg currents of the previous cycle, by slot, and the two d/q currents of the previous hold. -/
  legI    : List Int
  iPrev   : Option (Int × Int)
  /-- Hall: the filtered code, the sector once valid, the angle and Pacer count of the last edge, no edge for HALL_TMAX, and the angle kept since an invalid code or a jump (R245 item 5). -/
  code    : Nat
  sector  : Option Nat
  angle   : Nat
  edge    : Nat
  stale   : Bool
  kept    : Option Nat
  /-- Encoder: the count and the levels of A and B. -/
  count   : Nat
  levels  : Nat
  /-- Id_fw in ACC40 (R250). -/
  fw      : Int
  /-- VLINK_LOW was posted and is not armed again (R231). -/
  linkLow : Bool
  /-- A written position waits for the next hold (R248). -/
  preset  : Option Nat
  /-- The settings in force where a committed set waits for the next boundary (R50 item 3), else none: those accepted. -/
  old     : Option (List (ObjKey × Pattern))
  deriving DecidableEq, Repr

/-- A field engine at rest. -/
def Fe.rest : Fe :=
  ⟨Tracker.rest, Tracker.rest, Tracker.rest, 0, 0, 0, 0, none, 0, 0, 0, 0, [0, 0, 0, 0], none, 0, none, 0, 0, true, none, 0, 0, 0, false, none, none⟩

/-! ### Start and recovery procedures (R256 to R276) -/

/-- What moves a procedure on besides the holds: the state change comes at the start of the next pending computation (R257). -/
inductive StEvent
  /-- START of `AXn_ST_CMD`. -/
  | start
  /-- STOP of `AXn_ST_CMD`. -/
  | stop
  /-- The catch window ends. -/
  | windowEnd
  /-- The dwell ends. -/
  | dwellEnd
  /-- t_ALIGN has elapsed. -/
  | alignEnd
  /-- The pulse sequence is done. -/
  | pulsesDone
  /-- The handover wait has elapsed. -/
  | waitEnd
  /-- The pause between two attempts has elapsed. -/
  | pauseEnd
  deriving DecidableEq, Repr

/-- The procedure of one axis, beside its objects. -/
structure St where
  /-- The settings in use: the accepted set as of the last state change that may take it (R273). -/
  cfg      : List (ObjKey × Pattern)
  dir      : Int
  attempt  : Nat
  /-- Between two attempts, with the gates off (R263). -/
  pausing  : Bool
  /-- Catch tracker, holds in a row within the lock threshold, whether |v| stayed below V_MIN, and |v| seen at all. -/
  catcher  : Tracker
  run      : Nat
  slow     : Bool
  /-- Cycles in the present state. -/
  cycles   : Nat
  /-- The forced angle and speed of RAMP. -/
  thetaF   : Nat
  omegaF   : Int
  /-- PULSE: the direction, periods in it, whether its reading was repeated, and the readings. -/
  pulse    : Nat
  periods  : Nat
  again    : Bool
  readings : List Int
  /-- A reading was missing twice. -/
  lostRead : Bool
  /-- Pacer counts of rotor losses since the enable, newest first (R270). -/
  losses   : List Nat
  /-- I_eff while it is below `AXn_CE_I_LIMIT` (R267). -/
  iEff     : Option Int
  /-- The torque ramp counts as a start by RAMP or injection, and a HANDOVER_REFUSED report fails the attempt (R265). -/
  injected : Bool
  /-- What waits for the start of the next pending computation (R257), oldest first. -/
  events   : List StEvent
  /-- The rise of I_eff by cycle: TQ_RAMP of the settings that the catch ran on (R267, R273). -/
  tqStep   : Int
  /-- The last period of the present direction's pulse, once its first set is prepared (R264 item 2). -/
  window   : Option Nat
  deriving DecidableEq, Repr

/-- A procedure at rest. -/
def St.rest : St :=
  ⟨[], 1, 0, false, Tracker.rest, 0, true, 0, 0, 0, 0, 0, false, [], false, [], none, false, [], 0, none⟩

/-! ### Profile generators and the interpolator (R277 to R298) -/

/-- A queued move (Table 14.1). -/
structure Move where
  kind   : Nat
  target : Nat
  vMax   : Nat
  acc    : Nat
  dec    : Nat
  jerk   : Nat
  blend  : Bool
  vBlend : Nat
  deriving DecidableEq, Repr

/-- The steps of a homing (R288). -/
inductive HomeStep where
  /-- SWITCH: away from an active switch at V_LATCH. -/
  | release
  | search
  /-- SWITCH: stopping after the switch became active. -/
  | stopping
  /-- SWITCH: the return at V_LATCH. -/
  | back
  /-- Stopping after the last event. -/
  | ending
  /-- Stopping after the homing failed (R288). -/
  | failing
  deriving DecidableEq, Repr

/-- The generator of one axis, beside its objects. -/
structure Prf where
  /-- v with 16 fractional bits, and a with 16 fractional bits (R282). -/
  v        : Nat
  a        : Int
  /-- The phase accumulator A. -/
  carry    : Nat
  queue    : List Move
  move     : Option Move
  /-- The present move's end position, where it has one. -/
  target   : Option Nat
  /-- The join velocity of the blend in progress (R286). -/
  join     : Option Nat
  /-- Deceleration of the stop in progress. -/
  stopDec  : Nat
  /-- A move or homing waits for the checkpoint of R290. -/
  waits    : Bool
  /-- The settings in use (R296), and whether a committed set waits. -/
  cfg      : List (ObjKey × Pattern)
  /-- Microsteps since the present move or search began. -/
  moved    : Nat
  /-- Homing: its step, the level of the pin, the position of the edge that set the zero. -/
  homing   : Option HomeStep
  pinOn    : Bool
  /-- Cycles in STANDSTILL since HOLD_DELAY ended, none before it (R281). -/
  hold     : Option Nat
  /-- A mode change is armed: to strong (true) or to quiet (R280). -/
  armed    : Option Bool
  /-- The full-step position has been reached; the change comes at the next pending computation. -/
  reached  : Bool
  /-- Stall: full steps still blanked, sum and count of the baseline, the baseline, and holds at or above the threshold (R287). -/
  blank    : Nat
  baseSum  : Int
  baseN    : Nat
  base     : Int
  stallRun : Nat
  /-- Voltage last posted for each winding in quiet mode. -/
  quietV   : List Int
  /-- Group member: start position and signed distance of the group move. -/
  start    : Nat
  dist     : Int
  /-- No microstep has left STANDSTILL yet: the next first one waits for a checkpoint (R290). -/
  rested   : Bool
  deriving DecidableEq, Repr

/-- A generator at rest. -/
def Prf.rest : Prf :=
  ⟨0, 0, 0, [], none, none, none, 1, false, [], 0, none, false, none, none, false, 0, 0, 0, 0, 0, [0, 0], 0, 0, false⟩

/-- A queued group move (R293): kind, targets of the members in ascending order, velocity and accelerations. -/
structure GroupMove where
  kind    : Nat
  targets : List Nat
  vMax    : Nat
  acc     : Nat
  dec     : Nat
  jerk    : Nat
  deriving DecidableEq, Repr

/-- The interpolator beside its objects. -/
structure Interp where
  queue : List GroupMove
  /-- The group move that runs, and master steps made. -/
  move  : Option GroupMove
  steps : Nat
  /-- Accumulator and profile of the master, as a generator has them. -/
  v     : Nat
  a     : Int
  carry : Nat
  /-- The group move waits for the checkpoint of R290. -/
  waits : Bool
  /-- D, the master's distance (R293 item 1). -/
  total : Nat
  deriving DecidableEq, Repr

/-- The interpolator at rest. [log 9: DESIGN CHOICE] -/
def Interp.rest : Interp := ⟨[], none, 0, 0, 0, 0, false, 0⟩

/-! ### Services (R299 to R313) and rein inputs (R314 to R316) -/

/-- What a service recovers from (state RECOVERING). -/
inductive Recovery where
  | none
  /-- Air-lock cycles: phases of AIRLOCK_T completed. -/
  | airLock (phases : Nat)
  /-- The pump stops after a dry run. -/
  | dryStop
  /-- DRY_WAIT runs. -/
  | dryWait
  /-- BLOCK_WAIT runs. -/
  | blockWait
  /-- The flap homes after a stall. -/
  | recal
  deriving DecidableEq, Repr

/-- The service of one axis, beside its objects. -/
structure Svc where
  recovery : Recovery
  /-- Service ticks since RUNNING was last entered from STARTING. -/
  ticks    : Nat
  /-- Consecutive dry ticks (R305). -/
  dry      : Nat
  /-- An air-lock recovery has run since RUNNING was entered. -/
  aired    : Bool
  /-- Restarts after dry runs, recoveries of a fan, or recalibrations for one target. -/
  retries  : Nat
  /-- The fan's demand has reached W_ON and not fallen below W_OFF. -/
  demanded : Bool
  /-- Target of the flap's last push. -/
  pushed   : Option Int
  /-- FLD kind of the fan's last recovery. -/
  cause    : Nat
  /-- The temperature source of the Thermal loop or fan counts as lost. -/
  lost     : Bool
  /-- Milliseconds of the present second of run time. -/
  runMs    : Nat
  /-- Fault kind posted since the last service tick for which the service has a recovery or an ending, 0 for none (R307, R309). -/
  noticed  : Nat
  /-- Service ticks in RUNNING since it was entered or since the last detection or recovery (R305, R307). -/
  spell    : Nat
  /-- Slots that stand in MANUAL by the service's hand, to be set back to AUTO (R305, R313). -/
  held     : List Nat
  deriving DecidableEq, Repr

/-- A service at rest. [log 9: DESIGN CHOICE] -/
def Svc.rest : Svc := ⟨.none, 0, 0, false, 0, false, none, 0, false, 0, 0, 0, []⟩

/-- A motion of the Seat: a command of Table 15.5b, or the reversal after a pinch (R311). Its move is computed when it is pushed. -/
inductive SeatOp where
  | jog (k : Nat) (positive : Bool)
  | recall (m : Nat)
  | calibrate (k : Nat)
  | reverse (k : Nat)
  deriving DecidableEq, Repr

/-- The Seat instance, beside its objects. -/
structure Seat where
  /-- A move whose checkpoint is being written. -/
  push     : Option SeatOp
  /-- A move that waits for standstill. -/
  next     : Option SeatOp
  /-- The move that runs. -/
  current  : Option SeatOp
  /-- Service ticks since the move started. -/
  ticks    : Nat
  /-- Latest eight |i_q| of each member, newest first, and the pinch baselines once taken. -/
  recent   : List (List Int)
  base     : Option (List Int)
  /-- Consecutive ticks at or above PINCH_DI, by member, and at or above END_I. -/
  beyond     : List Nat
  atEnd    : Nat
  /-- Last direction of each member. -/
  dirs     : List Int
  deriving DecidableEq, Repr

/-- The Seat at rest. [log 9: DESIGN CHOICE] -/
def Seat.rest : Seat := ⟨none, none, none, 0, [[], [], [], []], none, [0, 0, 0, 0], 0, [1, 1, 1, 1]⟩

/-- A rein input, beside its objects (R314, R315). -/
structure Rein where
  /-- The pin is high, and the Pacer count of the last active edge and of the last inactive edge after it. -/
  level    : Bool
  active   : Option Nat
  inactive : Option Nat
  /-- The input is in the fail-safe. -/
  safe     : Bool
  deriving DecidableEq, Repr

/-- A rein input at rest. [log 9: DESIGN CHOICE] -/
def Rein.rest : Rein := ⟨false, none, none, false⟩

/-! ### Thermal sensors (R319 to R327) -/

/-- One of the 18 sensors, beside its objects. -/
structure Therm where
  /-- The last reading made, broken or not, as a TEMP16 number. -/
  value   : Int
  /-- The last interval gave a valid reading. -/
  valid   : Bool
  /-- Successive conversions MISSING or CLIP, and successive intervals without a reading (R322 rules 3 and 4). -/
  bad     : Nat
  silent  : Nat
  /-- Readings at the last ten rate updates, newest first (R325). -/
  history : List Int
  /-- The last rate update was above RATE_MAX. -/
  beyond    : Bool
  /-- The derating factor k_s of its last reading, without a rate excess (R325, R327). -/
  factor    : Int
  deriving DecidableEq, Repr

/-- A sensor that has not been read. [log 9: DESIGN CHOICE] -/
def Therm.rest : Therm := ⟨0, false, 0, 0, [], false, 32767⟩

/-! ### Assay units (R351 to R367) -/

/-- The assay units beside their objects. -/
structure Asy where
  /-- The scan that runs: whether its result is compared with `ASY_SCAN_EXPECT`. -/
  compare : Bool
  /-- Successive failed self-tests of each unit (R365). -/
  fails   : List Nat
  /-- Units that failed two successive tests, as a mask. -/
  failed  : Nat
  deriving DecidableEq, Repr

/-- The assay units after a reset. [log 9: DESIGN CHOICE] -/
def Asy.rest : Asy := ⟨false, [0, 0, 0, 0], 0⟩

/-! ### Networks and KLP (R368 to R390) -/

/-- A KLP datagram as a port carries it: the address part of Table 19.2 (PRIO in bit 15 of `dest`), the bytes from the header on, and for UDP the sender's address and port. -/
structure Datagram where
  dest  : Nat
  src   : Nat
  bytes : List Nat
  /-- Address and UDP port of the sender, for its answer (R380). -/
  peer  : Nat
  /-- Pacer count at its start of frame (R385). -/
  stamp : Nat
  deriving DecidableEq, Repr

/-- A reassembly on CAN FD: identifier, number of the last frame, and the datagram bytes so far (R379). -/
structure Reassembly where
  id    : Nat
  last  : Nat
  bytes : List Nat
  /-- Pacer count at the start of its first frame. -/
  stamp : Nat
  deriving DecidableEq, Repr

/-- The state of a receiving end-to-end context (R361). -/
inductive E2eState where
  | start | normal | recovery
  deriving DecidableEq, Repr

/-- A receiving end-to-end context (R375): its pair, its state, `last`, and in RECOVERY the ALIVE of the last datagram if that was a valid FORM 0x01. -/
structure E2eContext where
  src   : Nat
  dest  : Nat
  state : E2eState
  last  : Nat
  prev  : Option Nat
  deriving DecidableEq, Repr

/-- A sending end-to-end stream (R360): next ALIVE, and datagrams still to go in FORM 0x00. -/
structure E2eSender where
  alive : Nat
  plain : Nat
  deriving DecidableEq, Repr

/-- An answer kept for repeats (R373): the requester's node and session, the request's TXN, kind and body, and the answer. -/
structure KeptAnswer where
  node    : Nat
  session : Nat
  txn     : Nat
  kind    : Nat
  body    : List Nat
  answer  : Answer
  deriving DecidableEq, Repr

/-- One port: its receive queue, the datagram it sent last, and what waits for the host on SPI. -/
structure PortQueue where
  rx   : List Datagram
  sent : Option Datagram
  wait : List Datagram
  deriving DecidableEq, Repr

/-- Network time (R384, R385). -/
structure NetClock where
  nRef    : Nat
  pRef    : Nat
  /-- Successive syncs within 160 ticks. -/
  good    : Nat
  /-- Pacer count and master time of the previous valid sync. -/
  prev    : Option (Nat × Nat)
  /-- A SYNC that waits for its FOLLOW_UP: source, sequence and Pacer count. -/
  held    : Option (Nat × Nat × Nat)
  /-- Sequence number of the next SYNC sent. -/
  seq     : Nat
  deriving DecidableEq, Repr

/-- Courier and the ports beside their objects. -/
structure Net where
  /-- The settings in force since the last reset: node, ports, addresses, bit rates (R388). -/
  inForce  : List (ObjKey × Pattern)
  ports    : Vector PortQueue 4
  /-- The port to look at first at the next dispatch (R369). -/
  turn     : Nat
  partials : List Reassembly
  kept     : List KeptAnswer
  /-- Receiving contexts, the one used last first. -/
  contexts : List E2eContext
  senders  : List E2eSender
  /-- Last FRESH accepted of group datagrams by source, and the last one sent (R374 rule 5). -/
  fresh    : List (Nat × Nat)
  freshTx  : Nat
  clock    : NetClock
  /-- The entries each stream sent last, as bytes (R383). -/
  lastSent : List (List Nat)
  /-- Handle and Immediate messages taken since the last service of the fault streams. -/
  faults   : List Posted
  /-- ERR of SPI_STATUS (R382). -/
  spiErr   : Bool
  /-- The answer on frame 0x3D that waits for its header (R381). -/
  lin      : Option (List Nat)
  /-- Ports that posted NODE_CONFLICT since CONFLICT was cleared. -/
  conflict : List Nat
  /-- Pacer count of the last LIN header seen (Table 19.9). -/
  linSeen  : Option Nat
  /-- The bytes the device sent in the last host SPI transaction (R382). -/
  spiOut   : List Nat
  /-- The PHY runs CSMA/CD for want of beacons (R386). -/
  fallback : Bool
  /-- The 10BASE-T1S frame answered last that carries no KLP datagram (Table 19.1). -/
  t1sReply : Option EthKind
  deriving DecidableEq, Repr

/-- The networks after a reset. [log 9: DESIGN CHOICE] -/
def Net.rest : Net :=
  ⟨[], Vector.replicate 4 ⟨[], none, []⟩, 0, [], [], [], List.replicate 8 ⟨0, 8⟩, [], 0, ⟨0, 0, 0, none, none, 0⟩,
    List.replicate 8 [], [], false, none, [], none, [], false, none⟩

/-! ### The Vault (R391 to R417) -/

/-- A key in slot RAM (R400): TYPE of Table 20.12 (0 empty), MAX_ROLE, USAGE (bit 0 SESSION, bit 1 GROUP), KEY_ID, the key bytes, and VOID. -/
structure KeySlot where
  type    : Nat
  maxRole : Nat
  usage   : Nat
  keyId   : Nat
  key     : List Nat
  void    : Bool
  deriving DecidableEq, Repr

/-- An empty slot. -/
def KeySlot.empty : KeySlot := ⟨0, 0, 0, 0, [], false⟩

/-- The Vault beside its objects. -/
structure Vault where
  /-- Slots 2 to 15, unwrapped. -/
  slots     : Vector KeySlot 14
  /-- Highest SEQ accepted by an import (R401), over every reset and erase. -/
  seq       : Nat
  /-- Who wrote the serial to `VLT_LIFECYCLE_CONFIRM`, and when (R397). -/
  confirm   : Option (Owner × Nat)
  /-- The erase marker in MRAM (R413). -/
  marker    : Bool
  /-- Farrier mode (R414). -/
  farrier   : Bool
  /-- UPDATE was entered by the boot ROM (R81). -/
  romUpdate : Bool
  /-- The update belongs to this requester, and VERIFY runs (R408). -/
  updater   : Option Owner
  deriving DecidableEq, Repr

/-- The Vault after a power-on reset. [log 9: DESIGN CHOICE] -/
def Vault.rest : Vault := ⟨Vector.replicate 14 KeySlot.empty, 0, none, false, false, false, none⟩
/-! ### The device -/

/-- The engines of one axis. -/
structure Engine where
  ce  : Ce
  sc  : Sc
  fe  : Fe
  st  : St
  prf : Prf
  deriving DecidableEq, Repr

/-- The engines of an axis that is disabled. [log 9: DESIGN CHOICE] -/
def Engine.rest : Engine := ⟨Ce.rest, Sc.rest, Fe.rest, St.rest, Prf.rest⟩


/-- Everything the spec gives the device, beside the Pacer count. -/
structure Device where
  /-- Values of the objects that are not TABLE or BLOB, by position, rising; an object that reads its default has no entry. -/
  objs   : List (ObjKey × Pattern)
  /-- Contents of TABLE objects (entries) and BLOB and STRING objects (bytes), by position, rising. -/
  tabs   : List (ObjKey × List Nat)
  girth  : Girth
  supply : Supply
  boot   : BootRecord
  otp    : Otp
  ledger : Ledger
  gda    : Gda
  edp    : Vector Edp 8
  cnv    : Cnv
  eng    : Vector Engine 8
  interp : Interp
  svc    : Vector Svc 8
  seat   : Seat
  /-- Milliseconds since each external temperature was written (R313). -/
  extAge : Vector Nat 8
  rein   : Vector Rein 8
  /-- The 18 thermal sensors of Table 16.1. -/
  thm    : Vector Therm 18
  tally  : Tally
  asy    : Asy
  server : Server
  net    : Net
  vault  : Vault
  /-- The model's own counter of free values. -/
  fresh  : Nat
  deriving DecidableEq, Repr

/-! ### What a reset leaves -/

/-- An end of the link after a reset: down, with the restart of R10 to come. [log 9: DESIGN CHOICE] -/
def GirthEnd.rest : GirthEnd := ⟨false, 0, 0, none, [], 0x5A, 0, []⟩

/-- Supplies and pace after a power-on reset: held in reset, Trot (R16), nothing measured. [log 9: DESIGN CHOICE] -/
def Supply.rest : Supply :=
  { phase := .held, xtalStable := false, xtalLost := false, delayLine := 0, pace := 1, paceTarget := none, paceKept := none
    deferred := 0, cpDone := false, chargeRetry := false, wakeArmed := 0, vbatAbsent := true
    transceivers := false, exitPending := false, trialRunning := false }

/-- A leg with both gates low and no latch (R77, R133). [log 9: DESIGN CHOICE] -/
def Leg.rest : Leg := ⟨false, false, false, false, false, false, false, false, false, false, false, []⟩

/-- The gate driver array in reset: every gate output low (R77). [log 9: DESIGN CHOICE] -/
def Gda.rest : Gda := ⟨Vector.replicate 24 Leg.rest, [], false, true, false, []⟩

/-- The Tally after a reset: ERRN is low until BOOT ends (R345). [log 8: DEDUCED, 9: DESIGN CHOICE] -/
def Tally.rest : Tally := ⟨[], [], [], [], false, false, true⟩

/-- The dictionary server after a reset. [log 9: DESIGN CHOICE] -/
def Server.rest : Server := ⟨[], [], [], [], ⟨0, 0, []⟩, false, [], []⟩

/-- A bank that holds nothing. [log 10: DESIGN CHOICE] -/
def FwBank.empty : FwBank := ⟨false, false, 0, 0, [], false, 0⟩

/-- The bank as the factory writes it. [log 10: DESIGN CHOICE] -/
def FwBank.shipped : FwBank := ⟨true, true, 0, Config.factoryVersion.toNat, [], true, Config.factoryLength⟩

/-- The boot record as the factory writes it: bank A. [log 10: DESIGN CHOICE] -/
def BootRecord.shipped : BootRecord := ⟨0, false, 0, FwBank.shipped, FwBank.empty⟩

/-- A check word over fifteen words of zero (R101), with its code bits. [log 10: DESIGN CHOICE] -/
def zeroCheck : Nat :=
  let c := crc16f (List.replicate 60 0)
  encodeWord (c + (0xFFFF - c) * 65536)

/-- Every fuse that is set when the device leaves the factory: the check words of banks 0 to 4 and 14, and their lock fuses. The data words read 0: the spec gives none. [log 10: DESIGN CHOICE] -/
def Otp.shippedFuses : List (Nat × Fuses) :=
  [(15, ⟨zeroCheck, 0⟩), (31, ⟨zeroCheck, 0⟩), (47, ⟨zeroCheck, 0⟩), (63, ⟨zeroCheck, 0⟩), (79, ⟨zeroCheck, 0⟩),
   (239, ⟨zeroCheck, 0⟩), (242, ⟨0x3000_03FF, 0⟩)]

/-- OTP before boot step 2 senses it. [log 10: DESIGN CHOICE] -/
def Otp.shipped : Otp := ⟨Otp.shippedFuses, [], 0, [], none⟩

/-- The calibration record as the factory writes and posts it (R114): ORIGIN 0, WRITE_COUNT 0. -/
def factoryCal : List Nat :=
  let channels := (List.range 56).flatMap fun j => leBytes 2 (Config.factoryGain j).toNat ++ leBytes 2 (Config.factoryOffset j).toNat
  let body := leBytes 2 1 ++ [0, 0] ++ leBytes 8 Config.serial.toNat ++ leBytes 4 0 ++ channels ++ leBytes 2 Config.factoryTemp.toNat
    ++ List.replicate 10 0
  body ++ leBytes 4 (crc32c body)

/-- The record that holds it: RECORD_ID 0x0008. -/
def factoryRecord : LedgerRecord := ⟨0x0008, 1, false, [⟨keyOf Ix.STO_CAL_RECORD 0, 0x14, factoryCal⟩]⟩

/-- The Ledger as the factory posts it: one entry with the calibration record, and no checkpoint. [log 10: DESIGN CHOICE] -/
def Ledger.shipped : Ledger :=
  let h : LedgerHead := ⟨1, 0, 1, 280⟩
  ⟨some h, some h, some h, ⟨[0x0008], [factoryRecord], [factoryRecord], [factoryRecord]⟩, ⟨[], [], [], []⟩, [], none⟩

/-- Everything a power-on reset sets, over what MRAM and OTP hold. [log 7: DESIGN CHOICE, 9: DESIGN CHOICE] -/
def Device.cold (boot : BootRecord) (otp : Otp) (ledger : Ledger) : Device :=
  { objs := [], tabs := [], girth := ⟨GirthEnd.rest, GirthEnd.rest, 0⟩, supply := Supply.rest, boot := boot, otp := otp, ledger := ledger
    gda := Gda.rest, edp := Vector.replicate 8 Edp.idle, cnv := Cnv.rest, eng := Vector.replicate 8 Engine.rest, interp := Interp.rest
    svc := Vector.replicate 8 Svc.rest, seat := Seat.rest, extAge := Vector.replicate 8 0, rein := Vector.replicate 8 Rein.rest
    thm := Vector.replicate 18 Therm.rest, tally := Tally.rest, asy := Asy.rest, server := Server.rest, net := Net.rest
    vault := Vault.rest, fresh := 0 }

/-- Why a step can stop with a fault. No meaning of this model ends in one: the block reports what goes wrong to the Tally and goes on. [log 74: DEDUCED] -/
inductive Fault where
  /-- Never raised: the spec stops the block on no command. Safe. -/
  | none
  deriving DecidableEq, Repr

/-- Why a command can be refused. [log 74: DEDUCED] -/
inductive Refusal where
  /-- Raised by the dispatch for a command without a meaning. Safe: nothing happens. -/
  | notModelled (mnemonic : String)
  deriving DecidableEq, Repr

/-- The state of the block. -/
structure State where
  /-- The commands that wait, first in, first out. -/
  pending : List Instr
  /-- The Pacer count (R19). -/
  pacer   : Count64
  /-- Everything else. -/
  dev     : Device
  deriving DecidableEq, Repr

/-- The machine right after a power-on reset as it leaves the factory: both dies held in reset, the Pacer count 0, no command waiting; POR is the cause, the Pacer runs on the internal oscillator, and ERRN is low. [log 7: DESIGN CHOICE, 8: DEDUCED] -/
def State.reset : State :=
  let d := Device.cold BootRecord.shipped Otp.shipped Ledger.shipped
  ⟨[], 0, { d with objs := [(Ix.SUP_RESET_CAUSE * 256, 1), (Ix.PAC_SOURCE_ACTIVE * 256, 1), (Ix.TLY_STATUS * 256, 0x10)] }⟩

end Sys2Proof.Machine
end

