-- ==== Sys2Proof/Machine/Ops.lean ====
section
/-! DEFINITION. The named operations over the device: reading and writing an object, counters, table objects, free values, posting a fault message, axis queries, and how a command's effect becomes a step's outcome. -/

namespace Sys2Proof.Machine

/-! ### Sorted cells -/

/-- The value listed under a key. -/
def cellGet {α : Type} : List (Nat × α) → Nat → Option α
  | [], _ => none
  | (j, v) :: rest, k => if j == k then some v else cellGet rest k

/-- The list with `k` set to `v`, keeping the keys rising. -/
def cellPut {α : Type} : List (Nat × α) → Nat → α → List (Nat × α)
  | [], k, v => [(k, v)]
  | (j, w) :: rest, k, v =>
    if k < j then (k, v) :: (j, w) :: rest
    else if j == k then (k, v) :: rest
    else (j, w) :: cellPut rest k v

/-- The list without `k`. -/
def cellDrop {α : Type} (cells : List (Nat × α)) (k : Nat) : List (Nat × α) := cells.filter fun c => c.1 != k

/-! ### Objects -/

/-- The pattern an object holds: the listed one, else its default. -/
def readCells (cells : List (ObjKey × Pattern)) (index sub : Nat) : Pattern :=
  match cellGet cells (keyOf index sub) with
  | some v => v
  | none => defaultAt index sub

/-- The cells with one object set; its default is not listed. -/
def writeCells (cells : List (ObjKey × Pattern)) (index sub : Nat) (v : Pattern) : List (ObjKey × Pattern) :=
  let p := v % 2 ^ widthAt index sub
  if p == defaultAt index sub then cellDrop cells (keyOf index sub) else cellPut cells (keyOf index sub) p

/-- Read an object's pattern. -/
def Device.rd (d : Device) (index : Nat) (sub : Nat := 0) : Pattern := readCells d.objs index sub

/-- Read an object as a signed number of `w` bits. -/
def Device.rdS (d : Device) (w index : Nat) (sub : Nat := 0) : Int := sgn w (d.rd index sub)

/-- Read an object of axis `n`. -/
def Device.rdA (d : Device) (index n : Nat) (sub : Nat := 0) : Pattern := d.rd (axIx index n) sub

/-- Read an object of axis `n` as a signed number of `w` bits. -/
def Device.rdAS (d : Device) (w index n : Nat) (sub : Nat := 0) : Int := sgn w (d.rdA index n sub)

/-- Set an object's pattern. -/
def Device.wr (d : Device) (index sub : Nat) (v : Pattern) : Device := { d with objs := writeCells d.objs index sub v }

/-- Set an object of axis `n`. -/
def Device.wrA (d : Device) (index n sub : Nat) (v : Pattern) : Device := d.wr (axIx index n) sub v

/-- Set an object to a number, as the pattern of its width. -/
def Device.wrI (d : Device) (index sub : Nat) (v : Int) : Device := d.wr index sub (pat (widthAt index sub) v)

/-- Set an object of axis `n` to a number. -/
def Device.wrAI (d : Device) (index n sub : Nat) (v : Int) : Device := d.wrI (axIx index n) sub v

/-- Add one to a counter object, saturating. -/
def Device.inc (d : Device) (index : Nat) (sub : Nat := 0) : Device :=
  d.wr index sub (satInc (widthAt index sub) (d.rd index sub))

/-- Add one to a counter object of axis `n`, saturating. -/
def Device.incA (d : Device) (index n : Nat) (sub : Nat := 0) : Device := d.inc (axIx index n) sub

/-- Set or clear one bit of a status object. -/
def Device.wrBit (d : Device) (index sub k : Nat) (b : Bool) : Device := d.wr index sub (withBit (d.rd index sub) k b)

/-- Set or clear one bit of a status object of axis `n`. -/
def Device.wrBitA (d : Device) (index n sub k : Nat) (b : Bool) : Device := d.wrBit (axIx index n) sub k b

/-- One bit of a status object. -/
def Device.bitOf (d : Device) (index k : Nat) (sub : Nat := 0) : Bool := bit (d.rd index sub) k

/-- One bit of a status object of axis `n`. -/
def Device.bitOfA (d : Device) (index n k : Nat) (sub : Nat := 0) : Bool := d.bitOf (axIx index n) k sub

/-! ### Table and byte-string objects -/

/-- `round(32,767 × sin(2π k / 4,096))` for the first quarter wave, by the Taylor series of R230's formula in integers scaled by 2^60. -/
def sineQuarter (k : Nat) : Nat :=
  -- x = 2π k / 4096 scaled by 2^60; π × 2^60 = 3622009729038561421.
  let one : Nat := 2 ^ 60
  let x := 2 * 3622009729038561421 * k / 4096
  let x2 := x * x / one
  let term := fun (t : Nat) (a b : Nat) => t * x2 / one / (a * b)
  let t3 := term x 2 3
  let t5 := term t3 4 5
  let t7 := term t5 6 7
  let t9 := term t7 8 9
  let t11 := term t9 10 11
  let t13 := term t11 12 13
  let t15 := term t13 14 15
  let t17 := term t15 16 17
  let t19 := term t17 18 19
  let s := x + t5 + t9 + t13 + t17 - (t3 + t7 + t11 + t15 + t19)
  (2 * 32767 * s + one) / (2 * one)

/-- Entry `k` of the sine table of R230, as a number. -/
def sineEntry (k : Nat) : Int :=
  let m := k % 4096
  if m ≤ 1024 then (sineQuarter m : Int)
  else if m ≤ 2048 then (sineQuarter (2048 - m) : Int)
  else if m ≤ 3072 then -(sineQuarter (m - 2048) : Int)
  else -(sineQuarter (4096 - m) : Int)

/-- A calibration record's CRC bytes follow its first 252 bytes. -/
def sealRecord (bytes : List Nat) : List Nat := bytes.take 252 ++ leBytes 4 (crc32c (bytes.take 252))

/-- The default record of R114; the rule gives no CAL_TEMP, and this one holds 0. [log 10: DESIGN CHOICE, 82: DESIGN CHOICE] -/
def defaultCal (serial : Nat) : List Nat :=
  let head := leBytes 2 1 ++ [2, 0] ++ leBytes 8 serial ++ leBytes 4 0
  let channels := (List.range 56).flatMap fun _ => leBytes 2 0x1000 ++ leBytes 2 0
  sealRecord (head ++ channels ++ List.replicate 12 0)

/-- The contents of a TABLE or BLOB where nothing has written it. -/
def tableDefault (index : Nat) : List Nat :=
  if index % 0x200 == Ix.AX_FE_SINE % 0x200 && 0x1000 ≤ index then (List.range 4096).map fun k => pat 16 (sineEntry k)
  else if index == Ix.VLT_MR then List.replicate 32 0
  else if index == Ix.VLT_DEV_CERT then Config.deviceCert
  else if index == Ix.STO_CAL_RECORD then defaultCal Config.serial.toNat
  else if index == Ix.DEV_PRODUCT then [0x54, 0x4C, 0x39, 0x36, 0x34, 0x38]
  else match tableSpec index with
    | some (_, n, v) => List.replicate n v
    | none => []

/-- The contents of a TABLE (entries) or of a BLOB or STRING (bytes). -/
def Device.tab (d : Device) (index : Nat) (sub : Nat := 0) : List Nat :=
  match cellGet d.tabs (keyOf index sub) with
  | some v => v
  | none => tableDefault index

/-- Replace the contents of a TABLE, BLOB or STRING. -/
def Device.setTab (d : Device) (index sub : Nat) (v : List Nat) : Device :=
  { d with tabs := cellPut d.tabs (keyOf index sub) v }

/-- Entry `i` of a TABLE as a signed number of `w` bits. -/
def Device.tabI (d : Device) (w index sub i : Nat) : Int := sgn w ((d.tab index sub).getD i 0)

/-! ### Free values -/

/-- Take the next free value (a value the spec leaves open), of `w` bits. [log 4: DESIGN CHOICE] -/
def Device.free (d : Device) (w : Nat) : Nat × Device :=
  ((Config.freeWord d.fresh).toNat % 2 ^ w, { d with fresh := d.fresh + 1 })

/-- The free value the next `free` would take, of `w` bits. [log 4: DESIGN CHOICE] -/
def Device.peekFree (d : Device) (w : Nat) : Nat := (Config.freeWord d.fresh).toNat % 2 ^ w

/-- Leave the present free value behind. [log 4: DESIGN CHOICE] -/
def Device.drawn (d : Device) : Device := { d with fresh := d.fresh + 1 }

/-! ### Fault messages (R331) -/

/-- A fault message from its fields (Table 17.1). -/
def message (source kind detail : Nat) : Message := (source % 256) * 2 ^ 24 + (kind % 256) * 2 ^ 16 + detail % 2 ^ 16

/-- The source byte of a subsystem code and instance (R4). -/
def srcByte (subsystem inst : Nat) : Nat := subsystem * 16 + inst % 16

/-- Send a message to the Tally (R331); FAULT_INTAKE takes it. -/
def Device.post (d : Device) (now source kind detail : Nat) : Device :=
  { d with tally := { d.tally with inbox := d.tally.inbox ++ [⟨now, message source kind detail, false⟩] } }

/-- Send a message only under a condition. -/
def Device.postIf (d : Device) (c : Bool) (now source kind detail : Nat) : Device :=
  if c then d.post now source kind detail else d

/-- `DEV_LAST_REJECT` records a rejection (R53): index, subindex, condition, status, session. -/
def Device.lastReject (d : Device) (index sub cond status session : Nat) : Device :=
  [index, sub, cond, status, session].zipIdx.foldl (fun e (v, i) => e.wr Ix.DEV_LAST_REJECT (i + 1) v) d

/-! ### Axes and device state -/

/-- `AXn_STATE`: 0 DISABLED, 1 ENABLED, 2 SAFE (R341). -/
def Device.axisState (d : Device) (n : Nat) : Nat := d.rdA Ix.AX_STATE n

/-- The axis is ENABLED. -/
def Device.enabled (d : Device) (n : Nat) : Bool := d.axisState n == 1

/-- The axis counts as enabled for every condition but `DEV_AXES_ENABLED` and `DEV_STATE`: ENABLED or SAFE (R341). -/
def Device.countsEnabled (d : Device) (n : Nat) : Bool := d.axisState n != 0

/-- The axes, 0 to 7. -/
def axes : List Nat := List.range 8

/-- Every axis is disabled, an axis in SAFE counting as enabled (R341, R51). -/
def Device.allDisabled (d : Device) : Bool := axes.all fun n => !d.countsEnabled n

/-- The mask of `DEV_AXES_ENABLED`. -/
def Device.enabledMask (d : Device) : Nat := maskOf (axes.filter d.enabled)

/-- The device states of R58. -/
def devBoot : Nat := 0
/-- READY. -/
def devReady : Nat := 1
/-- RUN. -/
def devRun : Nat := 2
/-- SAFE. -/
def devSafe : Nat := 3
/-- UPDATE. -/
def devUpdate : Nat := 4
/-- SERVICE. -/
def devService : Nat := 5

/-- `DEV_STATE`. -/
def Device.state (d : Device) : Nat := d.rd Ix.DEV_STATE

/-- The hitch TYPE of axis `n` (Table 7.1). -/
def Device.axisType (d : Device) (n : Nat) : Nat := d.rd (Ix.GDA_HITCH_AX + n) 1

/-- LEG_A to LEG_D of axis `n`, without the unused slots. -/
def Device.axisLegs (d : Device) (n : Nat) : List Nat :=
  ([2, 3, 4, 5].map fun s => d.rd (Ix.GDA_HITCH_AX + n) s).filter fun l => l < 24

/-- The owner of leg `l`, 0xFF for none. -/
def Device.legOwner (d : Device) (l : Nat) : Nat := d.rd Ix.GDA_LEG_OWNER (l + 1)

/-- The number of legs that a TYPE uses (Table 7.1). -/
def legsOfType (t : Nat) : Nat := if t == 1 then 3 else if t == 2 then 4 else if t == 3 then 2 else 0

/-- The amplifier gain of a gain code (Table 9.2): 5, 10, 20, 40. -/
def gainOfCode (c : Nat) : Nat := 5 * 2 ^ (c % 4)

/-! ### Legs -/

/-- Leg `l`. -/
def Device.leg (d : Device) (l : Nat) : Leg := d.gda.legs.toList.getD l ⟨false, false, false, false, false, false, false, false, false, false, false, []⟩

/-- Change leg `l`. -/
def Device.onLeg (d : Device) (l : Nat) (f : Leg → Leg) : Device :=
  if h : l < 24 then { d with gda := { d.gda with legs := d.gda.legs.set l (f (d.gda.legs[l])) } } else d

/-- Change each leg of a list. -/
def Device.onLegs (d : Device) (ls : List Nat) (f : Leg → Leg) : Device := ls.foldl (fun e l => e.onLeg l f) d

/-- The service of axis `n`. -/
def Device.svcOf (d : Device) (n : Nat) : Svc := d.svc.toList.getD n Svc.rest

/-- Change it. -/
def Device.onSvc (d : Device) (n : Nat) (f : Svc → Svc) : Device :=
  if h : n < 8 then { d with svc := d.svc.set n (f (d.svc[n])) } else d

/-! ### Staged sets -/

/-- The staged set of a block. -/
def Device.stagedOf (d : Device) (b : Block) : Option StagedSet := d.server.staged.find? fun s => s.block == b

/-- Discard the staged set of a block and release its ownership (R50 rule 1). [log 32: DEDUCED] -/
def Device.dropStaged (d : Device) (b : Block) : Device :=
  { d with server := { d.server with staged := d.server.staged.filter fun s => s.block != b } }

/-- The device with a staged set's values in place of the present ones (R50 rule 2). -/
def Device.merge (d : Device) (s : StagedSet) : Device :=
  let d1 := s.values.foldl (fun e (kv : ObjKey × Pattern) => e.wr (keyIndex kv.1) (keySub kv.1) kv.2) d
  s.tables.foldl (fun e (kv : ObjKey × List Nat) => e.setTab (keyIndex kv.1) (keySub kv.1) kv.2) d1

/-! ### Lists -/

/-- Insert before the first entry that is greater; equal entries keep their order. -/
def insertBy {α : Type} (le : α → α → Bool) (x : α) : List α → List α
  | [] => [x]
  | y :: ys => if le y x then y :: insertBy le x ys else x :: y :: ys

/-- A stable sort by insertion, which the kernel evaluates. -/
def sortBy {α : Type} (le : α → α → Bool) (xs : List α) : List α := xs.foldl (fun ys x => insertBy le x ys) []

/-- The list with entry `i` replaced. -/
def setAt {α : Type} (xs : List α) (i : Nat) (v : α) : List α := xs.set i v

/-- The first condition of a numbered list that fails, as its number from 1. -/
def firstFailing (conds : List Bool) : Option Nat :=
  match conds.findIdx? (fun b => !b) with
  | some i => some (i + 1)
  | none => none

end Sys2Proof.Machine
end

