-- ==== Sys2Proof/Machine/Effect.lean ====
section
/-! DEFINITION. How a command's effect becomes the outcome of a step: the effect on the device, then what the hardware keeps in agreement at every instant (the READY and RUN states of R58, ERRN and the Tally's status of R345). -/

namespace Sys2Proof.Machine

/-- Bits of `TLY_HEALTH` that hold ERRN low: every bit but LOG_FAIL (0) and STORE_ECC_CORR (2) (R345). -/
def Device.healthHolds (d : Device) : Bool := clearBits (d.rd Ix.TLY_HEALTH) [0, 2] != 0

/-- ERRN is releasable (R345); it is not before BOOT ends nor on VIO alone, where ERRN is driven low (R62, Table 4.3). [log 8: DEDUCED] -/
def Device.releasable (d : Device) : Bool :=
  d.state != devBoot && d.supply.phase != .service && !d.tally.errTiming && d.tally.entries.isEmpty && !d.bitOf Ix.TLY_STATUS 6 && !d.healthHolds

/-- ERRN is released as soon as it becomes releasable where AUTO_RELEASE is set (R345). [log 11: DEDUCED, 66: DEDUCED] -/
def Device.autoRelease (d : Device) : Device :=
  if d.releasable && bit (d.rd Ix.TLY_ERRN_CFG) 0 then
    { d with tally := { d.tally with errnLow := false } }
  else d

/-- `DEV_STATE` follows the enabled axes between READY and RUN (R58). [log 11: DEDUCED] -/
def Device.followAxes (d : Device) : Device :=
  if d.state == devReady || d.state == devRun then
    d.wr Ix.DEV_STATE 0 (if d.enabledMask == 0 then devReady else devRun)
  else d

/-- `TLY_STATUS` PENDING, ERRN_LOW and RELEASABLE, and `TLY_PENDING_COUNT`, as they stand (Table 17.12). [log 11: DEDUCED] -/
def Device.showTally (d : Device) : Device :=
  let st := withBit (withBit (withBit (d.rd Ix.TLY_STATUS) 2 (!d.tally.entries.isEmpty)) 4 d.tally.errnLow) 5 d.releasable
  (d.wr Ix.TLY_STATUS 0 st).wr Ix.TLY_PENDING_COUNT 0 d.tally.entries.length

/-- What holds at every instant, applied after a command's own effect. [log 11: DEDUCED] -/
def Device.settle (d : Device) : Device := d.followAxes.autoRelease.showTally

/-- A command's effect on the device; the queue and the Pacer count stay (R19 rule 1). `now` is the Pacer count. [log 74: DEDUCED] -/
def State.onDev (s : State) (f : Nat → Device → Device) : Host.Outcome State Fault Refusal :=
  .next { s with dev := (f s.pacer.toNat s.dev).settle }

/-- The device is out of reset and powered. [log 74: DEDUCED] -/
def Device.isRunning (d : Device) : Bool := d.supply.phase == .running

/-- An effect that only a running device has: in reset, in Sleep and in service mode nothing comes about. [log 74: DEDUCED] -/
def State.onRunning (s : State) (f : Nat → Device → Device) : Host.Outcome State Fault Refusal :=
  s.onDev fun now d => if d.isRunning then f now d else d

/-- The Rider runs: out of reset, or on VIO alone in Ledger service mode. -/
def Device.isPowered (d : Device) : Bool := d.isRunning || d.supply.phase == .service

/-- An effect that the Rider die has by itself: also in Ledger service mode. [log 74: DEDUCED] -/
def State.onPowered (s : State) (f : Nat → Device → Device) : Host.Outcome State Fault Refusal :=
  s.onDev fun now d => if d.isPowered then f now d else d

/-- An effect that may be a power-on reset, with which the Pacer count restarts at 0 (Table 5.3). -/
def State.onPower (s : State) (f : Nat → Device → Bool × Device) : Host.Outcome State Fault Refusal :=
  .next { s with
    pacer := if (f s.pacer.toNat s.dev).1 then 0 else s.pacer
    dev := (f s.pacer.toNat s.dev).2.settle }

/-- The state with one command fewer waiting. -/
def State.withRest (s : State) (rest : List Instr) : State := { s with pending := rest }

/-- One Pacer tick passes, 6.25 ns (R19): what the block does on an empty queue. [log 1: DESIGN CHOICE, 77: DESIGN CHOICE] -/
def State.tick (s : State) : State := { s with pacer := s.pacer + 1 }

end Sys2Proof.Machine
end

