-- ==== Sys2Proof/Machine/Girth.lean ====
section
/-! DEFINITION. The Girth link and the Pacer strobe (R6 to R11): frames, acknowledgement and resending, declaring the link down, and the restart. -/

namespace Sys2Proof.Machine

/-- One step of a CRC-16 with polynomial 0x1021, most significant bit first (R8). -/
def crc16Bits : Nat → Nat → Nat
  | 0, c => c
  | k + 1, c => crc16Bits k (if c.testBit 15 then (c * 2 % 65536) ^^^ 0x1021 else c * 2 % 65536)

/-- CRC-16 of R8 and R101: polynomial 0x1021, initial value 0xFFFF, no reflection, no final XOR. -/
def crc16 (bytes : List Nat) : Nat := bytes.foldl (fun c b => crc16Bits 8 (c ^^^ (b % 256 * 256))) 0xFFFF

/-- The bytes of a frame under an ALIVE value (Table 1.3). -/
def GirthFrame.bytes (f : GirthFrame) (alive : Nat) : List Nat :=
  let body := [f.type % 16 * 16 + f.chan % 16, alive % 256, f.payload.length] ++ f.payload
  body ++ beBytes 2 (crc16 body)

/-- A received frame: its fields, or none where its length or CRC is wrong. That a LEN above 32, or one that does not match the bytes received, counts as a CRC error is the model's choice: R9 rule 3 names no such case. [log 85: DESIGN CHOICE] -/
def parseFrame (bytes : List Nat) : Option (GirthFrame × Nat) :=
  match bytes with
  | b0 :: alive :: len :: rest =>
    if rest.length == len + 2 && len ≤ 32 && b0 < 256 && alive < 256
        && beNat (rest.drop len) == crc16 (b0 :: alive :: len :: rest.take len) then
      some (⟨b0 / 16, b0 % 16, rest.take len⟩, alive)
    else none
  | _ => none

/-- The frame types that need an ACK (R9 rule 2): REG_WRITE, REG_READ, READ_DATA, STATUS, MONITOR. -/
def needsAck (type : Nat) : Bool := 1 ≤ type && type ≤ 5

/-- The payload of a restart frame: an IDLE frame with LEN 1 and 0x5A or 0xA5 (R10 rule 1). -/
def GirthFrame.restartCode (f : GirthFrame) : Option Nat :=
  match f.type, f.payload with
  | 0, [p] => if p == 0x5A || p == 0xA5 then some p else none
  | _, _ => none

/-- An end of the link. -/
def Girth.at (g : Girth) : LinkSide → GirthEnd
  | .rider => g.rider
  | .saddle => g.saddle

/-- Change an end of the link. -/
def Device.onEnd (d : Device) (side : LinkSide) (f : GirthEnd → GirthEnd) : Device :=
  match side with
  | .rider => { d with girth := { d.girth with rider := f d.girth.rider } }
  | .saddle => { d with girth := { d.girth with saddle := f d.girth.saddle } }

/-- The other end. -/
def otherSide : LinkSide → LinkSide
  | .rider => .saddle
  | .saddle => .rider

/-- The direction of the traffic an end sends: 0 Rider→Saddle, 1 Saddle→Rider (Table 1.4). -/
def dirFrom : LinkSide → Nat
  | .rider => 0
  | .saddle => 1

/-- Put a frame on the wire under the next ALIVE value (R8). -/
def GirthEnd.send (e : GirthEnd) (f : GirthFrame) : GirthEnd :=
  { e with lastSent := f.bytes e.nextAlive, nextAlive := (e.nextAlive + 1) % 256 }

/-- Send the oldest waiting frame where none is in flight (R9 rule 2). -/
def GirthEnd.sendWaiting (e : GirthEnd) : GirthEnd :=
  match e.inFlight, e.waiting with
  | none, f :: rest => { (e.send f) with inFlight := some ⟨f, e.nextAlive, 0⟩, waiting := rest }
  | _, _ => e

/-- Give an end a frame of an acknowledged type to send (R9 rule 2). -/
def GirthEnd.give (e : GirthEnd) (f : GirthFrame) : GirthEnd :=
  let e1 := { e with waiting := e.waiting ++ [f] }
  if e1.up then e1.sendWaiting else e1

/-- Recompute UP of `GTH_STATUS`: both ends count the link up (Table 1.6). -/
def Device.showLink (d : Device) : Device :=
  d.wrBit Ix.GTH_STATUS 0 0 (d.girth.rider.up && d.girth.saddle.up)

/-- An end starts its restart: ALIVE at 0, restart frames with the given payload, no frame accepted yet (R10 rules 1 and 2). -/
def GirthEnd.goDown (e : GirthEnd) (code : Nat) : GirthEnd :=
  { e with up := false, nextAlive := 0, code := code, accepted := 0 }

/-- An end declares the link down under rule 4 (`code` 0x5A) or rule 5 (0xA5) of R9. The Rider end posts its own declaration; the Saddle's reaches it as a restart frame. [log 16: DEDUCED] -/
def Device.declareDown (d : Device) (now : Nat) (side : LinkSide) (code : Nat) : Device :=
  if (d.girth.at side).up then
    let d1 := (d.onEnd side fun e => e.goDown code).showLink
    match side with
    | .saddle => d1
    | .rider =>
      if code == 0x5A then (d1.wrBit Ix.GTH_STATUS 0 1 true).post now 0x30 0x42 0
      else (d1.wrBit Ix.GTH_STATUS 0 2 true).post now 0x30 0x04 1
  else d

/-- The frame in flight is sent again under a new ALIVE; after three failed resends the sender declares the link down (R9 rule 4). -/
def Device.girthResend (d : Device) (now : Nat) (side : LinkSide) : Device :=
  let e := d.girth.at side
  match e.inFlight with
  | none => d
  | some fl =>
    if !e.up then d
    else if fl.resends < 3 then
      (d.onEnd side fun e => { (e.send fl.frame) with inFlight := some ⟨fl.frame, e.nextAlive, fl.resends + 1⟩ }).inc Ix.GTH_RESENDS
    else d.declareDown now side 0x5A

/-- A NAK with the ALIVE of the last frame accepted (R9 rule 3). -/
def Device.girthNak (d : Device) (side : LinkSide) : Device :=
  d.onEnd side fun e => e.send ⟨7, 0, [e.rxAlive]⟩

/-- LAST_ALIVE_RX of `GTH_STATUS`: the ALIVE of the last frame the Rider accepted, a restart frame too (Table 1.6). -/
def Device.showAlive (d : Device) (side : LinkSide) (alive : Nat) : Device :=
  if side = .rider then d.wr Ix.GTH_STATUS 0 (d.rd Ix.GTH_STATUS % 256 + alive * 256) else d

/-- Both ends have accepted 32 restart frames: the link is up, and what was unacknowledged is sent again in its order, which `GTH_RESENDS` counts (R10 rule 4, Table 1.5). [log 16: DEDUCED] -/
def Device.girthComeUp (d : Device) : Device :=
  if d.girth.rider.accepted ≥ 32 && d.girth.saddle.accepted ≥ 32 && !d.girth.rider.up && !d.girth.saddle.up then
    let resume := fun (e : GirthEnd) =>
      match e.inFlight with
      | some fl => { ({ e with up := true }.send fl.frame) with inFlight := some ⟨fl.frame, e.nextAlive, 0⟩ }
      | none => { e with up := true }.sendWaiting
    let again := fun (e : GirthEnd) (x : Device) => if e.inFlight.isSome then x.inc Ix.GTH_RESENDS else x
    let d1 := again d.girth.saddle (again d.girth.rider ((d.onEnd .rider resume).onEnd .saddle resume))
    let st := withBit (withBit (withBit (d1.rd Ix.GTH_STATUS) 0 true) 1 false) 2 false
    (d1.wr Ix.GTH_STATUS 0 st).inc Ix.GTH_RESTARTS
  else d

/-- A valid restart frame at an end: the other end's declaration where this end counts the link up, else one of the 32 frames of the restart (R10 rules 2 to 4). R10 gives a payload for the frames of the declaring end only: that the other end repeats the payload it received is the model's choice. [log 16: DEDUCED, 85: DESIGN CHOICE] -/
def Device.girthRestartRx (d : Device) (now : Nat) (side : LinkSide) (code alive : Nat) : Device :=
  let e := d.girth.at side
  if e.up then
    let d1 := ((d.onEnd side fun e => { (e.goDown code) with rxAlive := alive, accepted := if alive == 0 then 1 else 0 }).showLink).showAlive side alive
    match side with
    | .saddle => d1
    | .rider => if code == 0x5A then d1.post now 0x30 0x42 1 else d1.post now 0x30 0x04 0
  else if alive == 0 then ((d.onEnd side fun e => { e with rxAlive := 0, accepted := 1 }).showAlive side 0).girthComeUp
  else if e.accepted != 0 && alive == (e.rxAlive + 1) % 256 then
    ((d.onEnd side fun e => { e with rxAlive := alive, accepted := e.accepted + 1 }).showAlive side alive).girthComeUp
  else d

/-- What an accepted frame does at the end that took it: ACK and NAK close or resend the frame in flight, a REG_READ is answered, the other acknowledged types are acknowledged. The contents of Saddle registers are a free value: the spec gives no register map. [log 13: DESIGN CHOICE] -/
def Device.girthAccepted (d : Device) (now : Nat) (side : LinkSide) (f : GirthFrame) (alive : Nat) : Device :=
  let d1 := (d.onEnd side fun e => { e with rxAlive := alive }).showAlive side alive
  if needsAck f.type then
    let d2 := d1.onEnd side fun e => e.send ⟨6, 0, [alive]⟩
    if f.type == 2 then
      let data := leBytes 4 (d2.peekFree 32)
      d2.drawn.onEnd side fun e => e.give ⟨3, f.chan, data⟩
    else d2
  else if f.type == 6 then
    match (d1.girth.at side).inFlight with
    | some fl => if f.payload == [fl.alive] then d1.onEnd side fun e => { e with inFlight := none }.sendWaiting else d1
    | none => d1
  else if f.type == 7 then d1.girthResend now side
  else d1

/-- A frame received whole at an end (R9 rule 3; R10 rules 2 and 3). [log 13: DESIGN CHOICE, 16: DEDUCED] -/
def Device.girthFrame (d : Device) (now : Nat) (side : LinkSide) (bytes : List Nat) : Device :=
  let e := d.girth.at side
  let dir := dirFrom (otherSide side)
  match parseFrame bytes with
  | none =>
    -- Sub-index 1 counts the frames that the Saddle answers with a NAK, 2 those that the Rider discards (Table 1.5).
    let d1 := if side = .rider then d.inc Ix.GTH_CRC_ERR_TX 2 else if e.up then d.inc Ix.GTH_CRC_ERR_TX 1 else d
    let d2 := d1.post now 0x30 0x40 dir
    if e.up then d2.girthNak side else d2
  | some (f, alive) =>
    match f.restartCode with
    | some code => d.girthRestartRx now side code alive
    | none =>
      if !e.up then d
      else if alive != (e.rxAlive + 1) % 256 then (d.girthNak side).post now 0x30 0x41 dir
      else if f.type ≥ 8 then
        -- "direction and TYPE": the spec gives no layout of this detail; a free value.
        (d.girthNak side).drawn.post now 0x30 0x43 (d.peekFree 16)
      else d.girthAccepted now side f alive

/-- GIRTH_FRAME_RX (R9). -/
def execGirthFrameRx (side : LinkSide) (bytes : List Octet) (s : State) : Host.Outcome State Fault Refusal :=
  s.onRunning fun now d => d.girthFrame now side bytes

/-- GIRTH_IDLE_TIMER (R9 rule 1): an IDLE frame without payload. -/
def execGirthIdleTimer (side : LinkSide) (s : State) : Host.Outcome State Fault Refusal :=
  s.onRunning fun _ d => if (d.girth.at side).up then d.onEnd side fun e => e.send ⟨0, 0, []⟩ else d

/-- GIRTH_ACK_TIMEOUT (R9 rule 4). [log 2: DESIGN CHOICE] -/
def execGirthAckTimeout (side : LinkSide) (s : State) : Host.Outcome State Fault Refusal :=
  s.onRunning fun now d => d.girthResend now side

/-- GIRTH_RX_SILENCE (R9 rule 5). -/
def execGirthRxSilence (side : LinkSide) (s : State) : Host.Outcome State Fault Refusal :=
  s.onRunning fun now d => d.declareDown now side 0xA5

/-- GIRTH_RESTART_TIMER (R10 rules 1 and 2): one restart frame. -/
def execGirthRestartTimer (side : LinkSide) (s : State) : Host.Outcome State Fault Refusal :=
  s.onRunning fun _ d => if (d.girth.at side).up then d else d.onEnd side fun e => e.send ⟨0, 0, [e.code]⟩

/-- GIRTH_RESTART_FRAME_RX (R10): a frame that is no valid restart frame is discarded. -/
def execGirthRestartFrameRx (side : LinkSide) (bytes : List Octet) (s : State) : Host.Outcome State Fault Refusal :=
  s.onRunning fun now d =>
    match parseFrame bytes with
    | some (f, alive) =>
      match f.restartCode with
      | some code => d.girthRestartRx now side code alive
      | none => d
    | none => d

/-- Saddle configuration travels in a REG_WRITE frame (R6). The register map is not in the spec: CHAN and payload are free values. [log 13: DESIGN CHOICE] -/
def Device.sendRegWrite (d : Device) : Device :=
  let w := d.peekFree 36
  d.drawn.onEnd .rider fun e => e.give ⟨1, w % 16, leBytes 4 (w / 16)⟩

end Sys2Proof.Machine
end

