-- ==== Sys2Proof/Machine/Legs.lean ====
section
/-! DEFINITION. Legs, the hitch map and the gate driver array (R118 to R136): the guard, the monitors, the Hobble latch and its trip sources, clearing, and the hitch commit. -/

namespace Sys2Proof.Machine

/-! ### Trip states -/

/-- Both gates go off and stay off; waiting turn-ons are cancelled (R131 OFF, R132 rule 2). -/
def Leg.allOff (g : Leg) : Leg :=
  { g with high := false, low := false, waitHigh := false, waitLow := false, waitTrip := false }

/-- The leg goes to its trip state (R131): OFF, or LOW, where a low side already on stays on and one that is off waits for the guard. `idle` legs stay with both gates low. -/
def Leg.toTrip (g : Leg) (low idle allOff : Bool) : Leg :=
  if idle || allOff || g.forceOff || !low then { g with latched := true }.allOff
  else if g.low then { g with latched := true, high := false, waitHigh := false, waitLow := false }
  else { g with latched := true, high := false, waitHigh := false, waitLow := false, waitTrip := true }

/-- The legs that the monitor scope of leg `l` names (Table 7.3): code 0 this leg, 1 the legs of its axis, 2 every assigned leg. The leg itself is always among them. -/
def Device.scopeLegs (d : Device) (l scope : Nat) : List Nat :=
  let named := (List.range 24).filter fun k =>
    k == l || (scope == 1 && d.legOwner l < 8 && d.legOwner k == d.legOwner l) || (scope == 2 && d.legOwner k < 8)
  named

/-- SCOPE of the drain-source monitors of leg `l`. -/
def Device.dsScope (d : Device) (l : Nat) : Nat := field (d.rd Ix.GDA_DS_CFG (l + 1)) 15 14

/-- SCOPE of the overcurrent comparator of leg `l`. -/
def Device.ocScope (d : Device) (l : Nat) : Nat := field (d.rd Ix.GDA_OC_CFG (l + 1)) 15 14

/-- The legs of a mask object. -/
def Device.maskLegs (d : Device) (index : Nat) : List Nat := maskList 24 (d.rd index)

/-- The legs that trip source `src`, acting at leg `l` for sources 2, 3, 4 and 7, latches (Table 7.5). -/
def Device.tripLegs (d : Device) (src l : Nat) : List Nat :=
  match src with
  | 0 => d.maskLegs Ix.GDA_TRIPA_MASK
  | 1 => d.maskLegs Ix.GDA_TRIPB_MASK
  | 2 | 3 | 7 => d.scopeLegs l (d.dsScope l)
  | 4 => d.scopeLegs l (d.ocScope l)
  | _ => List.range 24

/-- One leg's latch bit sets (R131): its count rises if the bit was clear, and the leg goes to its trip state. -/
def Device.latchLeg (d : Device) (force : Bool) (l : Nat) : Device :=
  let was := (d.leg l).latched
  let d1 := if was then d else (d.inc Ix.GDA_TRIP_COUNT (l + 1)).wrBit Ix.GDA_TRIP_LATCH 0 l true
  let low := d1.rd Ix.GDA_TRIP_STATE (l + 1) == 1
  let idle := 8 ≤ d1.legOwner l
  d1.onLeg l fun g =>
    let g1 := { g with forceOff := g.forceOff || force }
    if was && !force then g1 else g1.toTrip low idle d1.gda.allOff

/-- `GDA_TRIP_FIRST` takes the source that set the first latch bit since all bits were last clear (Table 7.10). [log 17: DEDUCED] -/
def Device.tripFirst (d : Device) (now src l : Nat) : Device :=
  if d.rd Ix.GDA_TRIP_LATCH == 0 then
    let leg := if src == 2 || src == 3 || src == 4 || src == 7 then l else 0xFF
    ((d.wr Ix.GDA_TRIP_FIRST 1 src).wr Ix.GDA_TRIP_FIRST 2 leg).wr Ix.GDA_TRIP_FIRST 3 now
  else d

/-- A trip source becomes active (R133): it is remembered until it is qualified inactive. [log 17: DEDUCED] -/
def Device.sourceOn (d : Device) (src l : Nat) : Device :=
  if src == 2 || src == 3 || src == 4 || src == 7 then
    d.onLeg l fun g => { g with active := if g.active.contains src then g.active else g.active ++ [src] }
  else { d with gda := { d.gda with active := if d.gda.active.contains src then d.gda.active else d.gda.active ++ [src] } }

/-- The latch bits that a trip source sets (Table 7.5); where its mask names no leg, none is, and `GDA_TRIP_FIRST` stays. A gate fault always takes its legs to OFF. -/
def Device.tripLatch (d : Device) (now src l : Nat) : Device :=
  match d.tripLegs src l with
  | [] => d
  | legs => legs.foldl (fun e k => e.latchLeg (src == 7) k) (d.tripFirst now src l)

/-- A trip source acts: it is active, and the legs of Table 7.5 latch. -/
def Device.trip (d : Device) (now src l : Nat) : Device := (d.tripLatch now src l).sourceOn src l

/-- A trip source of Table 7.5 acts and posts its fault; while the device is held in reset it is remembered for boot step 5, once for each source and leg (R130). [log 17: DEDUCED] -/
def Device.tripOrKeep (d : Device) (now : Nat) (e : EarlyTrip) : Device :=
  match d.supply.phase with
  | .running => (d.trip now e.src e.leg).post now e.source e.kind e.detail
  | .held =>
    let d1 := d.sourceOn e.src e.leg
    if d1.gda.early.any fun x => x.src == e.src && x.leg == e.leg then d1
    else { d1 with gda := { d1.gda with early := d1.gda.early ++ [e] } }
  | _ => d

/-- The Hobble command wire is high: the device safe state drives it, or `GDA_HOBBLE_CMD` reads 1 (R130). -/
def Device.hobbleWire (d : Device) : Bool := d.gda.hobbleSafe || d.rd Ix.GDA_HOBBLE_CMD == 1

/-- The Hobble command wire goes high: source 5 latches all 24 legs and posts TRIP_COMMAND (Tables 7.5 and 7.9). -/
def Device.hobbleRise (d : Device) (now : Nat) (was : Bool) : Device :=
  if d.hobbleWire && !was then (d.trip now 5 0).post now 0x47 0x43 0 else d

/-- Every gate goes off and stays off, whatever the trip or safe state: VGD undervoltage, power loss (R131, R90). -/
def Device.gatesOff (d : Device) : Device :=
  let d1 := d.onLegs (List.range 24) Leg.allOff
  { d1 with gda := { d1.gda with allOff := true } }

/-! ### Gate commands and the guard -/

/-- A gate command wire changes (R126, R127). `clear`: the opposite gate has been sensed off for at least tGUARD. [log 18: DEDUCED] -/
def Device.gateCommand (d : Device) (l : Nat) (high on clear : Bool) : Device :=
  let g := d.leg l
  let d1 := d.onLeg l fun g => if high then { g with cmdHigh := on } else { g with cmdLow := on }
  if g.latched || d.gda.allOff || 8 ≤ d.legOwner l then d1
  else if on then
    if high && d.bitOf Ix.GDA_BST_UV l then d1
    else if high && g.high || !high && g.low then d1
    else
      let free := clear && !(if high then g.low else g.high)
      if free then d1.onLeg l fun g => if high then { g with high := true } else { g with low := true }
      else (d1.onLeg l fun g => if high then { g with waitHigh := true } else { g with waitLow := true }).inc Ix.GDA_GUARD_COUNT (l + 1)
  else
    let waiting := if high then g.waitHigh else g.waitLow
    let d2 := d1.onLeg l fun g => if high then { g with high := false, waitHigh := false } else { g with low := false, waitLow := false }
    if waiting then d2.inc Ix.GDA_GUARD_COUNT (l + 1) else d2

/-- Every gate command wire of a leg is low, so both gates turn off unless the latch holds the leg in LOW. -/
def Leg.wiresLow (g : Leg) : Leg :=
  let g1 := { g with cmdHigh := false, cmdLow := false, waitHigh := false, waitLow := false }
  if g.latched then g1 else { g1 with high := false, low := false }

/-- Every gate command wire of leg `l` goes low; a turn-on that waits for the guard is a pulse not made (R127 rules 2 and 3). [log 18: DEDUCED] -/
def Device.wireDown (d : Device) (l : Nat) : Device :=
  let g := d.leg l
  let lost := (if g.waitHigh then 1 else 0) + (if g.waitLow then 1 else 0)
  (List.range lost).foldl (fun e _ => e.inc Ix.GDA_GUARD_COUNT (l + 1)) (d.onLeg l Leg.wiresLow)

/-- GUARD_DELAY_END (R127 rule 1): a waiting turn-on is made. [log 18: DEDUCED] -/
def execGuardDelayEnd (leg : Fin 24) (high : Bool) (s : State) : Host.Outcome State Fault Refusal :=
  s.onRunning fun _ d =>
    let g := d.leg leg
    if g.latched || d.gda.allOff then d
    else if high then
      if g.waitHigh && !g.low then d.onLeg leg fun g => { g with high := true, waitHigh := false } else d
    else if g.waitLow && !g.high then d.onLeg leg fun g => { g with low := true, waitLow := false } else d

/-- TRIP_LOW_TURN_ON (R131): in trip state LOW the low side turns on once both gates have been sensed off for tGUARD. -/
def execTripLowTurnOn (leg : Fin 24) (s : State) : Host.Outcome State Fault Refusal :=
  s.onRunning fun _ d =>
    let g := d.leg leg
    if g.latched && g.waitTrip && !g.forceOff && !d.gda.allOff && !g.high then
      d.onLeg leg fun g => { g with low := true, waitTrip := false }
    else d

/-! ### Monitors and trip sources -/

/-- VDS_ACTION (R128): the gate is sensed on, also one that is turning off or stuck on, and beyond tBLANK the voltage crosses the threshold; a monitor sees it only while it is on. `seen.acts`: for the whole filter time, so that it acts; before that its source is active and no more (R133). [log 3: DESIGN CHOICE, 17: DEDUCED] -/
def execVdsAction (seen : LegSeen) (high : Bool) (s : State) : Host.Outcome State Fault Refusal :=
  s.onRunning fun now d =>
    let src := if high then 2 else 3
    if !(d.leg seen.leg).monitors then d
    else if seen.acts then (d.trip now src seen.leg).post now (srcByte 4 (seen.leg / 4)) (if high then 0x40 else 0x41) seen.leg
    else d.sourceOn src seen.leg

/-- OVERCURRENT (R129): the current is beyond the threshold; the comparator works whether or not the axis is enabled, while it is on. `seen.acts`: for the whole filter time; before that its source is active and no more (R133). [log 3: DESIGN CHOICE, 17: DEDUCED] -/
def execOvercurrent (seen : LegSeen) (s : State) : Host.Outcome State Fault Refusal :=
  s.onRunning fun now d =>
    if !(d.leg seen.leg).monitors then d
    else if seen.acts then (d.trip now 4 seen.leg).post now (srcByte 4 (seen.leg / 4)) 0x07 seen.leg
    else d.sourceOn 4 seen.leg

/-- GATE_FAULT (R123): `toOff` is bit 9 of the detail, 1 where the gate failed to turn off. While the device is held in reset the fault is remembered for boot step 5. -/
def execGateFault (leg : Fin 24) (high toOff : Bool) (s : State) : Host.Outcome State Fault Refusal :=
  s.onDev fun now d => d.tripOrKeep now ⟨7, leg, srcByte 4 (leg / 4), 0x45, leg + bitIf (!high) 8 + bitIf toOff 9⟩

/-- TRIP_PIN (R130): a low pulse of `widthNs` on TRIPA or TRIPB. From 5 ns to under 10 ns a free value decides. While the device is held in reset the source is remembered for boot step 5. [log 3: DESIGN CHOICE, 14: DESIGN CHOICE] -/
def execTripPin (pinB : Bool) (widthNs : Nat) (s : State) : Host.Outcome State Fault Refusal :=
  s.onDev fun now d =>
    let open_ := 5 ≤ widthNs && widthNs < 10
    let acts := 10 ≤ widthNs || (open_ && d.peekFree 1 == 1)
    let d0 := if open_ then d.drawn else d
    let src := if pinB then 1 else 0
    if acts then d0.tripOrKeep now ⟨src, 0, 0x47, 0x42, src⟩ else d0

/-- BST_UV (R124): each onset on a leg that is not idle holds its high side off and is posted; on a joining leg this monitor acts from the hitch commit on, for R121 names R128 and R129 only. [log 83: DESIGN CHOICE] -/
def execBstUv (leg : Fin 24) (s : State) : Host.Outcome State Fault Refusal :=
  s.onRunning fun now d =>
    if d.legOwner leg < 8 && !d.bitOf Ix.GDA_BST_UV leg then
      ((d.wrBit Ix.GDA_BST_UV 0 leg true).onLeg leg fun g => { g with high := false, waitHigh := false }).post now (srcByte 4 (leg / 4)) 0x44 leg
    else d

/-- BST_UV_RELEASE (R124): a high side whose command wire is still high stays off until the next turn-on edge. [log 83: DESIGN CHOICE] -/
def execBstUvRelease (leg : Fin 24) (s : State) : Host.Outcome State Fault Refusal :=
  s.onRunning fun _ d => d.wrBit Ix.GDA_BST_UV 0 leg false

/-- VGD_LOW (R125): posted once per episode, with VGD in 10 mV units, while VBAT is at or above 5.5 V. -/
def execVgdLow (vgdMv vbatMv : Nat) (s : State) : Host.Outcome State Fault Refusal :=
  s.onRunning fun now d0 =>
    let d := (d0.wr Ix.SUP_VGD 0 vgdMv).wr Ix.SUP_VBAT 0 vbatMv
    if vbatMv ≥ 5500 && vgdMv < 9000 && !d.gda.vgdLow then
      { d with gda := { d.gda with vgdLow := true } }.post now 0x46 0x47 (vgdMv / 10)
    else d

/-- VGD_LOW_EPISODE_END (R125). -/
def execVgdLowEpisodeEnd (vgdMv : Nat) (s : State) : Host.Outcome State Fault Refusal :=
  s.onRunning fun _ d0 =>
    let d := d0.wr Ix.SUP_VGD 0 vgdMv
    if vgdMv ≥ 9000 then { d with gda := { d.gda with vgdLow := false } } else d

/-- MONITORS_ON (R121): the monitors and comparators of every joining leg come on together. -/
def execMonitorsOn (s : State) : Host.Outcome State Fault Refusal :=
  s.onRunning fun _ d => d.onLegs (List.range 24) fun g => if g.monitorsDue then { g with monitors := true, monitorsDue := false } else g

/-- TRIP_QUAL_END (R133): a source has been inactive for its tQUAL. The Rider command is active while its wire is high. [log 17: DEDUCED] -/
def execTripQualEnd (source : Nat) (leg : Fin 24) (s : State) : Host.Outcome State Fault Refusal :=
  s.onDev fun _ d =>
    if !d.isRunning && d.supply.phase != .held then d
    else if source == 2 || source == 3 || source == 4 || source == 7 then
      d.onLeg leg fun g => { g with active := g.active.filter (· != source) }
    else if source == 5 && d.hobbleWire then d
    else { d with gda := { d.gda with active := d.gda.active.filter (· != source) } }

/-- The legs with a routed source that is active or unqualified (R133; `GDA_TRIP_ACTIVE`). -/
def Device.tripActive (d : Device) : Nat :=
  let shared := d.gda.active.flatMap fun src => d.tripLegs src 0
  let own := (List.range 24).flatMap fun l => (d.leg l).active.flatMap fun src => d.tripLegs src l
  maskOf (shared ++ own)

/-- What a write of a leg mask to `GDA_TRIP_CLEAR` is answered (R133 rules 1 to 3): a status of Table 3.5. -/
def Device.tripClearStatus (d : Device) (mask : Nat) : Nat :=
  if 2 ^ 24 ≤ mask then 0x04
  else if (maskList 24 mask).any fun l => d.legOwner l < 8 && d.countsEnabled (d.legOwner l) then 0x07
  else if mask &&& d.tripActive != 0 then 0x10
  else 0

/-- Every masked latch bit is cleared; the legs then follow their gate command wires (R133 rule 4). [log 17: DEDUCED] -/
def Device.tripClear (d : Device) (mask : Nat) : Device :=
  (maskList 24 mask).foldl (fun e l =>
    (e.onLeg l fun g => { g with latched := false, forceOff := false, waitTrip := false, high := g.cmdHigh, low := g.cmdLow }).wrBit Ix.GDA_TRIP_LATCH 0 l false) d

/-! ### The hitch commit -/

/-- Whether an entry of axis `n` has the legs its TYPE requires, each below 24, the other slots 0xFF (R120 condition 3). -/
def Device.entryFilled (m : Device) (n : Nat) : Bool :=
  let t := m.rd (Ix.GDA_HITCH_AX + n) 1
  (List.range 4).all fun i =>
    let v := m.rd (Ix.GDA_HITCH_AX + n) (i + 2)
    if i < legsOfType t then v < 24 else v == 0xFF

/-- The axis whose entry names leg `l`, 0xFF for none. -/
def Device.hitchOwner (m : Device) (l : Nat) : Nat :=
  match axes.find? fun n => m.axisType n != 0 && (m.axisLegs n).contains l with
  | some n => n
  | none => 0xFF

/-- Axis `n` has the same entry in both devices. -/
def sameEntry (d m : Device) (n : Nat) : Bool :=
  [1, 2, 3, 4, 5].all fun s => d.rd (Ix.GDA_HITCH_AX + n) s == m.rd (Ix.GDA_HITCH_AX + n) s

/-- The conditions of R120, in order, over the present device and the merged map. -/
def hitchConds (d m : Device) : List Bool :=
  [ axes.all fun n => sameEntry d m n || !d.countsEnabled n,
    axes.all fun n => m.axisType n ≤ 3,
    axes.all fun n => m.entryFilled n,
    (axes.flatMap fun n => m.axisLegs n).Nodup,
    (List.range 24).all fun l => d.legOwner l == m.hitchOwner l || !(d.leg l).latched,
    axes.all fun n => match m.axisLegs n with
      | [] => true
      | l0 :: rest => rest.all fun l => m.rd Ix.CNV_CS_GAIN (l + 1) == m.rd Ix.CNV_CS_GAIN (l0 + 1),
    axes.all fun n => m.axisType n == 2 || m.rdA Ix.AX_SAFE_STATE n != 2 ]

/-- What a committed hitch map does to leg `l` (R121): a joining leg starts with both gates low, its latch clear and its monitors due; a leaving leg becomes idle. -/
def Device.rehitchLeg (d : Device) (l : Nat) : Device :=
  let new := d.hitchOwner l
  if d.legOwner l == new then d
  else
    let d1 := (d.wr Ix.GDA_LEG_OWNER (l + 1) new).wrBit Ix.GDA_BST_UV 0 l false
    d1.onLeg l fun g =>
      { g.allOff with
        cmdHigh := false, cmdLow := false, latched := false, forceOff := false, monitors := false,
        monitorsDue := decide (new < 8) }

/-- The hitch map applies (R121). -/
def Device.applyHitch (m : Device) : Device := (List.range 24).foldl (fun e l => e.rehitchLeg l) m

end Sys2Proof.Machine
end

