-- ==== Sys2Proof/Machine/EdgeTreat.lean ====
section
/-! DEFINITION. The treatment of an edge set (R141, R146 to R150): the carry, the limits, the minimum intervals and the bootstrap refresh, for one leg and for a whole set. -/

namespace Sys2Proof.Machine

/-- `code` × 10 ns in fine steps, rounded up (51.2 fine steps each). -/
def tenNs (code : Nat) : Nat := (code * 512 + 9) / 10

/-- `a / b` rounded up. -/
def ceilDiv (a b : Nat) : Nat := (a + b - 1) / b

/-- The settings one leg is treated with. -/
structure SlotCfg where
  /-- tMIN in fine steps (R146). -/
  tMin   : Nat
  policy : Nat
  /-- tREF in fine steps (R150). -/
  tRef   : Nat
  nRef   : Nat
  /-- g_REF in fine steps. -/
  gRef   : Nat

/-- RISE and FALL of an output. -/
structure Pulse where
  rise : Nat
  fall : Nat

/-- An edge of an output within the period: offset in carrier units and the level it sets. -/
structure OutEdge where
  off : Int
  on  : Bool

/-- A pulse with its compares limited to `len` (R141 step 2). -/
def Pulse.limit (p : Pulse) (len : Nat) : Pulse := ⟨min len p.rise, min len p.fall⟩

/-- What the carry and then the limit do to a high-side pulse (R141 steps 1 and 2, R148 rule 2): the new pulse, and the applied shift in units, which is the change of on-time made. A compare above P takes the shift before it is limited. [log 38: DEDUCED] -/
def carryHigh (p : Pulse) (len : Nat) (shift : Int) : Pulse × Int :=
  let rise := min len p.rise
  let was := min len p.fall
  if rise ≤ p.fall then
    let f := clampI rise len (p.fall + shift)
    (⟨rise, f.toNat⟩, f - was)
  else if shift ≥ 0 then
    if (p.fall : Int) + shift ≥ rise then (⟨0, len⟩, (rise : Int) - p.fall)
    else (⟨rise, ((p.fall : Int) + shift).toNat⟩, shift)
  else
    let f := max 0 ((p.fall : Int) + shift)
    (⟨rise, f.toNat⟩, f - p.fall)

/-- What the applied shift and then the limit do to the low side (R148 rule 3): its RISE at or after the original high-side FALL moves with it. [log 38: DEDUCED] -/
def carryLow (p : Pulse) (len : Nat) (highFall : Nat) (applied : Int) : Pulse :=
  let fall := min len p.fall
  if p.rise == p.fall || p.rise < highFall then p.limit len
  else if p.rise ≤ p.fall then ⟨(clampI 0 fall (p.rise + applied)).toNat, fall⟩
  else if applied ≥ 0 then ⟨(min (len : Int) (p.rise + applied)).toNat, fall⟩
  else if (p.rise : Int) + applied ≤ fall then ⟨0, len⟩
  else ⟨(min (len : Int) (p.rise + applied)).toNat, fall⟩

/-- The on-pieces of a pulse within 0 to `len` (R139). -/
def Pulse.pieces (p : Pulse) (len : Nat) : List (Int × Int) :=
  let raw : List (Int × Int) := if p.rise ≤ p.fall then [(p.rise, p.fall)] else [(0, p.fall), (p.rise, len)]
  raw.filter fun (a, b) => a < b

/-- The edges of on-pieces, from the level the previous period left (R139). An edge at the end of the period is none: it shows as an edge at offset 0 of the next. [log 38: DEDUCED] -/
def edgesOf (pieces : List (Int × Int)) (len : Nat) (level : Bool) : List OutEdge :=
  let inner := pieces.flatMap fun (a, b) =>
    (if a == 0 then [] else [OutEdge.mk a true]) ++ (if b == len then [] else [⟨b, false⟩])
  let first := pieces.any fun (a, _) => a == 0
  if first == level then inner else ⟨0, first⟩ :: inner

/-- The on-pieces between edges, from the level at the start. -/
def piecesOf : List OutEdge → Nat → Bool → Int → List (Int × Int)
  | [], len, level, at_ => if level && at_ < len then [(at_, (len : Int))] else []
  | e :: rest, len, level, at_ =>
    (if level && !e.on && at_ < e.off then [(at_, e.off)] else []) ++ piecesOf rest len e.on e.off

/-- What the minimum-interval treatment of one output has gathered: edges kept so far (last first), the number of intervals treated, and the on-time removed minus the off-time removed, in units. -/
structure MinpAcc where
  kept    : List OutEdge
  treated : Nat
  removed : Int

/-- Treat the interval that edge `e` ends (R146, R147, Table 8.4). `before` is the last edge of the previous period in fine steps before the start. -/
def minpEdge (c : SlotCfg) (unit len : Nat) (before : Int) (a : MinpAcc) (e : OutEdge) : MinpAcc :=
  let from_ : Int := match a.kept with
    | k :: _ => k.off * unit
    | [] => before
  if e.off * unit - from_ ≥ c.tMin then { a with kept := e :: a.kept }
  else if c.policy == 1 then
    -- STRETCH: move the ending edge later by whole units, to the end of the period at most.
    let need := (from_ + c.tMin + unit - 1) / unit
    let to_ := min need (len : Int)
    if to_ * unit - from_ ≥ c.tMin then
      { a with kept := if to_ == len then a.kept else { e with off := to_ } :: a.kept, treated := a.treated + 1 }
    else match a.kept with
      | _ :: rest => { a with kept := rest, treated := a.treated + 1 }
      | [] => { a with kept := [{ e with off := 0 }], treated := a.treated + 1 }
  else
    match a.kept with
    | k :: rest =>
      let gone := e.off - k.off
      { kept := rest, treated := a.treated + 1,
        removed := a.removed + (if c.policy == 0 then (if e.on then -gone else gone) else 0) }
    | [] =>
      if e.off == 0 then { a with kept := [e] }
      else
        { kept := [{ e with off := 0 }], treated := a.treated + 1,
          removed := a.removed + (if c.policy == 0 then (if e.on then -e.off else e.off) else 0) }

/-- The minimum-interval treatment of one output's edges. [log 38: DEDUCED] -/
def minpTreat (c : SlotCfg) (unit len : Nat) (before : Int) (es : List OutEdge) : MinpAcc :=
  let r := es.foldl (minpEdge c unit len before) ⟨[], 0, 0⟩
  { r with kept := r.kept.reverse }

/-- Total on-time of pieces, in units. -/
def onTime (ps : List (Int × Int)) : Int := ps.foldl (fun s (a, b) => s + (b - a)) 0

/-- The union of on-pieces with one more. -/
def unionPiece (ps : List (Int × Int)) (a b : Int) : List (Int × Int) :=
  let touching := ps.filter fun (x, y) => x ≤ b && a ≤ y
  let lo := touching.foldl (fun m (x, _) => min m x) a
  let hi := touching.foldl (fun m (_, y) => max m y) b
  (ps.filter fun (_, y) => y < a) ++ [(lo, hi)] ++ (ps.filter fun (x, _) => b < x)

/-- On-pieces with a window taken out, pieces that end within the period and are left shorter than `tMin` removed too (R150 rules 2 and 3). `before` is the start in fine steps of a piece that was on at offset 0. [log 38: DEDUCED] -/
def cutWindow (ps : List (Int × Int)) (a b : Int) (len unit tMin : Nat) (level : Bool) (before : Int) : List (Int × Int) :=
  ps.flatMap fun (x, y) =>
    if y ≤ a || b ≤ x then [(x, y)]
    else
      let left := if x < a then [(x, a)] else []
      let right := if b < y then [(b, y)] else []
      let keepLeft := left.filter fun (p, q) =>
        let start := if p == 0 && level then before else p * unit
        q * unit - start ≥ tMin
      let keepRight := right.filter fun (p, q) => q == len || (q - p) * unit ≥ tMin
      keepLeft ++ keepRight

/-- The outcome of treating one leg. -/
structure SlotResult where
  high     : List OutEdge
  low      : List OutEdge
  /-- Carry before its bound, in fine steps. -/
  carry    : Int
  treated  : Nat
  refCount : Nat
  refresh  : Bool
  /-- The refresh window in units. -/
  window   : Option (Int × Int)

/-- Treat one leg of a set (R141 steps 1 to 4). [log 38: DEDUCED] -/
def treatSlot (c : SlotCfg) (unit len : Nat) (high low : Pulse) (runH runL : OutRun) (carry : Int) (refCount : Nat) : SlotResult :=
  let shift := divRne carry unit
  let (h1, applied) := carryHigh high len shift
  let l1 := carryLow low len high.fall applied
  let c1 := carry - applied * unit
  let mh := minpTreat c unit len runH.last (edgesOf (h1.pieces len) len runH.level)
  let ml := minpTreat c unit len runL.last (edgesOf (l1.pieces len) len runL.level)
  let c2 := c1 + mh.removed * unit
  let lowPieces := piecesOf ml.kept len runL.level 0
  let due := onTime lowPieces * unit < c.tRef
  let count := if due then refCount + 1 else 0
  if due && count ≥ c.nRef then
    let tR := ceilDiv c.tRef unit
    let a : Int := (len / 2 : Nat) - (tR / 2 : Nat)
    let b : Int := a + tR
    let g : Int := (ceilDiv c.gRef unit : Nat)
    let wa := max 0 (a - g)
    let wb := min (len : Int) (b + g)
    let lowNew := unionPiece lowPieces (max 0 a) (min (len : Int) b)
    let highPieces := piecesOf mh.kept len runH.level 0
    let highNew := cutWindow highPieces wa wb len unit c.tMin runH.level runH.last
    let lost := onTime highPieces - onTime highNew
    ⟨edgesOf highNew len runH.level, edgesOf lowNew len runL.level, c2 + lost * unit, mh.treated + ml.treated, 0, true, some (wa, wb)⟩
  else ⟨mh.kept, ml.kept, c2, mh.treated + ml.treated, count, false, none⟩

/-- Where an output stands at the start of the next period. -/
def OutRun.after (r : OutRun) (es : List OutEdge) (unit len : Nat) : OutRun :=
  let span : Int := (len * unit : Nat)
  match es.getLast? with
  | some e => ⟨e.on, e.off * unit - span⟩
  | none => ⟨r.level, max (-1000000000) (r.last - span)⟩

/-- The smallest offset of an edge, `len` for none (R142). -/
def earliest (len : Nat) (ess : List (List OutEdge)) : Nat :=
  ess.foldl (fun m es => es.foldl (fun m e => min m e.off.toNat) m) len

end Sys2Proof.Machine
end

