-- ==== Sys2Proof/Machine/EdgePlacer.lean ====
section
/-! DEFINITION. The edge placer of an axis (R137 to R155): posting, the post-by time, repeats, the active compare set, enable and disable, and manual edge mode. -/

namespace Sys2Proof.Machine

/-- The edge placer of axis `n`. -/
def Device.edpOf (d : Device) (n : Nat) : Edp := d.edp.toList.getD n Edp.idle

/-- Change the edge placer of axis `n`. -/
def Device.onEdp (d : Device) (n : Nat) (f : Edp → Edp) : Device :=
  if h : n < 8 then { d with edp := d.edp.set n (f (d.edp[n])) } else d

/-- A saturation of a block of axis `n`: its bit of `AXn_SAT` sets and `AXn_SAT_COUNT` counts it (R30, Table 2.5). -/
def Device.satAxis (d : Device) (n k : Nat) (sat : Bool) : Device :=
  if sat then (d.wrBitA Ix.AX_SAT n 0 k true).incA Ix.AX_SAT_COUNT n else d

/-- The accepted settings of the edge placer (R138). -/
def Device.edpSet (d : Device) (n : Nat) : EdpCfg :=
  { unit := 2 ^ d.rdA Ix.AX_EDP_PRESCALE n, len := d.rdA Ix.AX_EDP_PERIOD n
    evts := [1, 2, 3, 4].map fun c => d.rdA Ix.AX_EDP_EVT n c, marks := [1, 2].map fun c => d.rdA Ix.AX_EDP_MARK n c }

/-- The settings of the next period to be decided: those accepted, or where it runs already, those that its start fixed (R138). -/
def Device.edpPend (d : Device) (n : Nat) : EdpCfg := (d.edpOf n).held.getD (d.edpSet n)

/-- The period with a sequence number, where it has been decided or is the next to be: one that is not decided has the last accepted set, else the repeat candidate (R152). -/
def Device.frameOf (d : Device) (n seq : Nat) : Option Frame :=
  let e := d.edpOf n
  match e.frames.find? fun f => f.seq == seq with
  | some f => some f
  | none =>
    if e.running && seq == (e.decided + 1) % 2 ^ 32 then
      some ⟨seq, e.nextStart, d.edpPend n, (e.accepted.map fun a => a.set.cmp).getD e.candidate, e.renew⟩
    else none

/-- The settings in force: those of the period that runs, and without one those accepted (R138). -/
def Device.edpNow (d : Device) (n : Nat) : EdpCfg :=
  ((d.frameOf n (d.rdA Ix.AX_EDP_PERIOD_SEQ n)).map fun f => f.cfg).getD (d.edpSet n)

/-- P of axis `n` in units, from its accepted settings. -/
def Device.edpLen (d : Device) (n : Nat) : Nat := d.rdA Ix.AX_EDP_PERIOD n

/-- The carrier unit of axis `n` in fine steps (R137 rule 1). -/
def Device.edpUnit (d : Device) (n : Nat) : Nat := 2 ^ d.rdA Ix.AX_EDP_PRESCALE n

/-- tGUARD of a leg in fine steps (R126). -/
def Device.guardFine (d : Device) (l : Nat) : Nat := tenNs (d.rd Ix.GDA_GUARD (l + 1))

/-- The treatment settings of slot `s` of axis `n` (R146, R150). -/
def Device.slotCfg (d : Device) (n s : Nat) : SlotCfg :=
  let l := (d.axisLegs n).getD s 24
  { tMin := max (tenNs (d.rdA Ix.AX_EDP_MINP n (s + 1))) (d.guardFine l)
    policy := d.rdA Ix.AX_EDP_POLICY n (s + 1)
    tRef := tenNs (d.rdA Ix.AX_EDP_TREF n (s + 1))
    nRef := d.rdA Ix.AX_EDP_NREF n (s + 1)
    gRef := max (tenNs (d.rdA Ix.AX_EDP_REF_GAP n)) (d.guardFine l) }

/-- The pulse of gate output `j` in a set, as posted (R139). [log 38: DEDUCED] -/
def pulseOf (cmp : List Nat) (j : Nat) : Pulse := ⟨cmp.getD (2 * j) 0, cmp.getD (2 * j + 1) 0⟩

/-- The used slots of axis `n`. -/
def Device.usedSlots (d : Device) (n : Nat) : List Nat := List.range (d.axisLegs n).length

/-- A set treated for the next period of axis `n`, slot by slot. -/
def Device.treatSet (d : Device) (n : Nat) (cmp : List Nat) : List SlotResult :=
  let e := d.edpOf n
  let g := d.edpPend n
  (d.usedSlots n).map fun s =>
    treatSlot (d.slotCfg n s) g.unit g.len (pulseOf cmp (2 * s)) (pulseOf cmp (2 * s + 1))
      (e.outs.getD (2 * s) ⟨false, 0⟩) (e.outs.getD (2 * s + 1) ⟨false, 0⟩)
      (d.rdAS 32 Ix.AX_EDP_CARRY n (s + 1)) (e.refCount.getD s 0)

/-- The repeat candidate treated: before the first set of an enable it is the all-off set, which places no edge and counts no refresh period (R154). [log 40: DEDUCED] -/
def Device.treatCandidate (d : Device) (n : Nat) : List SlotResult :=
  let e := d.edpOf n
  if e.allOff then (d.usedSlots n).map fun s => ⟨[], [], d.rdAS 32 Ix.AX_EDP_CARRY n (s + 1), 0, e.refCount.getD s 0, false, none⟩
  else d.treatSet n e.candidate

/-- The earliest edge of a set treated for the next period, in units (R142). -/
def Device.earliestOf (d : Device) (n : Nat) (rs : List SlotResult) : Nat :=
  earliest (d.edpPend n).len (rs.flatMap fun r => [r.high, r.low])

/-- The last instant in fine steps for a set whose earliest edge is `e`: S_k + E − 2 ticks (R142). -/
def Device.limitFor (d : Device) (n e : Nat) : Int :=
  ((d.edpOf n).nextStart : Int) + (e * (d.edpPend n).unit : Nat) - 64

/-- The post-by time of the next period to be decided, in fine steps (R142). -/
def Device.postBy (d : Device) (n : Nat) : Int := d.limitFor n (d.earliestOf n (d.treatCandidate n))

/-- Record a slack in ticks: the object keeps the minimum (R15, R145). [log 39: DEDUCED] -/
def Device.recordSlack (d : Device) (index n sub : Nat) (slack : Int) : Device :=
  d.wrAI index n sub (min (d.rdAS 32 index n sub) (max lo32 (min hi32 slack)))

/-- LATE_RUN of `AXn_EDP_STATUS`. -/
def Device.lateRun (d : Device) (n : Nat) : Nat := field (d.rdA Ix.AX_EDP_STATUS n) 15 8

/-- Set LATE_RUN. -/
def Device.setLateRun (d : Device) (n v : Nat) : Device :=
  d.wrA Ix.AX_EDP_STATUS n 0 (d.rdA Ix.AX_EDP_STATUS n % 256 + v % 256 * 256)

/-- A period repeats its candidate (R143): kind 0x09 is posted once per run, in the first period in which LATE_RUN exceeds the limit. -/
def Device.repeatPeriod (d : Device) (now n : Nat) : Device :=
  let run := satInc 8 (d.lateRun n)
  let d1 := (((d.wrBitA Ix.AX_EDP_STATUS n 0 0 true).incA Ix.AX_EDP_LATE_COUNT n).setLateRun n run)
  if d.rdA Ix.AX_EDP_LATE_LIMIT n < run && !(d.edpOf n).reported then
    ((d1.onEdp n fun e => { e with reported := true }).wrBitA Ix.AX_EDP_STATUS n 0 1 true).post now (srcByte 5 n) 0x09 run
  else d1

/-- An accepted set ends the run of repeats (R143). -/
def Device.endRun (d : Device) (n : Nat) : Device := (d.setLateRun n 0).onEdp n fun e => { e with reported := false }

/-- The outcome of one slot enters the counts, the carry and its bound (R147 to R150). -/
def Device.enterSlot (d : Device) (n s : Nat) (r : SlotResult) : Device :=
  let bound : Int := ((d.edpPend n).len * (d.edpPend n).unit : Nat)
  let beyond := r.carry < -bound || bound < r.carry
  let d1 := d.wrAI Ix.AX_EDP_CARRY n (s + 1) (clampI (-bound) bound r.carry)
  let d2 := if beyond then (d1.incA Ix.AX_EDP_CARRY_DROP n).wrBitA Ix.AX_EDP_STATUS n 0 2 true |>.satAxis n 5 true else d1
  let d3 := d2.wrA Ix.AX_EDP_MINP_COUNT n (s + 1) (satAdd 32 (d2.rdA Ix.AX_EDP_MINP_COUNT n (s + 1)) r.treated)
  let d4 := if r.refresh then (d3.incA Ix.AX_EDP_REF_COUNT n (s + 1)).wrBitA Ix.AX_EDP_STATUS n 0 3 true else d3
  d4.onEdp n fun e => { e with refCount := e.refCount.set s r.refCount }

/-- What a treated set places in the period that starts at `nextStart`: its edges in order of time, its refresh windows in fine steps, and the high-side on-times with whether any gate is on. -/
structure Placing where
  due  : List DueEdge
  wins : List (Nat × Nat)
  ons  : List Nat × Bool

/-- The placing of a set treated for the next period to be decided (R139, R141, R151, R235). -/
def Device.placing (d : Device) (n : Nat) (rs : List SlotResult) : Placing :=
  let len := (d.edpPend n).len
  let unit := (d.edpPend n).unit
  let e := d.edpOf n
  let start := e.nextStart
  let due := (rs.zipIdx).flatMap fun (r, s) =>
    (r.high.map fun (x : OutEdge) => DueEdge.mk (start + x.off.toNat * unit) (2 * s) x.on)
      ++ (r.low.map fun (x : OutEdge) => DueEdge.mk (start + x.off.toNat * unit) (2 * s + 1) x.on)
  let wins := (List.range 4).map fun s =>
    match rs[s]? with
    | some r => match r.window with
      | some (a, b) => (start + a.toNat * unit, start + b.toNat * unit)
      | none => (0, 0)
    | none => (0, 0)
  let on := fun (es : List OutEdge) (j : Nat) => (onTime (piecesOf es len (e.outs.getD j ⟨false, 0⟩).level 0)).toNat
  let ons := (rs.zipIdx).map fun (r, s) => on r.high (2 * s)
  let lows := (rs.zipIdx).map fun (r, s) => on r.low (2 * s + 1)
  ⟨sortBy (fun a b => a.time ≤ b.time) due, wins, (ons, (ons ++ lows).any fun t => 0 < t)⟩

/-- The on-times of a period enter the list of the last four. -/
def keepOns (xs : List (Nat × List Nat × Bool)) (seq : Nat) (ons : List Nat × Bool) : List (Nat × List Nat × Bool) :=
  ((seq, ons) :: xs.filter fun x => x.1 != seq).take 4

/-- A set is accepted for the period to be decided: what it places comes about from now on, in place of what an earlier set for that period has not placed yet (R142, R152). [log 39: DEDUCED] -/
def Device.accept (d : Device) (n : Nat) (a : AcceptedSet) : Device :=
  let p := d.placing n (d.treatSet n a.set.cmp)
  d.onEdp n fun e =>
    { e with accepted := some a, placed := p.due, placedWins := p.wins, onTimes := keepOns e.onTimes ((e.decided + 1) % 2 ^ 32) p.ons }

/-- A treated set becomes the active compare set of the period that starts at `nextStart` (R141, R142). The edges of an accepted set have been placed at its acceptance. The period keeps the settings it was decided with (R138). A set that came early for the period after it is accepted then. -/
def Device.activate (d : Device) (n : Nat) (cmp : List Nat) (rs : List SlotResult) : Device :=
  let g := d.edpPend n
  let len := g.len
  let unit := g.unit
  let e := d.edpOf n
  let p := d.placing n rs
  let sat := (List.range (4 * rs.length)).any fun c => len < cmp.getD c 0
  let outs := (rs.zipIdx).foldl (fun os (r, s) =>
    let o1 := os.set (2 * s) ((os.getD (2 * s) ⟨false, 0⟩).after r.high unit len)
    o1.set (2 * s + 1) ((o1.getD (2 * s + 1) ⟨false, 0⟩).after r.low unit len)) e.outs
  let wins := (e.windows.zip p.wins).map fun (old, new) => if new == (0, 0) then old else new
  let d1 := (rs.zipIdx).foldl (fun f (r, s) => f.enterSlot n s r) d
  let d2 := d1.satAxis n 5 sat
  let frame : Frame := ⟨(e.decided + 1) % 2 ^ 32, e.nextStart, g, cmp, e.held.isNone && e.renew⟩
  let d3 := d2.onEdp n fun e =>
    { e with
      frames := (frame :: e.frames).take 3, held := none, renew := e.renew && e.held.isSome
      allOff := !e.posted, limited := e.limited || sat
      edges := e.edges ++ (if e.accepted.isSome then e.placed else p.due)
      placed := [], placedWins := List.replicate 4 (0, 0)
      outs := outs, windows := wins, unit := unit, length := len
      decided := (e.decided + 1) % 2 ^ 32, nextStart := e.nextStart + len * unit
      onTimes := keepOns e.onTimes ((e.decided + 1) % 2 ^ 32) p.ons
      candidate := e.newest, accepted := none, early := none, lateAt := none }
  match e.early with
  | some a => d3.accept n a
  | none => d3

/-- Manual edge mode is selected (R155). -/
def Device.manual (d : Device) (n : Nat) : Bool := d.rdA Ix.AX_EDP_MODE n == 1

/-- PERIOD_DECIDED (R142, R143, R145, R155). [log 39: DEDUCED] -/
def Device.decidePeriod (d : Device) (now n : Nat) : Device :=
  let e := d.edpOf n
  if !e.running then d
  else if d.manual n then d.activate n (d.tab (axIx Ix.AX_EDP_MANUAL n)) (d.treatSet n (d.tab (axIx Ix.AX_EDP_MANUAL n)))
  else
    let by_ := d.postBy n
    let d0 := d.onEdp n fun e => { e with decidedBy := by_ }
    match e.accepted with
    | some a =>
      ((d0.recordSlack Ix.AX_EDP_SLACK n 0 ((by_ - a.arrival) / 32)).endRun n).activate n a.set.cmp (d.treatSet n a.set.cmp)
    | none =>
      let d1 := d0.repeatPeriod now n
      let d2 := match e.lateAt with
        | some t => d1.recordSlack Ix.AX_EDP_SLACK n 0 ((by_ - t) / 32)
        | none => d1.onEdp n fun x => { x with owed := x.owed ++ [((e.decided + 1) % 2 ^ 32, by_)] }
      d2.activate n e.candidate (d.treatCandidate n)

/-- The post-by time in fine steps of a period, where it is fixed: when the period before it has been decided (R142). -/
def Device.postByOf (d : Device) (n seq : Nat) : Option Int :=
  let e := d.edpOf n
  if seq == e.decided then some e.decidedBy else if seq == (e.decided + 1) % 2 ^ 32 then some (d.postBy n) else none

/-- A set that no period takes (R144); the slack of the repeated period it was meant for is known then (R145). [log 39: DEDUCED] -/
def Device.lateSet (d : Device) (n seq time : Nat) : Device :=
  let e := d.edpOf n
  let d1 := d.incA Ix.AX_EDP_LATE_SETS n
  if seq == (e.decided + 1) % 2 ^ 32 then d1.onEdp n fun x => { x with lateAt := x.lateAt.or (some time) }
  else match e.owed.find? fun x => x.1 == seq with
    | some (k, by_) => (d1.recordSlack Ix.AX_EDP_SLACK n 0 ((by_ - time) / 32)).onEdp n fun x => { x with owed := x.owed.filter fun y => y.1 != k }
    | none => d1

/-- SET_POSTED (R142, R144): the set on its way arrives at `time` in fine steps. A set for the period after the next one to be decided meets both conditions of R142, since that period starts later than this one is decided. -/
def Device.arrive (d : Device) (n time : Nat) : Device :=
  let e := d.edpOf n
  match e.mailbox with
  | none => d
  | some set =>
    let taken := d.onEdp n fun e => { e with mailbox := none, newest := set.cmp, posted := true }
    if !e.running || d.manual n then d.onEdp n fun e => { e with mailbox := none }
    else if set.seq == (e.decided + 1) % 2 ^ 32 && (time : Int) ≤ d.postBy n && (time : Int) ≤ d.limitFor n (d.earliestOf n (d.treatSet n set.cmp)) then
      taken.accept n ⟨set, time⟩
    else if set.seq == (e.decided + 2) % 2 ^ 32 then taken.onEdp n fun e => { e with early := some ⟨set, time⟩ }
    else taken.lateSet n set.seq time

/-- The correction unit hands a set over for the next period (R21, R140). [log 39: DEDUCED] -/
def Device.postSet (d : Device) (n : Nat) (set : EdgeSet) : Device := d.onEdp n fun e => { e with mailbox := some set }

/-- An enable arms the first period; manual mode posts MANUAL_ENABLE (R154, R155). -/
def Device.edpEnable (d : Device) (now n : Nat) : Device :=
  let d1 := d.onEdp n fun e => { e with armed := some (now * 32) }
  let d2 := d1.wrBitA Ix.AX_EDP_STATUS n 0 5 (d.manual n)
  d2.postIf (d.manual n) now (srcByte 5 n) 0x40 0

/-- The start of the first period: the first fine step from `from_` on at which T − PHASE × u is a multiple of P × u (R154). [log 40: DEDUCED] -/
def Device.firstStart (d : Device) (n from_ : Nat) : Nat :=
  let span := d.edpLen n * d.edpUnit n
  let phase := d.rdA Ix.AX_EDP_PHASE n * d.edpUnit n % span
  let beyond := (from_ + span - phase) % span
  if beyond == 0 then from_ else from_ + (span - beyond)

/-- FIRST_PERIOD_START (R121, R154): the first period places no edge; it starts only once every leg of the axis has its monitors on. [log 40: DEDUCED] -/
def Device.startFirst (d : Device) (now n : Nat) : Device :=
  let e := d.edpOf n
  match e.armed with
  | none => d
  | some t0 =>
    if (d.axisLegs n).any fun l => !(d.leg l).monitors then d
    else
      let start := d.firstStart n (max (t0 + 10240) (now * 32))
      let span := d.edpLen n * d.edpUnit n
      let off := List.replicate 16 0
      let d1 := (d.wrA Ix.AX_EDP_PERIOD_SEQ n 0 e.nextSeq).wrBitA Ix.AX_EDP_STATUS n 0 4 true
      d1.onEdp n fun e =>
        { e with
          armed := none, running := true, decided := e.nextSeq, nextStart := start + span
          unit := d.edpUnit n, length := d.edpLen n, mailbox := none, newest := off, candidate := off
          onTimes := [(e.nextSeq, [0, 0, 0, 0], false)]
          accepted := none, early := none, lateAt := none, owed := [], edges := [], placed := [], unset := true, outs := List.replicate 8 ⟨false, -1000000000⟩
          frames := [⟨e.nextSeq, start, d.edpSet n, off, false⟩], held := none, renew := false, fired := [], posted := false, allOff := true, reported := false }

/-- The output of the axis that drives a leg: the leg of slot `j / 2`. -/
def Device.outputLeg (d : Device) (n j : Nat) : Option Nat := (d.axisLegs n)[j / 2]?

/-- The next edge to fall due: of the active compare sets, else of the set accepted for the period to be decided. -/
def Edp.nextEdge (e : Edp) : Option (DueEdge × Edp) :=
  match e.edges, e.placed with
  | x :: rest, _ => some (x, { e with edges := rest })
  | [], x :: rest => some (x, { e with placed := rest })
  | [], [] => none

/-- GATE_COMMAND_EDGE (R127, R139): the next edge of the active compare set falls due. `clear`: the opposite gate has been sensed off for at least tGUARD. -/
def Device.edgeDue (d : Device) (n : Nat) (clear : Bool) : Device :=
  match (d.edpOf n).nextEdge with
  | none => d
  | some (x, e) =>
    let d1 := d.onEdp n fun _ => { e with lines := e.lines.set x.output (x.on, x.time) }
    match d1.outputLeg n x.output with
    | some l => d1.gateCommand l (x.output % 2 == 0) x.on clear
    | none => d1

/-- The slack −2^31 of a period that ends repeated without a late set (R145). [log 39: DEDUCED] -/
def Device.closeOwed (d : Device) (n seq : Nat) : Device :=
  if (d.edpOf n).owed.any fun x => x.1 == seq then
    (d.recordSlack Ix.AX_EDP_SLACK n 0 lo32).onEdp n fun e => { e with owed := e.owed.filter fun x => x.1 != seq }
  else d

/-- Every gate command wire of the axis goes low, and the edge placer clears its carries, refresh counts, LATE_RUN and occurrence counts (R154). The numbering of periods runs on (R137 rule 5), and the period that ends has its slack (R145). -/
def Device.edpStop (d : Device) (n : Nat) : Device :=
  let e := d.edpOf n
  let seq := d.rdA Ix.AX_EDP_PERIOD_SEQ n
  let d0 := if e.running then d.closeOwed n seq else d
  let d1 := (d.axisLegs n).foldl Device.wireDown d0
  let d2 := [1, 2, 3, 4].foldl (fun f s => f.wrA Ix.AX_EDP_CARRY n s 0) d1
  let d3 := (d2.setLateRun n 0).wrBitA Ix.AX_EDP_STATUS n 0 4 false
  let next := if e.running then (seq + 1) % 2 ^ 32 else e.nextSeq
  d3.onEdp n fun e => { Edp.idle with nextSeq := next, marks := e.marks, notified := e.notified, limited := e.limited }

/-- A period of the axis begins: ZERO at offset 0 (R137 rule 5, R152). The one that ends has its slack (R145); the settings of the one that begins are fixed, and the first with a committed set starts the occurrence counts anew (R138, R153). [log 39: DEDUCED, 40: DEDUCED] -/
def Device.periodBegins (d : Device) (n : Nat) (events : List Nat) : Device :=
  let was := d.rdA Ix.AX_EDP_PERIOD_SEQ n
  let seq := (was + 1) % 2 ^ 32
  let e := d.edpOf n
  let undecided := seq == (e.decided + 1) % 2 ^ 32
  let fresh := ((d.frameOf n seq).map fun f => f.fresh).getD false
  ((d.wrA Ix.AX_EDP_PERIOD_SEQ n 0 seq).closeOwed n was).onEdp n fun e =>
    { e with
      unset := false, fired := events
      held := if undecided then some (d.edpPend n) else e.held
      renew := e.renew && !undecided
      occurs := if fresh then [0, 0, 0, 0] else e.occurs }

/-- The first period that begins with a committed set (R138). -/
def Device.freshPeriod (d : Device) (n seq : Nat) : Bool := ((d.frameOf n seq).map fun f => f.fresh).getD false

/-- A set is committed on a running axis: it waits for the first period decided from now on that has not begun, and an accepted set of that period is treated anew (R138). [log 40: DEDUCED] -/
def Device.edpRenew (d : Device) (n : Nat) : Device :=
  let d1 := d.onEdp n fun e => { e with renew := true }
  match (d.edpOf n).accepted, (d.edpOf n).held with
  | some a, none => d1.accept n a
  | _, _ => d1

/-! ### Events of a period (R152) -/

/-- The offset of the event of a source in a period, in carrier units: PERIOD, the markers and the compares as posted, one beyond P at P. -/
def Frame.offset (f : Frame) (source : Nat) : Nat :=
  if source == 2 then f.cfg.len / 2
  else if source == 3 || source == 4 then f.cfg.marks.getD (source - 3) 0
  else min f.cfg.len (f.cmp.getD (source - 16) 0)

/-- The source codes of Table 8.6 beside ZERO. -/
def eventSources : List Nat := [2, 3, 4] ++ (List.range 16).map (· + 16)

/-- The sources whose event of period `f` occurs at fine step `t`; each occurs once. -/
def Frame.events (f : Frame) (fired : List Nat) (t : Nat) : List Nat :=
  eventSources.filter fun s => !fired.contains s && f.start + f.offset s * f.cfg.unit == t

/-- The events of axis `n` at fine step `t`: those of the period that runs, and where the next begins there, its ZERO with what occurs at its start. [log 40: DEDUCED] -/
def Device.eventsAt (d : Device) (n t : Nat) : List Nat × Option (List Nat) :=
  let e := d.edpOf n
  let seq := d.rdA Ix.AX_EDP_PERIOD_SEQ n
  match (if e.running then d.frameOf n seq else none) with
  | none => ([], none)
  | some f =>
    let zero := (e.frames.any fun g => g.seq == seq) && f.start + f.cfg.len * f.cfg.unit == t
    let next := match d.frameOf n ((seq + 1) % 2 ^ 32) with
      | some g => g.events [] t
      | none => []
    (f.events e.fired t, if zero then some (1 :: next) else none)

/-! ### Event channels -/

/-- The SOURCE of channel `c` (1 to 4), Table 8.5. -/
def EdpCfg.source (g : EdpCfg) (c : Nat) : Nat := field (g.evts.getD (c - 1) 0) 7 0

/-- The prescaler N of channel `c`. -/
def EdpCfg.prescale (g : EdpCfg) (c : Nat) : Nat := field (g.evts.getD (c - 1) 0) 23 16 + 1

/-- A destination bit of channel `c`: 24 capture, 25 engine, 26 Teamster, 27 trace. -/
def EdpCfg.dest (g : EdpCfg) (c k : Nat) : Bool := bit (g.evts.getD (c - 1) 0) k

/-- The channel that routes to the control engine, with a source (R138 condition 5). -/
def EdpCfg.engineChannel (g : EdpCfg) : Option Nat := [1, 2, 3, 4].find? fun c => g.dest c 25 && g.source c != 0

/-- The current-loop period T in fine steps: the carrier period × N of the engine's channel (R185); none without a route. [log 41: DEDUCED] -/
def EdpCfg.loopPeriod (g : EdpCfg) : Option Nat := g.engineChannel.map fun c => g.len * g.unit * g.prescale c

/-- The offset of the engine's event within its period, in carrier units: ZERO, PERIOD, MARK0 and MARK1 (R152); a compare event has no fixed offset and counts as 0. [log 40: DEDUCED] -/
def EdpCfg.holdOffset (g : EdpCfg) : Nat :=
  match g.engineChannel with
  | some c =>
    let s := g.source c
    if s == 2 then g.len / 2 else if s == 3 then g.marks.getD 0 0 else if s == 4 then g.marks.getD 1 0 else 0
  | none => 0

/-- The SOURCE of channel `c` of axis `n` in force. -/
def Device.evtSource (d : Device) (n c : Nat) : Nat := (d.edpNow n).source c

/-- The prescaler N of channel `c` in force. -/
def Device.evtN (d : Device) (n c : Nat) : Nat := (d.edpNow n).prescale c

/-- A destination bit of channel `c` in force. -/
def Device.evtDest (d : Device) (n c k : Nat) : Bool := (d.edpNow n).dest c k

/-- The engine's channel in force. -/
def Device.engineChannel (d : Device) (n : Nat) : Option Nat := (d.edpNow n).engineChannel

/-- The current-loop period in force. -/
def Device.loopPeriod (d : Device) (n : Nat) : Option Nat := (d.edpNow n).loopPeriod

/-- The current-loop rate of the accepted settings exceeds 50 kHz: T is below 20 µs, that is, 102,400 fine steps. -/
def Device.rateAbove50k (d : Device) (n : Nat) : Bool := (d.edpSet n).loopPeriod.any fun t => decide (t < 102400)

/-- The current-loop rate of the accepted settings exceeds 100 kHz: T is below 51,200 fine steps (R185). -/
def Device.rateAbove100k (d : Device) (n : Nat) : Bool := (d.edpSet n).loopPeriod.any fun t => decide (t < 51200)

/-- The device is in Walk or changing to Walk (R18, R84). -/
def Device.walking (d : Device) : Bool :=
  match d.supply.paceTarget with
  | some t => t == 0 || d.supply.pace == 0
  | none => d.supply.pace == 0

/-- Condition 6 of R36 on a device: W_b × T ≤ 1/8 at the current-loop rate; it holds without a rate. T in fine steps of 1/5,120,000,000 s, W_b in mHz. -/
def Device.speedBaseOk (d : Device) (n : Nat) : Bool :=
  match (d.edpSet n).loopPeriod with
  | some t => d.rdA Ix.AX_W_BASE n * t * 8 ≤ 5120000000 * 1000
  | none => true

/-- The conditions of R138, in order. -/
def edpConds (d m : Device) (n : Nat) : List Bool :=
  let p := m.edpLen n
  let slots := legsOfType (m.axisType n)
  [ m.rdA Ix.AX_EDP_PRESCALE n ≤ 7 && 1 ≤ p && p ≤ 16777215,
    25600 ≤ p * m.edpUnit n,
    m.rdA Ix.AX_EDP_PHASE n < p && m.rdA Ix.AX_EDP_MARK n 1 < p && m.rdA Ix.AX_EDP_MARK n 2 < p,
    [1, 2, 3, 4].all fun c =>
      PackedObj.edpEvt.accepts (m.rdA Ix.AX_EDP_EVT n c)
        && ((m.edpSet n).source c < 0x10 || ((m.edpSet n).source c - 0x10) / 4 < slots),
    ([1, 2, 3, 4].filter fun c => (m.edpSet n).dest c 25 && (m.edpSet n).source c != 0).length ≤ 1,
    m.speedBaseOk n && !m.rateAbove100k n && !(d.walking && m.rateAbove50k n) ]

/-! ### Meanings -/

/-- SET_POSTED (R142): the set that the correction unit handed over arrives, at fine step `fine` of the present tick. -/
def execSetPosted (n : Fin 8) (fine : Fin 32) (s : State) : Host.Outcome State Fault Refusal :=
  s.onRunning fun now d => d.arrive n (now * 32 + fine)

/-- GATE_COMMAND_EDGE (R127). [log 18: DEDUCED] -/
def execGateCommandEdge (n : Fin 8) (clear : Bool) (s : State) : Host.Outcome State Fault Refusal :=
  s.onRunning fun _ d => d.edgeDue n clear

end Sys2Proof.Machine
end

