-- ==== Sys2Proof/Machine/Conversion.lean ====
section
/-! DEFINITION. Sensing and the conversion pool (R159 to R183): bases, capture holds, slice allocation, result arithmetic, delivery, equalisation, bursts and calibration. The engines take delivered sets in `Chain`. -/

namespace Sys2Proof.Machine

/-! ### Bases (R32, R34, R172) -/

/-- The amplifier gain of the current channel of LEG_A, 20 for an axis with no leg (R34 rule 1). -/
def Device.axisGain (d : Device) (n : Nat) : Nat :=
  match d.axisLegs n with
  | l :: _ => gainOfCode (d.rd Ix.CNV_CS_GAIN (l + 1))
  | [] => 20

/-- The voltage base in use, in mV: `AXn_V_BASE`, or 1.2 × nominal VBAT where it is 0 (R34 rule 2). -/
def Device.voltBase (d : Device) (n : Nat) : Nat :=
  if d.rdA Ix.AX_V_BASE n == 0 then (divRne (d.rd Ix.SUP_VBAT_NOMINAL * 6) 5).toNat else d.rdA Ix.AX_V_BASE n

/-- K_ANGLE of R32: round(W_b × T × 2^32), 0 without a current-loop rate (R36 condition 6). [log 41: DEDUCED] -/
def Device.angleScale (d : Device) (n : Nat) : Nat :=
  match d.loopPeriod n with
  | some t => (divRne (d.rdA Ix.AX_W_BASE n * t * 2 ^ 32) (5120000000 * 1000)).toNat
  | none => 0

/-- Full scale in mV of a PV range code (R162). -/
def rangeMv (c : Nat) : Nat := if c == 0 then 18000 else if c == 1 then 36000 else 72000

/-- K = round(FS × 4,096 / V_b), held at 0x7FFF (R172). -/
def scaleK (fsMv vbMv : Nat) : Nat := min 0x7FFF (divRne (fsMv * 4096) vbMv).toNat

/-- K of `CNV_PV_SCALE` for axis `n` (R172). -/
def Device.pvScale (d : Device) (n : Nat) : Nat :=
  match d.axisLegs n with
  | l :: _ => scaleK (rangeMv (d.rd Ix.CNV_PV_RANGE (l + 1))) (d.voltBase n)
  | [] => scaleK 18000 (d.voltBase n)

/-- The derived base objects of axis `n` follow its settings (R32, R34, R172). -/
def Device.rebase (d : Device) (n : Nat) : Device :=
  let iBase := (divRne 1200000000000 (d.axisGain n * d.rdA Ix.AX_SHUNT n)).toNat
  let d1 := d.wrA Ix.AX_I_BASE n 0 iBase
  let d2 := d1.wrA Ix.AX_V_BASE_ACTIVE n 0 (d.voltBase n)
  let d3 := d2.wrA Ix.AX_K_ANGLE n 0 (d.angleScale n)
  d3.wr Ix.CNV_PV_SCALE (n + 1) (d.pvScale n)

/-- Every axis follows. -/
def Device.rebaseAll (d : Device) : Device := axes.foldl (fun e n => e.rebase n) d

/-- The conditions of R36, in order, over the present device and the merged set. -/
def baseConds (d m : Device) (n : Nat) : List Bool :=
  [ !d.countsEnabled n,
    100 ≤ m.rdA Ix.AX_SHUNT n && m.rdA Ix.AX_SHUNT n ≤ 1000000,
    match m.axisLegs n with
    | [] => true
    | l0 :: rest => rest.all fun l => m.rd Ix.CNV_CS_GAIN (l + 1) == m.rd Ix.CNV_CS_GAIN (l0 + 1),
    m.rdA Ix.AX_V_BASE n == 0 || (1000 ≤ m.rdA Ix.AX_V_BASE n && m.rdA Ix.AX_V_BASE n ≤ 84000),
    1000 ≤ m.rdA Ix.AX_W_BASE n && m.rdA Ix.AX_W_BASE n ≤ 3000000,
    m.speedBaseOk n ]

/-! ### Result arithmetic (Table 9.5) -/

/-- A byte string as a calibration record field: `k` bytes at an offset, least significant first. -/
def Device.calField (d : Device) (off k : Nat) : Nat := leNat (((d.tab Ix.STO_CAL_RECORD).drop off).take k)

/-- The system calibration of channel code `c`: GAIN_j and OFFSET_j (R172, Table 6.8). -/
def calIndex (c : Nat) : Option Nat :=
  if c ≤ 0x17 then some c
  else if 0x20 ≤ c && c ≤ 0x37 then some (c - 0x20 + 24)
  else if 0x40 ≤ c && c ≤ 0x47 then some (c - 0x40 + 48)
  else none

/-- The factory correction of slice `s` (R174): offset and gain from OTP bank 3 where it is in force. The spec gives no layout of that bank, so the two numbers are free values of the bank's words. -/
def Device.sliceTrim (d : Device) (s : Nat) : Int × Int :=
  if d.bitOf Ix.CNV_STATUS 3 then (0, 0x1000)
  else (sgn 16 (Config.sliceOffset s).toNat, sgn 16 (Config.sliceGain s).toNat)

/-- Stage 2: x_f of a raw code on slice `s`. [log 6: DESIGN CHOICE] -/
def Device.factory (d : Device) (s : Nat) (raw : Int) : Stored :=
  let (o, g) := d.sliceTrim s
  gainDiff (4 * raw - o) g
where
  /-- A difference in Q2.15 times a GAIN16, stored to FRAC16. -/
  gainDiff (x g : Int) : Stored := frac16Of (mulFG x g)

/-- K of a PV or VLINK channel held by group `n`: with V_b of axis `n`, whether it owns the leg of the channel or not (R172). -/
def Device.channelK (d : Device) (n c : Nat) : Nat :=
  scaleK (if c == 0x50 then 72000 else rangeMv (d.rd Ix.CNV_PV_RANGE (c - 0x20 + 1))) (d.voltBase n)

/-- The stores of Table 9.5, in order, for a raw code of channel `c`, held by group `n`, converted on slice `s`. [log 44: DEDUCED] -/
def Device.stores (d : Device) (n c s : Nat) (raw : Int) : List Stored :=
  let xf := d.factory s raw
  let (g, o) := match calIndex c with
    | some j => (sgn 16 (d.calField (16 + 4 * j) 2), sgn 16 (d.calField (18 + 4 * j) 2))
    | none => (0x1000, 0)
  let u := frac16Of (mulFG (xf.val - o) g)
  if (0x20 ≤ c && c ≤ 0x37) || c == 0x50 then [xf, u, frac16Of (mulFG u.val (d.channelK n c))] else [xf, u]

/-- The result: the last store, with SAT where any store limited (R172). [log 44: DEDUCED] -/
def Device.result (d : Device) (n c s : Nat) (raw : Int) : Stored :=
  let st := d.stores n c s raw
  ⟨(st.getLast?.map Stored.val).getD 0, st.any Stored.sat⟩

/-! ### Holds (R163 to R165) -/

/-- t_SET in fine steps by gain code (Table 9.2). -/
def settleFine (code : Nat) : Nat := if code == 0 then 1280 else if code == 1 then 1536 else if code == 2 then 2048 else 3072

/-- The leg of a CS or PV channel. -/
def channelLeg (c : Nat) : Option Nat :=
  if c ≤ 0x17 then some c else if 0x20 ≤ c && c ≤ 0x37 then some (c - 0x20) else none

/-- The slot of leg `l` in axis `n`. -/
def Device.slotOf (d : Device) (n l : Nat) : Option Nat := (d.axisLegs n).findIdx? (· == l)

/-- A CS input held at fine step `t` with its leg's low side off, or less than t_SET after its last turn-on (R161). In the first period after an enable no compare set is active, and the engines compute the first set from its measurement (R154). [log 40: DEDUCED] -/
def Device.unsettled (d : Device) (c t : Nat) : Bool :=
  if c ≤ 0x17 then
    let m := d.legOwner c
    match (if m < 8 then d.slotOf m c else none) with
    | some s =>
      let (on, since) := (d.edpOf m).lines.getD (2 * s + 1) (false, 0)
      !(d.edpOf m).unset && (!on || t < since + settleFine (d.rd Ix.CNV_CS_GAIN (c + 1)))
    | none => true
  else false

/-- A channel of a leg inside its refresh window at fine step `t` (R151, R165). -/
def Device.skipped (d : Device) (n c t : Nat) : Bool :=
  match channelLeg c with
  | some l =>
    match d.slotOf n l with
    | some s =>
      let inside := fun (w : Nat × Nat) => w.1 ≤ t && t < w.2
      inside ((d.edpOf n).windows.getD s (0, 0)) || inside ((d.edpOf n).placedWins.getD s (0, 0))
    | none => false
  | none => false

/-- MISSING with a cause (Table 9.6): 0 DROPPED, 1 OVERRUN, 2 SKIPPED, 3 PARITY. -/
def missingFlags (cause : Nat) : Nat := 0x80 + cause * 0x20

/-- The list of a group for an event channel. -/
def Device.holdList (d : Device) (n c : Nat) : List Nat := holdCodes (d.rd (Ix.CNV_GROUP + n) c)

/-- A result set is delivered: it replaces `CNV_LASTn` whole and goes to the engines (R170). -/
def Device.deliver (d : Device) (r : ResultSet) : Device :=
  let ix := Ix.CNV_LAST + r.group
  let d1 := [0, 1, 2, 3].foldl (fun e i => e.wrI ix (i + 1) (r.values.getD i 0)) d
  let fl := (List.range 4).foldl (fun m i => m + r.flags.getD i 0 * 256 ^ i) 0
  let d2 := (d1.wr ix 5 fl).wr ix 6 (r.time % 2 ^ 32)
  { d2 with cnv := { d2.cnv with delivered := d2.cnv.delivered ++ [r] } }

/-- A kind that is posted at the first occurrence after its counter was cleared (R181). -/
def Device.countKind (d : Device) (now n sub kind detail : Nat) : Device :=
  let fresh := d.rd (Ix.CNV_GROUP_CNT + n) sub == 0
  (d.inc (Ix.CNV_GROUP_CNT + n) sub).postIf fresh now (srcByte 7 n) kind detail

/-- A trigger that the group cannot take: an overrun (R164). -/
def Device.overrun (d : Device) (now n t c : Nat) : Device :=
  let codes := d.holdList n c
  if codes.isEmpty then d
  else (d.countKind now n 3 0x41 0).deliver ⟨n, t, codes, codes.map fun _ => 0, codes.map fun _ => missingFlags 1⟩

/-- The group is busy at fine step `t`: an input waits, or it re-tracks (R164). -/
def Device.groupBusy (d : Device) (n t : Nat) : Bool :=
  (d.cnv.holds.any fun h => h.group == n && h.inputs.any fun i => i.waits) || t < d.cnv.retrack.getD n 0

/-- Change the inputs of one hold. -/
def Device.onHold (d : Device) (group time place : Nat) (f : HeldInput → HeldInput) : Device :=
  { d with cnv := { d.cnv with holds := d.cnv.holds.map fun h =>
      if h.group == group && h.time == time then { h with inputs := h.inputs.modify place f } else h } }

/-- Holds whose every input is ready are delivered, in their order (R170). [log 42: DEDUCED] -/
def Device.deliverReady (d : Device) : Device :=
  let ready := d.cnv.holds.filter fun h => h.inputs.all fun i => i.ready
  let rest := d.cnv.holds.filter fun h => !(h.inputs.all fun i => i.ready)
  let d1 := { d with cnv := { d.cnv with holds := rest } }
  ready.foldl (fun e h => e.deliver ⟨h.group, h.time, h.inputs.map (·.code), h.inputs.map (·.value), h.inputs.map (·.flags)⟩) d1

/-! ### Allocation (R167, R168) -/

/-- A burst runs: the monitor path is suspended and no hold is taken (R176 rule 5). -/
def Device.bursting (d : Device) : Bool := d.rd Ix.CNV_IL_STATUS == 2

/-- The slice that serves the monitor path: the highest-numbered one in service (R175 rule 4). [log 42: DEDUCED] -/
def Device.monitorSlice (d : Device) : Nat :=
  (d.cnv.slices.zipIdx).foldl (fun m (s, i) => if s.inService then i else m) 8

/-- The monitor entries in their round robin (R177): 0x70 to 0x7D but for the self-checks of R175, the AUX channels of `CNV_MON_AUX`, the analog reins. -/
def Device.monitorEntries (d : Device) : List Nat :=
  [0x70, 0x71, 0x72, 0x73, 0x74, 0x75, 0x76, 0x78, 0x79, 0x7A, 0x7B, 0x7C, 0x7D]
    ++ (maskList 8 (d.rd Ix.CNV_MON_AUX)).map (0x40 + ·)
    ++ ((List.range 8).filter fun r => d.rd (Ix.REIN_CFG + r) 1 == 1).map (0x60 + ·)

/-- The inputs that wait: hold instant, PRIO that the group had at the hold (R182), group and place, in the order of R168. -/
def Device.waiting (d : Device) : List (Nat × Nat × Nat × Nat) :=
  let all := d.cnv.holds.flatMap fun h =>
    (h.inputs.zipIdx).filterMap fun (i, p) => if i.waits then some (h.time, h.prio, h.group, p) else none
  let le := fun (a b : Nat × Nat × Nat × Nat) =>
    a.1 < b.1 || (a.1 == b.1 && (a.2.1 < b.2.1 || (a.2.1 == b.2.1 && (a.2.2.1 < b.2.2.1 || (a.2.2.1 == b.2.2.1 && a.2.2.2 ≤ b.2.2.2)))))
  sortBy le all

/-- Give slice `s` a job. -/
def Device.setJob (d : Device) (s : Nat) (j : SliceJob) : Device :=
  { d with cnv := { d.cnv with slices := d.cnv.slices.modify s fun x => { x with job := j } } }

/-- A held input starts conversion on slice `s` at fine step `t`: LATE_CONV beyond 1 tick, the longest wait in ticks rounded up, and the group's re-track time after its last input is taken (R164, R169). -/
def Device.startHeld (d : Device) (s t : Nat) (w : Nat × Nat × Nat × Nat) : Device :=
  let (time, _, group, place) := w
  let wait := t - time
  let late := 32 < wait
  let d1 := (d.setJob s (.held group time place)).onHold group time place fun i =>
    { i with waits := false, busy := true, flags := i.flags + bitIf late 4 }
  let d2 := if late then d1.inc (Ix.CNV_GROUP_CNT + group) 1 else d1
  let ticks := ceilDiv wait 32
  let d3 := if d2.rd (Ix.CNV_GROUP_CNT + group) 5 < ticks then d2.wr (Ix.CNV_GROUP_CNT + group) 5 (min ticks 65535) else d2
  let starts := (d3.cnv.starts.filter fun x => t / 32 < x + 160000) ++ [t / 32]
  { d3 with cnv := { d3.cnv with retrack := d3.cnv.retrack.set group (t + 308), starts := starts } }

/-- A calibration conversion is due (R178). -/
def Device.calDue (d : Device) : Bool :=
  d.cnv.calPhase != 0 && d.cnv.calCount < 2 ^ d.rd Ix.CNV_CAL_AVG && !(d.cnv.slices.any fun s => s.job == .calibrate)

/-- Serve the oldest owed monitor entry on slice `s`. -/
def Device.startMonitor (d : Device) (s : Nat) : Device :=
  let es := d.monitorEntries
  let d1 := d.setJob s (.monitor (es.getD (d.cnv.round % es.length) 0x70))
  { d1 with cnv := { d1.cnv with owed := d1.cnv.owed.drop 1, round := (d.cnv.round + 1) % es.length } }

/-- The rule of R168 for one free slice at fine step `t`. [log 42: DEDUCED] -/
def Device.allocSlice (d : Device) (t s : Nat) : Device :=
  match d.cnv.slices[s]? with
  | none => d
  | some sl =>
    if !sl.inService || sl.job != .idle then d
    else
      let mon := s == d.monitorSlice
      let old := match d.cnv.owed with
        | x :: _ => x * 32 + 5120 ≤ t
        | [] => false
      if mon && old then d.startMonitor s
      else match d.waiting with
        | w :: _ => d.startHeld s t w
        | [] =>
          if mon && !d.cnv.owed.isEmpty then d.startMonitor s
          else if sl.due then
            let d1 := d.setJob s .equalise
            { d1 with cnv := { d1.cnv with slices := d1.cnv.slices.modify s fun x => { x with due := false } } }
          else if d.calDue then d.setJob s .calibrate
          else d

/-- Where inputs wait and no slice is free, an equalisation or calibration conversion is aborted for the first of them (R168); the aborted conversion is due again. [log 42: DEDUCED] -/
def Device.preempt (d : Device) (t : Nat) : Device :=
  match d.waiting with
  | [] => d
  | w :: _ =>
    match d.cnv.slices.findIdx? fun s => s.inService && (s.job == .equalise || s.job == .calibrate) with
    | some s =>
      let wasEq := (d.cnv.slices.getD s ⟨false, .idle, 0, false⟩).job == .equalise
      let d1 := d.startHeld s t w
      { d1 with cnv := { d1.cnv with slices := d1.cnv.slices.modify s fun x => { x with due := x.due || wasEq } } }
    | none => d

/-- The waiting inputs of a hold are released as MISSING with cause DROPPED, and the group re-tracks from the instant its window ended (R169 rule 2). -/
def Device.releaseHold (d : Device) (now : Nat) (h : Hold) : Device :=
  let d1 := (h.inputs.filter fun i => i.waits).foldl (fun e i => e.countKind now h.group 2 0x42 i.code) d
  let miss := fun (i : HeldInput) => if i.waits then { i with waits := false, ready := true, value := 0, flags := missingFlags 0 } else i
  let holds := d1.cnv.holds.map fun (g : Hold) =>
    if g.group == h.group && g.time == h.time then { g with inputs := g.inputs.map miss } else g
  { d1 with cnv := { d1.cnv with holds := holds, retrack := d1.cnv.retrack.set h.group (h.time + h.window * 32 + 308) } }

/-- The holds of which an input waits and whose window ended before fine step `t`, or at it where `at_`, are released. -/
def Device.release (d : Device) (now t : Nat) (at_ : Bool) : Device :=
  let due := d.cnv.holds.filter fun h => (h.inputs.any fun i => i.waits) && (h.time + h.window * 32 < t || (at_ && h.time + h.window * 32 == t))
  due.foldl (fun e h => e.releaseHold now h) d

/-- At fine step `t`: what waits beyond its window has been released, then the allocation rule over all slices, then preemption as often as it applies (R168, R169). [log 42: DEDUCED] -/
def Device.alloc (d : Device) (now t : Nat) : Device :=
  if d.bursting || d.cnv.stopped then d
  else
    let d1 := (List.range 8).foldl (fun e s => e.allocSlice t s) (d.release now t false)
    (List.range 8).foldl (fun e _ => e.preempt t) d1

/-- Inputs held at fine step `t` wait again where another group holds at that instant: the ties of R168 are decided among all of them. [log 42: DEDUCED] -/
def Device.retie (d : Device) (t : Nat) : Device :=
  (List.range 8).foldl (fun e s =>
    match (e.cnv.slices.getD s ⟨false, .idle, 0, false⟩).job with
    | .held group time place =>
      if time == t then
        let e1 := (e.setJob s .idle).onHold group time place fun i => { i with waits := true, busy := false }
        { e1 with cnv := { e1.cnv with starts := e1.cnv.starts.dropLast } }
      else e
    | _ => e) d

/-- CAPTURE_HOLD (R163): the group of axis `n` holds at fine step `t` for the event channels `cs` that fire together. -/
def Device.capture (d : Device) (now n t : Nat) (cs : List Nat) : Device :=
  let lists := cs.filter fun c => !(d.holdList n c).isEmpty
  match lists with
  | [] => d
  | c0 :: rest =>
    if d.bursting || d.groupBusy n t then lists.foldl (fun e c => e.overrun now n t c) d
    else
      let union := (lists.flatMap fun c => d.holdList n c).foldl (fun us c => if us.contains c then us else us ++ [c]) []
      let (codes, beyond) := if union.length ≤ 4 then (union, []) else (d.holdList n c0, rest)
      let inputs : List HeldInput := codes.map fun c =>
        if d.skipped n c t then HeldInput.mk c false false 0 (missingFlags 2) true
        else HeldInput.mk c true false 0 (bitIf (d.unsettled c t) 3) false
      let skips := (inputs.filter fun i => i.ready).length
      let hold : Hold := ⟨n, t, d.rd (Ix.CNV_GROUP + n) 6, d.rd (Ix.CNV_GROUP + n) 5, inputs⟩
      let d1 := { d with cnv := { d.cnv with holds := d.cnv.holds ++ [hold], retrack := d.cnv.retrack.set n (t + 308) } }
      let d2 := d1.wr (Ix.CNV_GROUP_CNT + n) 4 (satAdd 32 (d1.rd (Ix.CNV_GROUP_CNT + n) 4) skips)
      beyond.foldl (fun e c => e.overrun now n t c) (((d2.retie t).alloc now t).deliverReady)

/-! ### Completion of a conversion -/

/-- A result carried CLIP (Table 9.12). -/
def Device.poolClip (d : Device) (clip : Bool) : Device := if clip then d.wrBit Ix.CNV_STATUS 0 5 true else d

/-- The run of clipped holds of a channel in a group (R173). -/
def Device.clipRun (d : Device) (now n c : Nat) (clip : Bool) : Device :=
  let k := n * 256 + c
  if clip then
    let d0 := d.poolClip true
    let run := (cellGet d.cnv.clipRuns k).getD 0 + 1
    if run ≥ d.rd Ix.CNV_CLIP_LIMIT then
      { d0 with cnv := { d0.cnv with clipRuns := cellDrop d0.cnv.clipRuns k } }.post now (srcByte 7 n) 0x06 c
    else { d0 with cnv := { d0.cnv with clipRuns := cellPut d0.cnv.clipRuns k run } }
  else { d with cnv := { d.cnv with clipRuns := cellDrop d.cnv.clipRuns k } }

/-- Stores of Table 9.5: each that limits sets SAT of `CNV_STATUS` and adds 1 to `CNV_SAT_COUNT` (R172). [log 44: DEDUCED] -/
def Device.poolSat (d : Device) (stores : List Stored) : Device :=
  stores.foldl (fun e x => if x.sat then (e.wrBit Ix.CNV_STATUS 0 4 true).inc Ix.CNV_SAT_COUNT else e) d

/-- A raw code at an end of the range (R173). -/
def clipped (raw : Int) : Bool := raw == -8192 || raw == 8191

/-- CLIP of a result of channel `c`: its raw code, or its common mode outside the band (R160, R173). -/
def Device.clips (d : Device) (c : Nat) (raw : Int) : Bool := clipped raw || (c ≤ 0x17 && d.cnv.outside.contains c)

/-- A slice result discarded for parity (R7). -/
def Device.parityLost (d : Device) (now s : Nat) : Device := (d.inc Ix.GTH_PARITY_ERR).post now 0x78 0x40 s

/-- The result of a held input (R169 rule 3, R172, R173). -/
def Device.heldDone (d : Device) (now s group time place : Nat) (raw : Int) (parityOk : Bool) : Device :=
  let code := match d.cnv.holds.find? fun h => h.group == group && h.time == time with
    | some h => (h.inputs.getD place ⟨0, false, false, 0, 0, true⟩).code
    | none => 0
  if parityOk then
    let r := d.result group code s raw
    let clip := d.clips code raw
    let d1 := (d.poolSat (d.stores group code s raw)).clipRun now group code clip
    d1.onHold group time place fun i => { i with busy := false, ready := true, value := r.val, flags := i.flags + bitIf clip 2 + bitIf r.sat 1 }
  else
    (d.parityLost now s).onHold group time place fun i => { i with busy := false, ready := true, value := 0, flags := missingFlags 3 }

/-- The place of a monitor entry among the latest results: AUX0 to AUX7, the analog reins, the Saddle temperature sensors. -/
def monPlace (code : Nat) : Option Nat :=
  if 0x40 ≤ code && code ≤ 0x47 then some (code - 0x40)
  else if 0x60 ≤ code && code ≤ 0x67 then some (code - 0x60 + 8)
  else if 0x78 ≤ code && code ≤ 0x7D then some (code - 0x78 + 16)
  else none

/-- The latest monitor conversion of an entry. -/
def Device.monKeep (d : Device) (code : Nat) (m : Mon) : Device :=
  match monPlace code with
  | some p => { d with cnv := { d.cnv with monitor := d.cnv.monitor.set p m } }
  | none => d

/-- A monitor result: stage 2 only; supplies go to the SUP objects, and AUX channels, analog reins and Saddle temperatures to their latest value, which the thermal manager and the services read (R177, R320). `mv` is the reading in millivolts. [log 20: DEDUCED] -/
def Device.monitorDone (d : Device) (s code : Nat) (raw : Int) (mv : Nat) : Device :=
  let x := d.factory s raw
  let d1 := (d.poolSat [x]).poolClip (clipped raw)
  if code == 0x70 then d1.wr Ix.SUP_VBAT 0 mv
  else if code == 0x71 then d1.wr Ix.SUP_VGD 0 mv
  else if code == 0x72 then d1.wr Ix.SUP_VCC5 0 mv
  else if code == 0x73 then d1.wr Ix.SUP_VHOLD 0 mv
  else if code == 0x74 then d1.wr Ix.SUP_VIO 0 mv
  else d1.monKeep code ⟨x.val, clipped raw, false⟩

/-- A monitor conversion discarded for parity is missing (R7). -/
def Device.monitorLost (d : Device) (now s code : Nat) : Device :=
  match monPlace code with
  | some p => (d.parityLost now s).monKeep code ⟨(d.cnv.monitor.getD p Mon.rest).value, false, true⟩
  | none => d.parityLost now s

/-- A calibration conversion completes (R178, R179). -/
def Device.calConverted (d : Device) (now s : Nat) (raw : Int) (parityOk : Bool) : Device :=
  let clip := d.clips (d.rd Ix.CNV_CAL_CHAN) raw
  let x := d.factory s raw
  let d1 := if parityOk then (d.poolSat [x]).poolClip clip else d.parityLost now s
  { d1 with cnv := { d1.cnv with calCount := d1.cnv.calCount + 1, calSum := d1.cnv.calSum + (if parityOk then x.val else 0), calBad := d1.cnv.calBad || clip || !parityOk } }

/-- A slice completes a conversion at fine step `t`: its result goes where it belongs and the slice is free (R168, R170). [log 42: DEDUCED] -/
def Device.sliceDone (d : Device) (now t s : Nat) (raw : Int) (parityOk : Bool) (mv : Nat) : Device :=
  if d.cnv.stopped then d
  else match (d.cnv.slices.getD s ⟨false, .idle, 0, false⟩).job with
  | .idle => d
  | .held g h p => ((d.setJob s .idle).heldDone now s g h p raw parityOk).alloc now t |>.deliverReady
  | .monitor code =>
    let d1 := d.setJob s .idle
    (if parityOk then d1.monitorDone s code raw mv else d1.monitorLost now s code).alloc now t |>.deliverReady
  | .equalise =>
    let d1 := d.setJob s .idle
    (if parityOk then d1 else d1.parityLost now s).alloc now t |>.deliverReady
  | .calibrate => ((d.setJob s .idle).calConverted now s raw parityOk).alloc now t |>.deliverReady

/-- DROPPED (R169 rule 2): the waits of a group's inputs have reached its window without a slice, which the rule of R168 at that instant would have given first. -/
def Device.dropWaiting (d : Device) (now n : Nat) : Device :=
  let due := (d.alloc now (now * 32)).cnv.holds.filter fun h => h.group == n && (h.inputs.any fun i => i.waits) && h.time + h.window * 32 ≤ now * 32
  (due.foldl (fun e h => e.releaseHold now h) (d.alloc now (now * 32))).deliverReady

/-- MONITOR_CONVERSION_OWED (R167): suspended conversions stay owed through a burst (R176 rule 5). -/
def Device.monitorOwed (d : Device) (now : Nat) : Device :=
  { d with cnv := { d.cnv with owed := d.cnv.owed ++ [now] } }.alloc now (now * 32)

/-! ### Equalisation and slice checks (R175) -/

/-- EQUALISATION_DUE: slice `s` has its conversion due, its trim becomes `trim` (ps, within ±100), and its readings of ZERO and VREFC/2 were within 8 LSB or not. [log 43: DESIGN CHOICE] -/
def Device.equalise (d : Device) (now s : Nat) (trim : Int) (checkOk : Bool) : Device :=
  match d.cnv.slices[s]? with
  | none => d
  | some sl =>
    if !sl.inService then d
    else
      let t := clampI (-100) 100 trim
      let atEnd := t == -100 || t == 100
      let d0 := d.wrI Ix.CNV_SKEW (s + 1) t
      let anyEnd := (List.range 8).any fun k => (d0.rdS 8 Ix.CNV_SKEW (k + 1)).natAbs == 100
      let d1 := d0.wrBit Ix.CNV_STATUS 0 1 anyEnd
      let d2 := d1.postIf (atEnd && d.rdS 8 Ix.CNV_SKEW (s + 1) != t) now 0x78 0x43 s
      let fails := if checkOk then 0 else sl.fails + 1
      let d3 := { d2 with cnv := { d2.cnv with slices := d2.cnv.slices.modify s fun x => { x with fails := fails, due := true } } }
      if fails ≥ 3 then
        let d4 := { d3 with cnv := { d3.cnv with slices := d3.cnv.slices.modify s fun x => { x with inService := false } } }
        ((d4.wrBit Ix.CNV_SLICES 0 s false).wrBit Ix.CNV_STATUS 0 2 true).post now 0x78 0x45 s
      else d3.alloc now (now * 32)

/-! ### Interleaved bursts (R176) -/

/-- What a write to `CNV_IL_CMD` is answered (R176 rule 2). -/
def Device.burstStatus (d : Device) (now : Nat) : Nat :=
  if axes.any fun n => d.countsEnabled n && !d.manual n then 0x07
  else if d.bitOf Ix.CNV_STATUS 2 || d.bitOf Ix.CNV_STATUS 3 then 0x0F
  else
    let recent := match d.cnv.burstEnd with
      | some t => now < t + 160000
      | none => false
    if recent || d.bitOf Ix.CNV_STATUS 0 then 0x0A else 0

/-- The burst starts: `CNV_IL_T0` holds the time of sample 0. -/
def Device.burstStart (d : Device) (t : Nat) : Device := (d.wr Ix.CNV_IL_STATUS 0 2).wr Ix.CNV_IL_T0 0 (t % 2 ^ 32)

/-- Arm a burst: it starts at once with trigger 0xFF, else at the next firing of its event channel (R176 rule 3). -/
def Device.burstArm (d : Device) (now : Nat) : Device :=
  let d1 := (d.wr Ix.CNV_IL_STATUS 0 1).wrBit Ix.CNV_STATUS 0 0 true
  if d.rd Ix.CNV_IL_TRIG == 0xFF then d1.burstStart (now * 32) else d1

/-- The group whose bases a burst channel's result takes: that of the axis that owns its leg, group 0 where none does. [log 44: DEDUCED] -/
def Device.burstGroup (d : Device) : Nat :=
  match channelLeg (d.rd Ix.CNV_IL_CHAN) with
  | some l => if d.legOwner l < 8 then d.legOwner l else 0
  | none => 0

/-- Sample `i` of a burst, from slice `i mod 8`: its result fills entry `i`, or it is discarded for parity and the entry keeps what it held (R7, R176 rules 4 and 6). [log 44: DEDUCED] -/
def Device.burstSample (d : Device) (now i : Nat) (raw : Option Int) : Device :=
  let c := d.rd Ix.CNV_IL_CHAN
  match raw with
  | none => d.parityLost now (i % 8)
  | some r =>
    let y := d.result d.burstGroup c (i % 8) r
    let d1 := (d.poolSat (d.stores d.burstGroup c (i % 8) r)).poolClip (d.clips c r)
    d1.setTab Ix.CNV_IL_DATA 0 ((d1.tab Ix.CNV_IL_DATA).set i (pat 16 y.val))

/-- The burst fills entries of `CNV_IL_DATA` from entry 0. -/
def Device.burstFill (d : Device) (now : Nat) (raws : List (Option Int)) : Device :=
  (raws.zipIdx).foldl (fun e x => e.burstSample now x.2 x.1) d

/-- The end of a burst, done (3) or aborted (4): the monitor path resumes (R176 rules 5 and 7). -/
def Device.burstStop (d : Device) (now status : Nat) : Device :=
  let d1 := (d.wr Ix.CNV_IL_STATUS 0 status).wrBit Ix.CNV_STATUS 0 0 false
  { d1 with cnv := { d1.cnv with burstEnd := some now } }.alloc now (now * 32)

/-- How many samples of the running burst have filled their entries by Pacer count `now`: sample `i` was taken round(102.4 i) fine steps after sample 0, and its conversion and correction take 175 ns (R176 rule 4, Table 9.3). -/
def Device.burstTaken (d : Device) (now : Nat) : Nat :=
  let past := (now * 32 + 2 ^ 32 - d.rd Ix.CNV_IL_T0) % 2 ^ 32
  if past < 896 then 0 else min (d.rd Ix.CNV_IL_COUNT) ((past - 896) * 5 / 512 + 1)

/-- An abort: the entries already filled are kept. What those samples read is not an operand of the command, so their raw codes are free values (R176 rule 7). [log 43: DESIGN CHOICE] -/
def Device.burstAbort (d : Device) (now : Nat) : Device :=
  let k := if d.bursting then d.burstTaken now else 0
  let raws := (List.range k).map fun i => some (sgn 14 ((Config.freeWord (d.fresh + i)).toNat % 2 ^ 14))
  ({ d with fresh := d.fresh + k }.burstFill now raws).burstStop now 4

/-- An event channel fires: a burst armed on it starts (R176 rule 3). -/
def Device.burstTrigger (d : Device) (n c t : Nat) : Device :=
  if d.rd Ix.CNV_IL_STATUS == 1 && d.rd Ix.CNV_IL_TRIG == 4 * n + (c - 1) then d.burstStart t else d

/-! ### System calibration (R178, R179) -/

/-- The leg of calibration channel `j`, for CS and PV. -/
def calLeg (j : Nat) : Option Nat := if j < 24 then some j else if j < 48 then some (j - 24) else none

/-- The channel's leg belongs to an enabled axis that is not in manual edge mode (R178). -/
def Device.calBlocked (d : Device) (j : Nat) : Bool :=
  match calLeg j with
  | some l => d.legOwner l < 8 && d.countsEnabled (d.legOwner l) && !d.manual (d.legOwner l)
  | none => false

/-- A write of `CNV_CAL_CHAN` returns the status to 0: a measurement that runs is given up, and its conversion with it (R178). -/
def Device.calReset (d : Device) : Device :=
  let slices := d.cnv.slices.map fun x => if x.job == .calibrate then { x with job := .idle } else x
  { d with cnv := { d.cnv with calPhase := 0, slices := slices } }.wr Ix.CNV_CAL_STATUS 0 0

/-- What ZERO (1), FULL (2) or APPLY (3) is answered (R178). -/
def Device.calStatus (d : Device) (cmd : Nat) : Nat :=
  let st := d.rd Ix.CNV_CAL_STATUS
  if cmd == 3 then (if !d.allDisabled then 0x07 else if st != 3 then 0x04 else 0)
  else if d.calBlocked (d.rd Ix.CNV_CAL_CHAN) then 0x07
  else if cmd == 1 then (if st == 1 then 0x04 else 0)
  else if st == 2 || st == 3 then 0 else 0x04

/-- A measurement starts. -/
def Device.calStart (d : Device) (now phase : Nat) : Device :=
  let d1 := d.wr Ix.CNV_CAL_STATUS 0 1
  { d1 with cnv := { d1.cnv with calPhase := phase, calCount := 0, calSum := 0, calBad := false } }.alloc now (now * 32)

/-- The temperature of the channel's group sensor at FULL; an AUX channel has no group, so its temperature is a free value. [log 43: DESIGN CHOICE] -/
def Device.calTemp (d : Device) : Nat × Device :=
  match calLeg (d.rd Ix.CNV_CAL_CHAN) with
  | some l => (d.rd Ix.THM_READING (4 + l / 4 + 1), d)
  | none => d.free 16

/-- CAL_MEASURE_DONE: the mean, and after FULL the offset and gain (R179). [log 43: DESIGN CHOICE] -/
def Device.calDone (d : Device) : Device :=
  let k := d.rd Ix.CNV_CAL_AVG
  if d.cnv.calPhase == 0 || d.cnv.calCount < 2 ^ k then d
  else
    let phase := d.cnv.calPhase
    let m := divRne (d.cnv.calSum * 16) ((2 ^ k : Nat) : Int)
    let d1 := { d with cnv := { d.cnv with calPhase := 0 } }
    if d.cnv.calBad then d1.wr Ix.CNV_CAL_STATUS 0 8
    else if phase == 1 then (d1.wrI Ix.CNV_CAL_RESULT 1 m).wr Ix.CNV_CAL_STATUS 0 2
    else
      let m0 := d1.rdS 32 Ix.CNV_CAL_RESULT 1
      let span := m - m0
      let off := divRne m0 16
      let gain := if span > 0 then divRne (d1.rdS 16 Ix.CNV_CAL_REF * 65536) span
        else if span < 0 then divRne (-(d1.rdS 16 Ix.CNV_CAL_REF * 65536)) (-span) else 0
      let (temp, d2) := d1.calTemp
      let d3 := d2.wrI Ix.CNV_CAL_RESULT 2 m |>.wrI Ix.CNV_CAL_RESULT 3 (clampI lo16 hi16 gain) |>.wrI Ix.CNV_CAL_RESULT 4 (clampI lo16 hi16 off)
        |>.wr Ix.CNV_CAL_RESULT 5 temp
      d3.wr Ix.CNV_CAL_STATUS 0 3

/-- The refusal code of APPLY, 0 for none (R179, Table 9.7). -/
def Device.calRefusal (d : Device) : Nat :=
  let span := d.rdS 32 Ix.CNV_CAL_RESULT 2 - d.rdS 32 Ix.CNV_CAL_RESULT 1
  let gain := d.rdS 16 Ix.CNV_CAL_RESULT 3
  let off := d.rdS 16 Ix.CNV_CAL_RESULT 4
  if span.natAbs < 16 * 8192 then 5
  else if gain < 3072 || 5120 < gain then 6
  else if off.natAbs > 2048 then 7 else 0

/-! ### The front-end commit (R182) -/

/-- The conditions of R182, in order. -/
def feConds (d m : Device) : List Bool :=
  let live := fun l => d.legOwner l < 8 && d.countsEnabled (d.legOwner l)
  [ (List.range 24).all fun l => m.rd Ix.CNV_CS_GAIN (l + 1) ≤ 3 && m.rd Ix.CNV_PV_RANGE (l + 1) ≤ 2,
    axes.all fun n => match m.axisLegs n with
      | [] => true
      | l0 :: rest => rest.all fun l => m.rd Ix.CNV_CS_GAIN (l + 1) == m.rd Ix.CNV_CS_GAIN (l0 + 1),
    (List.range 24).all fun l => !live l || m.rd Ix.CNV_CS_GAIN (l + 1) == d.rd Ix.CNV_CS_GAIN (l + 1),
    (List.range 24).all fun l => !live l || m.rd Ix.CNV_PV_RANGE (l + 1) == d.rd Ix.CNV_PV_RANGE (l + 1),
    axes.all fun n => [1, 2, 3, 4].all fun c => holdListOk (m.rd (Ix.CNV_GROUP + n) c),
    axes.all fun n =>
      let w := m.rd (Ix.CNV_GROUP + n) 5
      2 ≤ w && w ≤ 1600 && m.rd (Ix.CNV_GROUP + n) 6 ≤ 7 ]

/-- The enable check of R166: no hold list names a CS or PV channel of a leg the axis does not own, and no scale is 8 or more. -/
def Device.captureOk (d : Device) (n : Nat) : Bool :=
  let codes := [1, 2, 3, 4].flatMap fun c => d.holdList n c
  let owned := codes.all fun c => match channelLeg c with
    | some l => d.legOwner l == n
    | none => true
  let big := fun fs => 8 * d.voltBase n ≤ fs
  owned && (d.axisLegs n).all (fun l => !big (rangeMv (d.rd Ix.CNV_PV_RANGE (l + 1)))) && !(codes.contains 0x50 && big 72000)

/-! ### Meanings that reach no engine -/

/-- MONITOR_CONVERSION_OWED (R167). -/
def execMonitorConversionOwed (s : State) : Host.Outcome State Fault Refusal := s.onRunning fun now d => d.monitorOwed now

/-- EQUALISATION_DUE (R175). -/
def execEqualisationDue (slice : Fin 8) (trim : Int) (checkOk : Bool) (s : State) : Host.Outcome State Fault Refusal :=
  s.onRunning fun now d => d.equalise now slice trim checkOk

/-- CS_COMMON_MODE (R160): the input of CS `leg` leaves the band (`outside`), or returns to it. -/
def execCsCommonMode (leg : Fin 24) (outside : Bool) (s : State) : Host.Outcome State Fault Refusal :=
  s.onRunning fun now d =>
    let had := d.cnv.outside.contains leg.val
    if outside then
      if had then d else { d with cnv := { d.cnv with outside := d.cnv.outside ++ [leg.val] } }.post now (srcByte 6 (leg / 4)) 0x40 leg
    else { d with cnv := { d.cnv with outside := d.cnv.outside.filter (· != leg.val) } }

/-- IL_BURST_DONE (R176): the raw codes of the burst's samples, none for one that arrived with a parity error (R7). -/
def execIlBurstDone (raws : List (Option Int)) (s : State) : Host.Outcome State Fault Refusal :=
  s.onRunning fun now d => if d.bursting then (d.burstFill now (raws.take (d.rd Ix.CNV_IL_COUNT))).burstStop now 3 else d

/-- CAL_MEASURE_DONE (R179). -/
def execCalMeasureDone (s : State) : Host.Outcome State Fault Refusal := s.onRunning fun _ d => d.calDone

end Sys2Proof.Machine
end

