-- ==== Sys2Proof/Machine/Law.lean ====
section
/-! DEFINITION. The arithmetic that the control and field engines share: the PI law of R188 to R194, the tables of R196 and R197, the sine of R230, the transforms of R229 and R231, and the tracker of R239. -/

namespace Sys2Proof.Machine

/-! ### The PI law -/

/-- Kp_i. -/
def SlotCoef.kp (c : SlotCoef) (i : Nat) : Int := sgn 16 (c.table.getD i 0 / 65536)

/-- Ki_i. -/
def SlotCoef.ki (c : SlotCoef) (i : Nat) : Int := sgn 16 (c.table.getD i 0)

/-- The segment width w = 2^(10 − S). -/
def SlotCoef.width (c : SlotCoef) : Nat := 2 ^ (10 - c.span)

/-- The segment of an error (R189). -/
def SlotCoef.segment (c : SlotCoef) (e : Int) : Nat := min 63 (e.natAbs / c.width)

/-- A breakpoint: B_i of the Kp column or C_i of the Ki column, each one ACC40 addition to the one before it (R190). -/
def SlotCoef.breakpoint (c : SlotCoef) (gain : Nat → Int) (i : Nat) : Acc40 :=
  (List.range i).foldl (fun (a : Acc40) j => a.add (mulFG c.width (gain j))) Acc40.zero

/-- A piecewise-linear odd function of the error, in ACC40 (R190). -/
def SlotCoef.odd (c : SlotCoef) (gain : Nat → Int) (e : Int) : Int :=
  let i := c.segment e
  sgnOf e * ((c.breakpoint gain i).add (mulFG ((e.natAbs : Int) - (i * c.width : Nat)) (gain i))).val

/-- P(e). -/
def SlotCoef.prop (c : SlotCoef) (e : Int) : Int := c.odd c.kp e

/-- q(e), the shift rounding to the ACC40 LSB with ties to even. -/
def SlotCoef.incr (c : SlotCoef) (e : Int) : Int := shiftRne (c.odd c.ki e) c.shift

/-- OUT_MIN and OUT_MAX as ACC40 values. -/
def SlotCoef.accMin (c : SlotCoef) : Int := c.outMin * 32768

/-- OUT_MAX as an ACC40 value. -/
def SlotCoef.accMax (c : SlotCoef) : Int := c.outMax * 32768

/-- The output store of R191 step 4. -/
def SlotCoef.limit (c : SlotCoef) (u : Int) : Stored := store u 15 c.outMin c.outMax

/-- One sample of the law (R191). -/
def SlotCoef.sample (c : SlotCoef) (integ e : Int) : Sample :=
  let q := c.incr e
  let p := c.prop e
  let i1 := clampI c.accMin c.accMax (Acc40.add ⟨integ, false⟩ q).val
  let u1 := (Acc40.add ⟨p, false⟩ i1).val
  let hold := (c.accMax < u1 && 0 < q) || (u1 < c.accMin && q < 0)
  let i2 := if hold then integ else i1
  let u := if hold then (Acc40.add ⟨p, false⟩ integ).val else u1
  let y := c.limit u
  { err := e, seg := c.segment e, integ := i2, sum := u, out := y.val
    high := y.sat && y.val == c.outMax && c.accMax < u, low := y.sat && u < c.accMin
    hold := hold, sat := y.sat, state := 4, rEff := 0, missing := false }

/-- The first AUTO sample after MANUAL (R194): the integrator is preset so that the output equals `um`. -/
def SlotCoef.presetSample (c : SlotCoef) (um e : Int) : Sample :=
  let p := c.prop e
  let want := um * 32768 - p
  let i := clampI c.accMin c.accMax want
  let u := (Acc40.add ⟨p, false⟩ i).val
  let y := c.limit u
  { err := e, seg := c.segment e, integ := i, sum := u, out := y.val
    high := y.sat && c.accMax < u, low := y.sat && u < c.accMin, hold := false, sat := y.sat || i != want, state := 4, rEff := 0, missing := false }

/-- A slot in OFF: its output is 0. -/
def Sample.off (err : Int) (seg state : Nat) : Sample := ⟨err, seg, 0, 0, 0, false, false, false, false, state, 0, false⟩

/-- A slot in MANUAL: its manual output, limited; nothing else is computed. -/
def SlotCoef.manualSample (c : SlotCoef) (err : Int) (seg : Nat) (integ m : Int) : Sample :=
  let y := clampI c.outMin c.outMax m
  ⟨err, seg, integ, y * 32768, y, false, false, false, false, 2, 0, false⟩

/-- The error of slot 3 in Q2.15: the POS32 difference scaled by 2^(15 − POS_SHIFT) (R188 item 3). -/
def posError (ref fb shift : Nat) : Stored :=
  let x := posDiff ref fb
  if shift ≤ 15 then store (x * (2 ^ (15 - shift) : Nat)) 0 (-65536) 65535
  else store x (shift - 15) (-65536) 65535

/-- A SPEED32 stored to FRAC16 by dropping 16 bits, with its limit (R188 item 2). -/
def speedStore (s : Int) : Stored := store s 16 lo16 hi16

/-- The value of that store. -/
def speedFrac (s : Int) : Int := (speedStore s).val

/-- The effective reference moves toward its target by at most `step` (R193). -/
def rampToward (r target step : Int) : Int :=
  if r < target then min target (r + step) else max target (r - step)

/-! ### Friction and cogging tables (R197) -/

/-- K = round(E × 2^32 / M) for a table of E entries with span M. -/
def tableScale (entries span : Nat) : Nat := (divRne ((entries : Int) * 2 ^ 32) (max 1 span)).toNat

/-- The interpolated value of a table of FRAC16 entries at phase `phase`. -/
def tableValue (tab : List Nat) (entries span phase : Nat) : Int :=
  let y : Nat := phase * tableScale entries span
  let x : Nat := y / 2 ^ 32 % entries
  let f : Nat := y / 2 ^ 24 % 256
  let t := fun (i : Nat) => sgn 16 (tab.getD (i % entries) 0)
  t x + divRne ((t (x + 1) - t x) * (f : Int)) 256

/-! ### Sine and transforms -/

/-- sin θ of an ANGLE16 by the table of R230. -/
def sin16 (theta : Nat) : Int :=
  let i : Nat := theta % 65536 / 16
  let f : Nat := theta % 16
  sineEntry i + divRne ((sineEntry (i + 1) - sineEntry i) * (f : Int)) 16

/-- cos θ. -/
def cos16 (theta : Nat) : Int := sin16 (theta + 0x4000)

/-- α and β of three phase values (R229). -/
def clarke (u v w : Int) : Stored × Stored :=
  (frac16Of (21845 * u - 10923 * (v + w)), frac16Of (18919 * (v - w)))

/-- d and q at an angle (R229). -/
def park (a b : Int) (theta : Nat) : Stored × Stored :=
  (frac16Of (a * cos16 theta + b * sin16 theta), frac16Of (-(a * sin16 theta) + b * cos16 theta))

/-- The angle increment per period of a SPEED32 speed, stored to an I32 with its limit (R32). -/
def angleStore (speed : Int) (kAngle : Nat) : Stored := store (speed * kAngle) 31 lo32 hi32

/-- The increment itself. -/
def angleInc (speed : Int) (kAngle : Nat) : Int := (angleStore speed kAngle).val

/-- Advance a 32-bit angle. -/
def addAngle32 (theta : Nat) (inc : Int) : Nat := pat 32 ((theta : Int) + inc)

/-- The ANGLE16 of a 32-bit angle: its upper 16 bits (R31). -/
def angle16 (theta : Nat) : Nat := theta % 2 ^ 32 / 65536

/-- A tracker's settings (R239). -/
structure TrackerCfg where
  kp    : Int
  ki    : Int
  shift : Nat

/-- One update of a tracker on the error ε (R239): the integral limited to ±1, the speed stored to SPEED32 with its limit, and the angle at the next hold. The flag is the SAT of R29. -/
def Tracker.step (t : Tracker) (c : TrackerCfg) (kAngle : Nat) (eps : Int) : Tracker × Bool :=
  let one : Int := 2 ^ 30
  let i := clampI (-one) one (t.integ + shiftRne (mulFG eps c.ki) c.shift)
  let w := store ((Acc40.add ⟨mulFG eps c.kp, false⟩ i).val * 2) 0 lo32 hi32
  let inc := angleStore w.val kAngle
  (⟨i, w.val, addAngle32 t.theta inc.val⟩, w.sat || inc.sat)

/-- A tracker whose angle runs on at its last speed (R226). -/
def Tracker.coast (t : Tracker) (kAngle : Nat) : Tracker := { t with theta := addAngle32 t.theta (angleInc t.omega kAngle) }

/-- A tracker preset to an ANGLE16 and a SPEED32. -/
def Tracker.preset (theta : Nat) (omega : Int) : Tracker := ⟨shiftRne omega 1, omega, theta % 65536 * 65536⟩

end Sys2Proof.Machine
end

