-- ==== Sys2Proof/Machine/Control.lean ====
section
/-! DEFINITION. The control engine of an axis (R184 to R208): coefficient banks, sources and references, modes, computation cycles, slots 2 to 5 with their deadlines, and the plausibility supervisor. -/

namespace Sys2Proof.Machine

/-! ### Access -/

/-- The engines of axis `n`. -/
def Device.engine (d : Device) (n : Nat) : Engine := d.eng.toList.getD n Engine.rest

/-- Change the engines of axis `n`. -/
def Device.onEngine (d : Device) (n : Nat) (f : Engine → Engine) : Device :=
  if h : n < 8 then { d with eng := d.eng.set n (f (d.eng[n])) } else d

/-- The control engine of axis `n`. -/
def Device.ce (d : Device) (n : Nat) : Ce := (d.engine n).ce
/-- Change it. -/
def Device.onCe (d : Device) (n : Nat) (f : Ce → Ce) : Device := d.onEngine n fun e => { e with ce := f e.ce }
/-- The correction unit of axis `n`. -/
def Device.sc (d : Device) (n : Nat) : Sc := (d.engine n).sc
/-- Change it. -/
def Device.onSc (d : Device) (n : Nat) (f : Sc → Sc) : Device := d.onEngine n fun e => { e with sc := f e.sc }
/-- The field engine of axis `n`. -/
def Device.fe (d : Device) (n : Nat) : Fe := (d.engine n).fe
/-- Change it. -/
def Device.onFe (d : Device) (n : Nat) (f : Fe → Fe) : Device := d.onEngine n fun e => { e with fe := f e.fe }
/-- The start procedure of axis `n`. -/
def Device.st (d : Device) (n : Nat) : St := (d.engine n).st
/-- Change it. -/
def Device.onSt (d : Device) (n : Nat) (f : St → St) : Device := d.onEngine n fun e => { e with st := f e.st }
/-- The generator of axis `n`. -/
def Device.prf (d : Device) (n : Nat) : Prf := (d.engine n).prf
/-- Change it. -/
def Device.onPrf (d : Device) (n : Nat) (f : Prf → Prf) : Device := d.onEngine n fun e => { e with prf := f e.prf }

/-- A slot at rest that keeps its run of misses (Table 10.3: counters are kept). -/
def SlotRun.cleared (x : SlotRun) : SlotRun := { SlotRun.rest with missRun := x.missRun, reported := x.reported }

/-- Slot `s` of axis `n`. -/
def Device.slot (d : Device) (n s : Nat) : SlotRun := (d.ce n).slots.getD s SlotRun.rest
/-- Change it. -/
def Device.onSlot (d : Device) (n s : Nat) (f : SlotRun → SlotRun) : Device :=
  d.onCe n fun c => { c with slots := c.slots.modify s f }

/-- A three-phase axis. -/
def Device.threePhase (d : Device) (n : Nat) : Bool := d.axisType n == 1
/-- A stepper axis (R277). -/
def Device.stepper (d : Device) (n : Nat) : Bool := d.axisType n == 2
/-- A brushed axis. -/
def Device.brushed (d : Device) (n : Nat) : Bool := d.axisType n == 3

/-- The start procedure lets slots 2 to 5 compute: state RUN, or an axis without a procedure (R257). -/
def Device.slotsRun (d : Device) (n : Nat) : Bool := !d.threePhase n || d.rdA Ix.AX_ST_STATE n == 8

/-! ### Coefficient banks (R198 to R200) -/

/-- The positions of the control engine's Staged set on axis `n` (R198). -/
def ceKey (n : Nat) (k : ObjKey) : Bool :=
  let i := keyIndex k
  (axIx Ix.AX_CE_SRC n ≤ i && i ≤ axIx Ix.AX_CE_FF_CFG n) || (axIx Ix.AX_CE_GAIN_TABLE n ≤ i && i ≤ axIx Ix.AX_CE_COGGING n)

/-- A bank's value of an object of axis `n`. -/
def Bank.rd (b : Bank) (index n sub : Nat) : Pattern := readCells b.objs (axIx index n) sub

/-- A bank's table of axis `n`. -/
def Bank.tab (b : Bank) (index n sub : Nat) : List Nat :=
  match cellGet b.tabs (keyOf (axIx index n) sub) with
  | some v => v
  | none => tableDefault (axIx index n)

/-- The number of the active bank: 0 A, 1 B. -/
def Device.bankNo (d : Device) (n : Nat) : Nat := if d.bitOfA Ix.AX_CE_STATUS n 1 then 1 else 0

/-- The active bank of axis `n`. -/
def Device.bank (d : Device) (n : Nat) : Bank := if d.bankNo n == 1 then (d.ce n).bankB else (d.ce n).bankA

/-- The other bank. -/
def Device.otherBank (d : Device) (n : Nat) : Bank := if d.bankNo n == 1 then (d.ce n).bankA else (d.ce n).bankB

/-- A swap is pending, from its commit or bank selection on. [log 45: DEDUCED] -/
def Device.swapPending (d : Device) (n : Nat) : Bool := d.bitOfA Ix.AX_CE_STATUS n 2

/-- A pending swap may land: its bank is written (R198, R204). -/
def Device.swapReady (d : Device) (n : Nat) : Bool := d.swapPending n && !(d.ce n).writing

/-- 2π × 10^21. -/
def twoPi : Int := 6283185307179586476925

/-- round(T × ω_b × 2^k / x) at the current-loop rate of axis `n`, 0 without a rate (R205, R238). -/
def Device.rateScale (d : Device) (n k : Nat) (x : Int) : Int :=
  match d.loopPeriod n with
  | some t => if x ≤ 0 then 0 else divRne (twoPi * d.rdA Ix.AX_W_BASE n * t * 2 ^ k) (10 ^ 21 * 1000 * 5120000000 * x)
  | none => 0

/-- G of an inductance held as GAIN16 (R205): before its limit to GAIN16. [log 41: DEDUCED, 47: DEDUCED] -/
def Device.modelG (d : Device) (n : Nat) (l : Int) : Int := d.rateScale n 24 l

/-- The model of a device's accepted set is usable on axis `n` (R211; condition 6 of R198). [log 47: DEDUCED] -/
def Device.modelUsable (d : Device) (n : Nat) : Bool :=
  let ld := d.rdAS 16 Ix.AX_CE_MODEL n 2
  let lq := d.rdAS 16 Ix.AX_CE_MODEL n 3
  let qOk := !d.threePhase n || (0 < lq && d.modelG n lq ≤ hi16)
  0 < ld && d.modelG n ld ≤ hi16 && qOk

/-- The snapshot of the accepted set that a bank write stores, with G_d and G_q (R198, R205, R211). A winding axis forms both from Ld. [log 47: DEDUCED] -/
def Device.ceSnapshot (d : Device) (n : Nat) : Bank :=
  let objs := d.objs.filter fun (k, _) => ceKey n k
  let tabs := d.tabs.filter fun (k, _) => ceKey n k
  let ld := d.rdAS 16 Ix.AX_CE_MODEL n 2
  let lq := if d.threePhase n then d.rdAS 16 Ix.AX_CE_MODEL n 3 else ld
  if d.modelUsable n then
    let g := fun (cells : List (ObjKey × Pattern)) (sub : Nat) (x : Int) => writeCells cells (axIx Ix.AX_CE_MODEL_G n) sub (pat 16 (d.modelG n x))
    ⟨g (g objs 1 ld) 2 lq, tabs⟩
  else ⟨objs, tabs⟩

/-- `AXn_CE_MODEL_G` reports what a bank write computed. -/
def Device.showModelG (d : Device) (n : Nat) (b : Bank) : Device :=
  (d.wrA Ix.AX_CE_MODEL_G n 1 (b.rd Ix.AX_CE_MODEL_G n 1)).wrA Ix.AX_CE_MODEL_G n 2 (b.rd Ix.AX_CE_MODEL_G n 2)

/-- The accepted set and what is computed from it stand in the inactive bank (R198). -/
def Device.finishBank (d : Device) (n : Nat) : Device :=
  let b := d.ceSnapshot n
  let d1 := d.onCe n fun c => if d.bankNo n == 1 then { c with bankA := b, writing := false } else { c with bankB := b, writing := false }
  d1.showModelG n b

/-- The device with a bank's set in place of the accepted one, for the checks of R200. -/
def Device.withBank (d : Device) (n : Nat) (b : Bank) : Device :=
  let keep := d.objs.filter fun (k, _) => !ceKey n k
  let keepT := d.tabs.filter fun (k, _) => !ceKey n k
  let objs := (b.objs.filter fun (k, _) => ceKey n k).foldl (fun cs (k, v) => cellPut cs k v) keep
  { d with objs := objs, tabs := b.tabs.foldl (fun cs (k, v) => cellPut cs k v) keepT }

/-! ### Conditions of R198 -/

/-- REF_SRC and FB_SRC of slot `s` of a device's accepted set. -/
def Device.srcOf (d : Device) (n s : Nat) : Nat × Nat :=
  let v := d.rdA Ix.AX_CE_SRC n (s + 1)
  (v / 256, v % 256)

/-- A reference source that Table 10.2 allows for slot `s`. -/
def refAllowed (s code : Nat) : Bool :=
  code == 0
    || (3 ≤ code && code ≤ 6 && s != 3 && code != s + 1)
    || (code == 0x10 && (s == 2 || s == 3))
    || (code == 0x11 && (s == 1 || s == 2 || s == 4 || s == 5))
    || (code == 0x12 && s == 0)

/-- A feedback source that Table 10.2 allows for slot `s`. -/
def fbCode (s code : Nat) : Bool :=
  code == 0 || (code == 1 && (s == 2 || s == 4 || s == 5)) || (0x20 ≤ code && code ≤ 0x23 && (s == 4 || s == 5))

/-- The same over the capture lists of a device: a source 0x20 to 0x23 names a used byte of list 1. -/
def Device.fbAllowed (d : Device) (n s code : Nat) : Bool :=
  fbCode s code && (code < 0x20 || code - 0x20 < (d.holdList n 1).length)

/-- The slot whose output slot `s` takes as its reference. -/
def Device.refSlot (d : Device) (n s : Nat) : Option Nat :=
  let c := (d.srcOf n s).1
  if 1 ≤ c && c ≤ 6 then some (c - 1) else none

/-- Following references from slot `s` ends within `k` slots. -/
def Device.refEnds (d : Device) (n : Nat) : Nat → Nat → Bool
  | 0, _ => false
  | k + 1, s => match d.refSlot n s with
    | some x => d.refEnds n k x
    | none => true

/-- The six slots. -/
def slots : List Nat := List.range 6

/-- The requested mode of slot `s` (R192). -/
def Device.modeOf (d : Device) (n s : Nat) : Nat := d.rdA Ix.AX_CE_MODE n (s + 1)

/-- The axis counts as enabled, predicts by MODEL and has slot 0 or 1 not OFF (condition 6 of R198). -/
def Device.needsModel (d : Device) (n : Nat) : Bool :=
  d.countsEnabled n && d.rdA Ix.AX_SC_PREDICT n == 1 && (d.modeOf n 0 != 0 || d.modeOf n 1 != 0)

/-- The conditions of R198, in order, over the present device and the merged set. -/
def ceConds (d m : Device) (n : Nat) : List Bool :=
  let div := fun s => m.rdA Ix.AX_CE_DIV n (s + 1)
  [ m.rdA Ix.AX_CE_POS_SHIFT n ≤ 30 && div 0 == 1 && div 1 == 1 && slots.all fun s =>
      m.rdA Ix.AX_CE_ESPAN n (s + 1) ≤ 7 && m.rdA Ix.AX_CE_KI_SHIFT n (s + 1) ≤ 15 && 1 ≤ div s,
    (slots.all fun s => m.rdAS 16 Ix.AX_CE_OUT_MIN n (s + 1) ≤ m.rdAS 16 Ix.AX_CE_OUT_MAX n (s + 1))
      && 0 < m.rdAS 16 Ix.AX_CE_I_LIMIT n,
    slots.all fun s => refAllowed s (m.srcOf n s).1 && m.fbAllowed n s (m.srcOf n s).2,
    slots.all fun s => m.refEnds n 7 s && match m.refSlot n s with
      | some x => div s ≤ div x
      | none => true,
    slots.all fun s => slots.all fun x => div s > div x || div x % div s == 0,
    !(m.bitOfA Ix.AX_CE_PLAUS_CFG n 0 3 || d.needsModel n) || m.modelUsable n,
    !d.swapPending n ]

/-! ### Sources -/

/-- The law's settings of slot `s` in a bank. -/
def Bank.coef (b : Bank) (n s : Nat) : SlotCoef :=
  { table := b.tab Ix.AX_CE_GAIN_TABLE n (s + 1)
    span := b.rd Ix.AX_CE_ESPAN n (s + 1)
    shift := b.rd Ix.AX_CE_KI_SHIFT n (s + 1)
    outMin := sgn 16 (b.rd Ix.AX_CE_OUT_MIN n (s + 1))
    outMax := sgn 16 (b.rd Ix.AX_CE_OUT_MAX n (s + 1)) }

/-- The slot whose output slot `s` takes as its reference, in a bank. -/
def Bank.refSlot (b : Bank) (n s : Nat) : Option Nat :=
  let c := b.rd Ix.AX_CE_SRC n (s + 1) / 256
  if 1 ≤ c && c ≤ 6 then some (c - 1) else none

/-- The rein that gives axis `n` its reference: the lowest-numbered one in use that names the axis (R315). -/
def Device.reinOf (d : Device) (n : Nat) : Int :=
  match (List.range 8).find? fun r => d.rd (Ix.REIN_CFG + r) 1 != 0 && d.rd (Ix.REIN_CFG + r) 3 == n with
  | some r => d.rdS 16 (Ix.REIN_VALUE + r) 2
  | none => 0

/-- σ of the generator. -/
def Device.genSign (d : Device) (n : Nat) : Int := if d.bitOfA Ix.AX_PRF_STATUS n 2 then -1 else 1

/-- The speed of a generator as SPEED32, with its limit (R278, R291): a stepper counts 1,024 microsteps to the electrical turn, a three-phase axis 65,536. -/
def Device.genSpeedOf (d : Device) (n : Nat) (v : Int) : Stored :=
  let unit := if d.stepper n then 16 else 1024
  let w := max 1 (d.rdA Ix.AX_W_BASE n)
  let q := divRne (v * 78125 * 1000) ((unit * w : Nat) : Int)
  ⟨clampI lo32 hi32 q, q < lo32 || hi32 < q⟩

/-- Microstep velocity of axis `n` with its sign: its own, or the master's scaled by d_k / D in a group move (R293). -/
def Device.genVelocity (d : Device) (n : Nat) : Int :=
  if d.rdA Ix.AX_PRF_STATE n == 6 then
    if d.interp.total == 0 then 0 else divRne (((d.interp.v / 65536 : Nat) : Int) * (d.prf n).dist) d.interp.total
  else d.genSign n * (d.rdA Ix.AX_PRF_VEL n : Int)

/-- The generator's speed of axis `n`. -/
def Device.genSpeed (d : Device) (n : Nat) : Int := (d.genSpeedOf n (d.genVelocity n)).val

/-- The values that the Live objects of slot `s` hold now (R48). -/
def Device.liveNow (d : Device) (n s : Nat) : LiveIn :=
  { ref := if s == 3 then (d.rdA Ix.AX_CE_POS_REF n : Int) else d.rdAS 16 Ix.AX_CE_REF n (s + 1)
    ext := d.rdAS 16 Ix.AX_CE_FB_EXT n (s + 1), manual := d.rdAS 16 Ix.AX_CE_MANUAL n (s + 1) }

/-- Slot `s` takes its Live objects at a sample boundary (R48). -/
def Device.takeLive (d : Device) (n s : Nat) : Device := d.onSlot n s fun x => { x with live := d.liveNow n s }

/-- A number that no store has limited. -/
def Stored.exact (i : Int) : Stored := ⟨i, false⟩

/-- The reference of slot `s` by its source, over what it took of its Live objects (Table 10.2): a FRAC16, or a POS32 for slot 3, with the SAT of the slot's store (R188 item 2). -/
def Device.refBy (d : Device) (n s : Nat) (b : Bank) (live : LiveIn) : Stored :=
  let c := b.rd Ix.AX_CE_SRC n (s + 1) / 256
  if c == 0 then .exact live.ref
  else if c ≤ 6 then .exact (d.rdAS 16 Ix.AX_CE_OUT n c)
  else if c == 0x10 then (if s == 3 then .exact (d.rdA Ix.AX_PRF_POS n) else speedStore (d.genSpeed n))
  else if c == 0x11 then .exact (d.reinOf n)
  else .exact (d.rdAS 16 Ix.AX_FE_FW_ID n)

/-- The reference of slot `s` on the present values of its Live objects. -/
def Device.refOf (d : Device) (n s : Nat) (b : Bank) : Int := (d.refBy n s b (d.liveNow n s)).val

/-- The feedback of slots 2 to 5 by its source, with the SAT of the slot's store; none where it is missing (R202 item 4). [log 46: DEDUCED] -/
def Device.fbBy (d : Device) (n s : Nat) (b : Bank) (live : LiveIn) : Option Stored :=
  let c := b.rd Ix.AX_CE_SRC n (s + 1) % 256
  if 0x20 ≤ c && c ≤ 0x23 then
    match cellGet (d.ce n).last ((d.holdList n 1).getD (c - 0x20) 0x100) with
    | some (v, fl) => if bit fl 7 then none else some (.exact v)
    | none => none
  else if s == 3 then some (.exact (d.rdA Ix.AX_FE_POSITION n))
  else if s == 2 && c == 0 then some (speedStore (d.rdAS 32 Ix.AX_FE_SPEED n))
  else some (.exact live.ext)

/-- The generator's speed set-point is the reference of slot `s` (Table 10.2). -/
def Bank.fromGenerator (b : Bank) (n s : Nat) : Bool := s != 3 && b.rd Ix.AX_CE_SRC n (s + 1) / 256 == 0x10

/-- A store of the generator that limits sets its SAT flag (R278, R291, R29). -/
def Device.satGen (d : Device) (n : Nat) (sat : Bool) : Device :=
  if sat then (d.wrBitA Ix.AX_PRF_STATUS n 0 10 true).satAxis n 6 true else d

/-- A limit of the generator's speed store sets it. -/
def Device.satSpeed (d : Device) (n : Nat) : Device := d.satGen n (d.genSpeedOf n (d.genVelocity n)).sat

/-- The RAMP step of slot `s` in the unit of its reference (R193 item 2). -/
def Bank.rampStep (b : Bank) (n s : Nat) : Int :=
  let r : Int := (sgn 16 (b.rd Ix.AX_CE_RAMP n (s + 1))).natAbs
  if s == 3 then divRne (r * (2 ^ b.rd Ix.AX_CE_POS_SHIFT n 0 : Nat)) 32768 else r

/-- A slot entering AUTO or RAMP goes to RAMP where its source and `AXn_CE_RAMP` ask for it (R193). -/
def Bank.entersRamp (b : Bank) (n s : Nat) : Bool :=
  let c := b.rd Ix.AX_CE_SRC n (s + 1) / 256
  (c == 0 || c == 0x10 || c == 0x11) && b.rd Ix.AX_CE_RAMP n (s + 1) != 0

/-- The next effective reference of a slot in RAMP (R193 item 2); slot 3's positions wrap. -/
def Bank.rampNext (b : Bank) (n s : Nat) (r target : Int) : Int :=
  if s == 3 then
    let off := posDiff (pat 32 target) (pat 32 r)
    (pat 32 (r + rampToward 0 off (b.rampStep n s)) : Int)
  else rampToward r target (b.rampStep n s)

/-! ### Slot states (Table 10.3) -/

/-- STATE of slot `s`. -/
def Device.slotState (d : Device) (n s : Nat) : Nat := field (d.rdA Ix.AX_CE_SLOT_STATUS n (s + 1)) 9 7

/-- Set STATE of slot `s`. -/
def Device.setSlotState (d : Device) (n s st : Nat) : Device :=
  let v := d.rdA Ix.AX_CE_SLOT_STATUS n (s + 1)
  d.wrA Ix.AX_CE_SLOT_STATUS n (s + 1) (v % 128 + v / 1024 * 1024 + st % 8 * 128)

/-- The integrator of slot `s`, in ACC40. -/
def Device.integ (d : Device) (n s : Nat) : Int := d.rdAS 64 Ix.AX_CE_INTEG n (s + 1)

/-- Set the integrator of slot `s`. -/
def Device.setInteg (d : Device) (n s : Nat) (v : Int) : Device := d.wrAI Ix.AX_CE_INTEG n (s + 1) v

/-- The SAT flag of slot `s` sets, with its bit of `AXn_SAT` (R208). -/
def Device.satSlot (d : Device) (n s : Nat) (sat : Bool) : Device :=
  if sat then (d.wrBitA Ix.AX_CE_SLOT_STATUS n (s + 1) 1 true).satAxis n (s / 2) true else d

/-- A slot takes the state its mode asks for from DISABLED (Table 10.3). -/
def Device.startSlot (d : Device) (n s : Nat) : Device :=
  let m := d.modeOf n s
  let d1 := (d.setInteg n s 0).onSlot n s fun x => { x with enter := false, preset := false }
  if m == 0 then d1.setSlotState n s 1
  else if m == 1 then d1.setSlotState n s 2
  else if (d1.bank n).entersRamp n s then (d1.setSlotState n s 3).onSlot n s fun x => { x with enter := true }
  else d1.setSlotState n s 4

/-- The transitions of Table 10.3 at a sample boundary of slot `s`. -/
def Device.boundary (d : Device) (n s : Nat) : Device :=
  let st := d.slotState n s
  let m := d.modeOf n s
  let wrote := (d.slot n s).written
  let d0 := d.onSlot n s fun x => { x with written := false }
  if st == 0 then d0
  else if m == 0 && st != 1 then ((d0.setInteg n s 0).setSlotState n s 1).onSlot n s fun x => { x with enter := false, preset := false }
  else if m == 1 && st == 1 then d0.setSlotState n s 2
  else if m == 1 && (st == 3 || st == 4) then
    let d1 := if wrote then d0 else d0.wrA Ix.AX_CE_MANUAL n (s + 1) (d0.rdA Ix.AX_CE_OUT n (s + 1))
    d1.setSlotState n s 2
  else if m == 2 && st == 1 then
    if (d0.bank n).entersRamp n s then ((d0.setInteg n s 0).setSlotState n s 3).onSlot n s fun x => { x with enter := true }
    else (d0.setInteg n s 0).setSlotState n s 4
  else if m == 2 && st == 2 then (d0.setSlotState n s 4).onSlot n s fun x => { x with preset := true }
  else d0

/-- What one sample of slots 2 to 5 gives, on a reference and a feedback (R188 to R194). -/
def Device.slotSample (d : Device) (n s : Nat) (ref fb : Int) : Sample :=
  let b := d.bank n
  let c := b.coef n s
  let x := d.slot n s
  let ramp := d.slotState n s == 3
  let r := if ramp then (if x.enter then fb else b.rampNext n s x.rEff ref) else ref
  let e := if s == 3 then posError (pat 32 r) (pat 32 fb) (b.rd Ix.AX_CE_POS_SHIFT n 0) else ⟨r - fb, false⟩
  let y := if x.preset then c.presetSample (d.rdAS 16 Ix.AX_CE_OUT n (s + 1)) e.val else c.sample (d.integ n s) e.val
  { y with sat := y.sat || e.sat, rEff := r, state := if ramp && r != ref then 3 else 4 }

/-- A sample's results are posted (R191, Table 10.10). A missing feedback leaves what the first sample of a state has to do to the next one (R193, R194). -/
def Device.postSample (d : Device) (n s : Nat) (y : Sample) : Device :=
  let old := d.rdA Ix.AX_CE_SLOT_STATUS n (s + 1)
  let st := old % 16 + bitIf y.low 4 + bitIf y.high 5 + bitIf y.hold 6 + y.state * 128 + y.seg * 1024
  let d1 := (d.wrAI Ix.AX_CE_OUT n (s + 1) y.out).wrAI Ix.AX_CE_ERR n (s + 1) y.err
  let d2 := ((d1.setInteg n s y.integ).wrA Ix.AX_CE_SLOT_STATUS n (s + 1) st).satSlot n s y.sat
  d2.onSlot n s fun x => { x with rEff := y.rEff, enter := x.enter && y.missing, preset := x.preset && y.missing }

/-! ### Current references (R196, R197) -/

/-- A current multiplied by the thermal factor of axis `n`, stored to FRAC16 (R325). -/
def Device.derated (d : Device) (n : Nat) (i : Int) : Int := (frac16Of (mulFF i (d.rdS 16 Ix.THM_DERATE (n + 1)))).val

/-- The bound of the current references: I_eff while torque resumes, else `AXn_CE_I_LIMIT` (R196, R267), times the thermal factor of the axis (R325). -/
def Device.iBound (d : Device) (n : Nat) : Int :=
  let lim := sgn 16 ((d.bank n).rd Ix.AX_CE_I_LIMIT n 0)
  d.derated n (match (d.st n).iEff with
    | some i => min lim i
    | none => lim)

/-- φ = (p − O) modulo M, on the signed difference of the two positions (R197 item 2, R33). -/
def phaseOf (p o m : Nat) : Nat := (posDiff p o % (max 1 m : Nat)).toNat

/-- The table phases start afresh from p and the origin (R197 item 2). -/
def Device.phaseReset (d : Device) (n : Nat) : Device :=
  let b := d.bank n
  let p := d.rdA Ix.AX_FE_POSITION n
  let o := b.rd Ix.AX_CE_FF_CFG n 3
  d.onCe n fun c => { c with phases := [phaseOf p o (b.rd Ix.AX_CE_FF_CFG n 4), phaseOf p o (b.rd Ix.AX_CE_FF_CFG n 5)], lastPos := p }

/-- The table phases advance by the change of p; a change that reaches a span starts that phase afresh and sets FF_RESYNC (R197 item 2). -/
def Device.phaseAdvance (d : Device) (n : Nat) : Device :=
  let b := d.bank n
  let p := d.rdA Ix.AX_FE_POSITION n
  let step := posDiff p (d.ce n).lastPos
  let one := fun (i sub : Nat) =>
    let m := max 1 (b.rd Ix.AX_CE_FF_CFG n sub)
    if m ≤ step.natAbs then (phaseOf p (b.rd Ix.AX_CE_FF_CFG n 3) m, true)
    else ((((((d.ce n).phases.getD i 0 : Nat) : Int) + step) % (m : Int)).toNat, false)
  let (a, ra) := one 0 4
  let (g, rg) := one 1 5
  let d1 := d.onCe n fun c => { c with phases := [a, g], lastPos := p }
  if ra || rg then d1.wrBitA Ix.AX_CE_STATUS n 0 5 true else d1

/-- The feed-forward of slot 1: friction by the sign of slot 2's effective reference, and cogging (R196). -/
def Device.feedForward (d : Device) (n : Nat) : Int :=
  let b := d.bank n
  let on := b.rd Ix.AX_CE_FF_CFG n 1
  let r := (d.slot n 2).rEff
  let st := d.slotState n 2
  let moving := (st == 3 || st == 4) && sgn 16 (b.rd Ix.AX_CE_FF_CFG n 2) ≤ r.natAbs
  let f := if bit on 0 && moving then
      tableValue (b.tab Ix.AX_CE_FRICTION n 0) 256 (b.rd Ix.AX_CE_FF_CFG n 4) ((d.ce n).phases.getD 0 0) * sgnOf r else 0
  let g := if bit on 1 then tableValue (b.tab Ix.AX_CE_COGGING n 0) 1024 (b.rd Ix.AX_CE_FF_CFG n 5) ((d.ce n).phases.getD 1 0) else 0
  f + g

/-- Form the reference of slot 0 or 1 from its source (R196). -/
def Device.formRef (d : Device) (n x : Nat) : Device :=
  let d0 := if x == 1 then d.phaseAdvance n else d
  let src := (d0.refBy n x (d0.bank n) (d0.slot n x).live).val
  let sum := (src + if x == 1 then d0.feedForward n else 0) * 32768
  let lim := d0.iBound n
  let y := store sum 15 (-lim) lim
  (d0.onCe n fun c => { c with refs := c.refs.set x y.val, lookups := c.lookups.filter (· != x) }).satSlot n x y.sat

/-- A reference of slot `x` takes a feed-forward term (R196). -/
def Bank.looksUp (b : Bank) (n x : Nat) : Bool := x == 1 && b.rd Ix.AX_CE_FF_CFG n 1 != 0

/-- The references whose source is slot `s` are formed as it posts; one with a feed-forward term waits for its lookups (R196, R204). -/
def Device.formRefsFrom (d : Device) (n s : Nat) : Device :=
  [0, 1].foldl (fun e x =>
    if (e.bank n).refSlot n x != some s then e
    else if (e.bank n).looksUp n x then e.onCe n fun c => { c with lookups := c.lookups.filter (· != x) ++ [x] }
    else e.formRef n x) d

/-- The references that no slot supplies are formed at the start of a pending computation (R196, R210). -/
def Device.formOwnRefs (d : Device) (n : Nat) : Device :=
  [0, 1].foldl (fun e x => if (e.bank n).refSlot n x == none then e.formRef n x else e) d

/-! ### Deadlines (R201 to R203) -/

/-- A slot misses its deadline (R202): kind 0x09 is posted once in a run, when it first exceeds the limit. [log 46: DEDUCED] -/
def Device.missSlot (d : Device) (now n s : Nat) : Device :=
  let run := (d.slot n s).missRun + 1
  let full := 2 ≤ s && d.rdA Ix.AX_CE_MISS_LIMIT n < run && !(d.slot n s).reported
  let d1 := ((d.wrBitA Ix.AX_CE_SLOT_STATUS n (s + 1) 2 true).incA Ix.AX_CE_MISS_COUNT n (s + 1)).onSlot n s fun x =>
    { x with missRun := run, reported := x.reported || full }
  if full then (d1.wrBitA Ix.AX_CE_SLOT_STATUS n (s + 1) 3 true).post now (srcByte 8 n) 0x09 s else d1

/-- A sample that meets its deadline ends the run of misses (R202). -/
def Device.metDeadline (d : Device) (n s : Nat) : Device := d.onSlot n s fun x => { x with missRun := 0, reported := false }

/-- Record a slack of slot `s` in ticks (R203). -/
def Device.slotSlack (d : Device) (n s : Nat) (ticks : Int) : Device := d.recordSlack Ix.AX_CE_SLACK n (s + 1) ticks

/-- The deadline of slot `s` comes at Pacer count `now`: a waiting post records its slack, a running computation is late (R201, R203). [log 46: DEDUCED] -/
def Device.deadline (d : Device) (now n s : Nat) : Device :=
  let x := d.slot n s
  match x.posted with
  | some t => (d.slotSlack n s ((now : Int) - t)).onSlot n s fun x => { x with posted := none }
  | none => if (x.job.isSome || x.due) && x.late.isNone then d.onSlot n s fun x => { x with late := some now } else d

/-- The slots that take slot `s`'s output as their reference. -/
def Bank.consumers (b : Bank) (n s : Nat) : List Nat := slots.filter fun x => b.refSlot n x == some s

/-- The start of a computation of slot `x` is the deadline of the slots that feed it (R201); for the pair, only of samples of an earlier cycle (R210). -/
def Device.deadlinesOf (d : Device) (now n x : Nat) : Device :=
  [2, 3, 4, 5].foldl (fun e s =>
    if (e.bank n).refSlot n x == some s && (2 ≤ x || (e.slot n s).cycle + 1 < (e.ce n).cycles) then e.deadline now n s else e) d

/-! ### Plausibility supervisor (R205, R206) -/

/-- Δ of R205 for the d component (0), the q component (1), or one winding: from the measured currents, the voltage and the speed, with the SAT of its stores. -/
def Device.modelDelta (d : Device) (n which : Nat) (i iOther v : Int) (omega : Int) : Stored :=
  let b := d.bank n
  let m := fun (sub : Nat) => sgn 16 (b.rd Ix.AX_CE_MODEL n sub)
  let w := speedStore omega
  let g := sgn 16 (b.rd Ix.AX_CE_MODEL_G n (if which == 1 then 2 else 1))
  let wl := if d.threePhase n then gain16Of (mulFG w.val (m (if which == 1 then 2 else 3))) else .exact 0
  let br := frac16Of (
    if d.threePhase n && which == 0 then v * 32768 - mulFG i (m 1) + mulFG iOther wl.val
    else v * 32768 - mulFG i (m 1) - mulFG iOther wl.val - mulFG w.val (m 4))
  let y := frac16Of (mulFG br.val g)
  ⟨y.val, w.sat || wl.sat || br.sat || y.sat⟩

/-- One component's residual (R206): `which` 0 d, 1 q; a winding axis reports winding number plus 2. [log 47: DEDUCED] -/
def Device.residual (d : Device) (now n which : Nat) (r : Int) : Device :=
  let b := d.bank n
  let d1 := d.wrAI Ix.AX_CE_RESIDUAL n (which + 1) r
  if sgn 16 (b.rd Ix.AX_CE_PLAUS_CFG n 1) < r.natAbs then
    let run := (d.ce n).plaus.getD which 0 + 1
    let d2 := d1.wrBitA Ix.AX_CE_STATUS n 0 3 true
    if b.rd Ix.AX_CE_PLAUS_CFG n 2 ≤ run then
      let winding := if d.brushed n then 0 else which
      let detail := if d.threePhase n then which else winding + 2
      let d3 := ((d2.wrBitA Ix.AX_CE_STATUS n 0 4 true).incA Ix.AX_CE_PLAUS_COUNT n).post now (srcByte 8 n) 0x05 detail
      d3.onCe n fun c => { c with plaus := c.plaus.set which 0 }
    else d2.onCe n fun c => { c with plaus := c.plaus.set which run }
  else d1.onCe n fun c => { c with plaus := c.plaus.set which 0 }

/-- The supervisor runs: enabled, past the first two cycles, and slots 0 and 1 both in AUTO, RAMP or MANUAL (R206). On a brushed axis only slot 1 is used. -/
def Device.supervises (d : Device) (n : Nat) : Bool :=
  bit ((d.bank n).rd Ix.AX_CE_PLAUS_CFG n 3) 0 && 2 < (d.ce n).cycles && 2 ≤ d.slotState n 1
    && (d.brushed n || 2 ≤ d.slotState n 0)

/-- The check of one cycle, from the previous and the present measured currents and what was posted with them (R205). A limit of its stores sets the SAT flag of the component's slot. [log 47: DEDUCED] -/
def Device.runCheck (d : Device) (now n : Nat) (c : PlausCheck) : Device :=
  let pd := d.modelDelta n 0 c.prevD c.prevQ c.vd c.omega
  let pq := d.modelDelta n 1 c.prevQ c.prevD c.vq c.omega
  let d1 := if d.brushed n then d else (d.satSlot n 0 pd.sat).residual now n 0 (c.measD - (c.prevD + pd.val))
  (d1.satSlot n 1 pq.sat).residual now n 1 (c.measQ - (c.prevQ + pq.val))

/-- The sample of cycle `count` waits for the supervisor (R204, R206). [log 47: DEDUCED] -/
def Device.supervise (d : Device) (n count : Nat) (prev meas : Int × Int) : Device :=
  if !d.supervises n then d
  else
    let c : PlausCheck :=
      { count := count, prevD := prev.1, prevQ := prev.2, measD := meas.1, measQ := meas.2
        vd := d.rdAS 16 Ix.AX_FE_VDQ n 1, vq := d.rdAS 16 Ix.AX_FE_VDQ n 2, omega := d.rdAS 32 Ix.AX_FE_SPEED n }
    d.onCe n fun x => { x with check := some c }

/-! ### Slots 2 to 5 -/

/-- The order of slots 2 to 5 on the datapath (R204). -/
def datapath : List Nat := [3, 2, 4, 5]

/-- The pair's work holds the datapath: a pending or a full computation runs (R204). -/
def Device.pairBusy (d : Device) (n : Nat) : Bool := (d.sc n).full.isSome || (d.sc n).pending.any fun p => !p.done

/-- The work that waits for the datapath with the highest priority, where none of a higher or the same priority runs: work of lower priority waits meanwhile (R204). -/
def Device.nextSlot (d : Device) (n : Nat) : Option Nat :=
  if d.pairBusy n then none
  else match datapath.find? fun s => (d.slot n s).due || (d.slot n s).job.isSome with
    | some s => if (d.slot n s).job.isSome || (s == 4 && (d.slot n 5).job.isSome) then none else some s
    | none => none

/-- The datapath of axis `n` has nothing of slots 2 to 5 and of the pair to do. -/
def Device.pathIdle (d : Device) (n : Nat) : Bool := !d.pairBusy n && datapath.all fun s => !(d.slot n s).due && (d.slot n s).job.isNone

/-- A sample of slot `s` that keeps its output and its integrator: its feedback is missing (R202 item 4). -/
def Device.keptSample (d : Device) (n s : Nat) : Sample :=
  let v := d.rdA Ix.AX_CE_SLOT_STATUS n (s + 1)
  { err := d.rdAS 32 Ix.AX_CE_ERR n (s + 1), seg := v / 1024
    integ := d.integ n s, sum := 0, out := d.rdAS 16 Ix.AX_CE_OUT n (s + 1)
    high := bit v 5, low := bit v 4, hold := bit v 6, sat := false, state := d.slotState n s, rEff := (d.slot n s).rEff, missing := true }

/-- The waiting sample of slot `s` starts its computation. -/
def Device.startSample (d : Device) (now n s : Nat) : Device :=
  let d1 := d.deadlinesOf now n s
  let b := d1.bank n
  let live := (d1.slot n s).live
  let r := d1.refBy n s b live
  let y := match d1.fbBy n s b live with
    | some fb => let y := d1.slotSample n s r.val fb.val; { y with sat := y.sat || r.sat || fb.sat }
    | none => d1.keptSample n s
  let d2 := if b.fromGenerator n s then d1.satSpeed n else d1
  d2.onSlot n s fun x => { x with due := false, job := some y }

/-- The lookups that wait, and then the check that waits where the next cycle has not begun: the work of the lowest priorities (R204, R206). -/
def Device.lastWork (d : Device) (now n : Nat) : Device :=
  let d1 := (d.ce n).lookups.foldl (fun e x => e.formRef n x) d
  match (d1.ce n).check with
  | none => d1
  | some c =>
    let d2 := d1.onCe n fun x => { x with check := none }
    if (d2.ce n).cycles ≤ c.count + 1 then d2.runCheck now n c else d2

/-- The datapath goes on with the work that waits (R204). No command marks the end of a lookup or of a check: they end as they start. [log 77: DESIGN CHOICE] -/
def Device.startNext (d : Device) (now n : Nat) : Device :=
  match d.nextSlot n with
  | some s => d.startSample now n s
  | none => if d.pathIdle n then d.lastWork now n else d

/-- Slot `s` samples in cycle `c` (R186, R192, R201): its boundary comes first. A slot in OFF or MANUAL posts its output at the boundary; a slot whose last computation still runs misses the sample. [log 46: DEDUCED] -/
def Device.sampleSlot (d : Device) (now n c s : Nat) : Device :=
  let x := d.slot n s
  let d1 := d.boundary n s
  let st := d1.slotState n s
  let v := d1.rdA Ix.AX_CE_SLOT_STATUS n (s + 1)
  if st == 1 then (d1.postSample n s (Sample.off (d1.rdAS 32 Ix.AX_CE_ERR n (s + 1)) (v / 1024) 1)).formRefsFrom n s
  else if st == 2 then
    let y := ((d1.bank n).coef n s).manualSample (d1.rdAS 32 Ix.AX_CE_ERR n (s + 1)) (v / 1024) (d1.integ n s) (d1.rdAS 16 Ix.AX_CE_MANUAL n (s + 1))
    (d1.postSample n s { y with rEff := x.rEff }).formRefsFrom n s
  else if st == 0 then d1
  else if x.job.isSome || x.due then (d1.missSlot now n s).slotSlack n s lo32
  else (d1.takeLive n s).onSlot n s fun x => { x with cycle := c, due := true }

/-- Cycle `c` is a sample boundary of every slot not in OFF or DISABLED (R199). -/
def Device.swapBoundary (d : Device) (n c : Nat) : Bool :=
  slots.all fun s => d.slotState n s ≤ 1 || c % max 1 ((d.bank n).rd Ix.AX_CE_DIV n (s + 1)) == 0

/-- The other bank is the active one. -/
def Device.useOther (d : Device) (n : Nat) (pending : Bool) : Device :=
  let no := 1 - d.bankNo n
  ((d.wrBitA Ix.AX_CE_STATUS n 0 1 (no == 1)).wrBitA Ix.AX_CE_STATUS n 0 2 pending).wrA Ix.AX_CE_BANK_SEL n 0 no

/-- The banks exchange roles (R199). A written origin starts the table phases afresh (R197 item 2). -/
def Device.swapBanks (d : Device) (n : Nat) : Device :=
  let was := (d.bank n).rd Ix.AX_CE_FF_CFG n 3
  let fresh := (d.ce n).origin
  let d1 := (d.useOther n false).onCe n fun c => { c with swapNext := false, origin := false }
  if !fresh && (d1.bank n).rd Ix.AX_CE_FF_CFG n 3 == was then d1 else d1.phaseReset n

/-- A swap becomes pending; on a disabled axis it takes effect at once (R199). [log 45: DEDUCED] -/
def Device.requestSwap (d : Device) (n : Nat) : Device :=
  if d.countsEnabled n then d.wrBitA Ix.AX_CE_STATUS n 0 2 true else d.swapBanks n

/-- The origin of the table phases is among the values of a staged set (R197 item 2). -/
def StagedSet.writesOrigin (s : StagedSet) (n : Nat) : Bool := (cellGet s.values (keyOf (axIx Ix.AX_CE_FF_CFG n) 3)).isSome

/-- What an accepted commit does with the banks (R198, R199, R204): on a disabled axis the write and the swap take effect at once; on an enabled one the swap is pending, and the inactive bank is written in the background. `origin` says that the set writes the table origin. [log 45: DEDUCED] -/
def Device.commitBank (d : Device) (n : Nat) (origin : Bool) : Device :=
  let d1 := d.onCe n fun c => { c with origin := origin }
  if d.countsEnabled n then (d1.onCe n fun c => { c with writing := true }).requestSwap n
  else (d1.finishBank n).requestSwap n

/-- A pending swap lands with the cycle that begins: the cycle's pending computation took the other bank, or no pair computes (R199, R210). -/
def Device.swapLands (d : Device) (n c : Nat) : Bool :=
  d.swapReady n && d.swapBoundary n c
    && ((d.ce n).swapNext || (d.sc n).pending.isNone || [0, 1].all fun s => d.slotState n s ≤ 1)

/-- A computation cycle of axis `n` begins (R185, R186, R199, R201). A check that still waits is skipped (R206). -/
def Device.beginCycle (d : Device) (now n : Nat) : Device :=
  let c := (d.ce n).cycles
  let d1 := [2, 3, 4, 5].foldl (fun e s => if ((e.bank n).consumers n s).isEmpty then e.deadline now n s else e) d
  let d2 := if d1.swapLands n c then d1.swapBanks n else d1
  let d3 := (d2.wrBitA Ix.AX_CE_STATUS n 0 0 true).onCe n fun x => { x with cycles := c + 1, swapNext := false, check := none }
  let d4 := if d3.slotsRun n then
      datapath.foldl (fun e s => if c % max 1 ((e.bank n).rd Ix.AX_CE_DIV n (s + 1)) == 0 then e.sampleSlot now n c s else e) d3
    else d3
  d4.startNext now n

/-- SLOT_COMPUTATION_DONE: the computation of slot `s` completes and is posted (R201 to R203). It cannot complete while work of a higher priority holds the datapath (R204). [log 46: DEDUCED] -/
def Device.slotDone (d : Device) (now n s : Nat) : Device :=
  match (d.slot n s).job with
  | none => d
  | some y =>
    if d.pairBusy n || (datapath.takeWhile (· != s)).any fun x => (d.slot n x).job.isSome then d
    else
    let late := (d.slot n s).late
    let st := d.slotState n s
    let d0 := d.onSlot n s fun x => { x with job := none, late := none }
    let d1 := if st == 3 || st == 4 then (d0.postSample n s y).formRefsFrom n s else d0
    let d2 := match late with
      | some t => (d1.slotSlack n s ((t : Int) - now)).missSlot now n s
      | none => (d1.metDeadline n s).onSlot n s fun x => { x with posted := some now }
    d2.startNext now n

/-! ### Enable and disable -/

/-- The control engine at an enable: every slot takes the state of its mode where no start procedure holds it back (R192, R257). -/
def Device.ceEnable (d : Device) (n : Nat) : Device :=
  let d1 := d.onCe n fun c => { c with cycles := 0, slots := c.slots.map SlotRun.cleared, refs := [0, 0], plaus := [0, 0], lookups := [], check := none, swapNext := false }
  let d2 := (d1.wrBitA Ix.AX_CE_STATUS n 0 5 false).phaseReset n
  if d.threePhase n then d2 else slots.foldl (fun e s => e.startSlot n s) d2

/-- The control engine at a disable or safe state (Table 10.3, R199): no output is posted, and a pending swap takes effect. -/
def Device.ceStop (d : Device) (n : Nat) : Device :=
  let d1 := slots.foldl (fun e s => ((e.setInteg n s 0).setSlotState n s 0).wrA Ix.AX_CE_OUT n (s + 1) 0) d
  let d2 := (d1.wrBitA Ix.AX_CE_STATUS n 0 0 false).onCe n fun c => { c with slots := c.slots.map SlotRun.cleared, cycles := 0, plaus := [0, 0], lookups := [], check := none, swapNext := false }
  let d3 := if (d2.ce n).writing then d2.finishBank n else d2
  if d3.swapPending n then d3.swapBanks n else d3

/-! ### Meanings that reach no other engine -/

/-- BANK_WRITE_DONE (R198, R199, R204): the inactive bank of an enabled axis holds the accepted set, and the pending swap may land. -/
def execBankWriteDone (n : Fin 8) (s : State) : Host.Outcome State Fault Refusal :=
  s.onRunning fun _ d =>
    if (d.ce n).writing then d.finishBank n
    else d

/-- SLOT_COMPUTATION_DONE (R202): slots 2 to 5. -/
def execSlotComputationDone (n : Fin 8) (slot : Fin 6) (s : State) : Host.Outcome State Fault Refusal :=
  s.onRunning fun now d => d.slotDone now n slot

end Sys2Proof.Machine
end

