-- ==== Sys2Proof/Machine/Field.lean ====
section
/-! DEFINITION. The field engine of an axis (R226 to R255): measured currents, modulation, the reported voltage, the observer and the trackers, handover, Hall and encoder inputs, events and field weakening. -/

namespace Sys2Proof.Machine

/-- A store of the field engine that limits sets its SAT flag (R229, R255). -/
def Device.satFld (d : Device) (n : Nat) (sat : Bool) : Device :=
  if sat then (d.wrBitA Ix.AX_FE_STATUS n 0 1 true).satAxis n 3 true else d

/-- K_ANGLE of axis `n`. -/
def Device.kAngle (d : Device) (n : Nat) : Nat := d.rdA Ix.AX_K_ANGLE n

/-- The field engine's state (Table 12.3). [log 51: DEDUCED] -/
def Device.feState (d : Device) (n : Nat) : Nat := d.rdA Ix.AX_FE_STATE n

/-- A GAIN16 of `AXn_CE_MODEL` in the active bank: 1 Rs, 2 Ld, 3 Lq, 4 ψ. -/
def Device.modelOf (d : Device) (n sub : Nat) : Int := sgn 16 ((d.bank n).rd Ix.AX_CE_MODEL n sub)

/-- The positions of the field engine's Staged set on axis `n` (R251). -/
def feKey (n : Nat) (k : ObjKey) : Bool := axIx Ix.AX_FE_ANGLE_SRC n ≤ keyIndex k && keyIndex k ≤ axIx Ix.AX_FE_FW_CFG n

/-- A setting of the field engine in force: the accepted one, but where a committed set waits for the next boundary the one before it (R50 item 3). [log 51: DEDUCED] -/
def Device.fcfg (d : Device) (n index sub : Nat) : Nat :=
  match (d.fe n).old with
  | some c => readCells c (axIx index n) sub
  | none => d.rdA index n sub

/-- The same as a signed 16-bit value. -/
def Device.fcfgS (d : Device) (n index sub : Nat) : Int := sgn 16 (d.fcfg n index sub)

/-! ### Derived values (Table 12.5) -/

/-- The gap in carrier units: `AXn_FE_GAP` ns rounded up (R232). One ns is 5.12 fine steps. -/
def gapUnits (ns unit : Nat) : Nat := ceilDiv (ns * 512) (100 * unit)

/-- F = round(4,096 × D / T) (R231), D from the hold to the centre of the first period that starts after it. [log 52: DEDUCED] -/
def Device.centreF (d : Device) (n : Nat) : Int :=
  match d.loopPeriod n with
  | some t => divRne (4096 * (3 * ((d.edpNow n).len : Int) - 2 * (d.edpNow n).holdOffset) * (d.edpNow n).unit) (2 * t)
  | none => 0

/-- The same for the centre of the period in which the hold falls. [log 52: DEDUCED] -/
def Device.centreOwn (d : Device) (n : Nat) : Int :=
  match d.loopPeriod n with
  | some t => divRne (4096 * (((d.edpNow n).len : Int) - 2 * (d.edpNow n).holdOffset) * (d.edpNow n).unit) (2 * t)
  | none => 0

/-- INV_L0 = round(16,777,216 / ψ) as GAIN16, 0 without a flux (R238). [log 52: DEDUCED] -/
def invL0 (psi : Int) : Int := if psi ≤ 0 then 0 else min hi16 (divRne 16777216 psi)

/-- G_INJ × 4,096 before its shift (R241): 2^30 Ld Lq / (V_INJ K_W (Lq − Ld)); none where it does not exist. [log 52: DEDUCED] -/
def injGain (ld lq v kw : Int) : Option (Int × Int) :=
  let den := v * kw * (lq - ld)
  if den == 0 then none else some (if den < 0 then (-(2 ^ 30 * ld * lq), -den) else (2 ^ 30 * ld * lq, den))

/-- The smallest shift 0 to 8 at which a gain fits GAIN16, with the gain there (R241). [log 52: DEDUCED] -/
def injShift (num den : Int) : Option (Nat × Int) :=
  (List.range 9).findSome? fun k =>
    let g := divRne num (den * (2 ^ k : Nat))
    if lo16 ≤ g && g ≤ hi16 then some (k, g) else none

/-- G_INJ and INJ_SHIFT of a device's accepted settings. -/
def Device.injection (d : Device) (n : Nat) : Option (Nat × Int) :=
  match injGain (d.modelOf n 2) (d.modelOf n 3) (d.fcfgS n Ix.AX_FE_INJ_CFG 2) (min hi16 (d.rateScale n 15 1)) with
  | some (a, b) => injShift a b
  | none => none

/-- K_MOD before its limit. From `SUP_VBAT` it is round(4,096 × V_b / V_link) with both in mV. [log 52: DEDUCED] -/
def Device.kModRaw (d : Device) (n : Nat) : Int :=
  let usesLink := match d.engineChannel n with
    | some c => (d.holdList n c).contains 0x50
    | none => false
  if usesLink then
    let v := d.rdAS 16 Ix.AX_FE_VLINK n
    if v ≤ 0 then 0x8000 else divRne (4096 * 32768) v
  else
    let v := d.rd Ix.SUP_VBAT
    if v == 0 then 0x8000 else divRne (4096 * (d.voltBase n : Int)) v

/-- `AXn_FE_DERIVED` follows its inputs (R251). [log 52: DEDUCED] -/
def Device.rederive (d : Device) (n : Nat) : Device :=
  let (sh, g) := (d.injection n).getD (0, 0)
  let d1 := d.wrAI Ix.AX_FE_DERIVED n 1 (min hi16 (d.rateScale n 15 1))
  let d2 := d1.wrAI Ix.AX_FE_DERIVED n 2 (clampI lo16 hi16 (d.centreF n))
  let d3 := (d2.wrAI Ix.AX_FE_DERIVED n 3 (invL0 (d.modelOf n 4))).wrAI Ix.AX_FE_DERIVED n 4 g
  let d4 := d3.wrAI Ix.AX_FE_DERIVED n 6 (min 0x7FFF (d3.kModRaw n))
  (d4.wrA Ix.AX_FE_DERIVED n 5 sh).wrA Ix.AX_FE_DERIVED n 7 (gapUnits (d.fcfg n Ix.AX_FE_GAP 0) (d.edpNow n).unit)

/-- A committed set comes into force at a boundary of the field engine: the start of a pending computation, of a cycle in manual edge mode, or a disable (R50 item 3). [log 51: DEDUCED] -/
def Device.takeFe (d : Device) (n : Nat) : Device :=
  if (d.fe n).old.isSome then (d.onFe n fun f => { f with old := none }).rederive n else d

/-- An accepted commit of the field engine (R50 item 3, R251); `was` is the device before it. -/
def Device.applyFe (d : Device) (n : Nat) (was : Device) : Device :=
  if d.countsEnabled n then
    d.onFe n fun f => { f with old := some (f.old.getD (was.objs.filter fun (k, _) => feKey n k)) }
  else d.rederive n

/-- Every axis follows. -/
def Device.rederiveAll (d : Device) : Device := axes.foldl (fun e n => e.rederive n) d

/-! ### Measured currents (R227 to R229) -/

/-- The value of channel `c` in a result set: none where it is absent, or its flags have a bit of `mask`. -/
def ResultSet.value (r : ResultSet) (mask c : Nat) : Option Int :=
  match r.codes.findIdx? (· == c) with
  | some i => if (List.range 8).any (fun k => bit mask k && bit (r.flags.getD i 0) k) then none else some (r.values.getD i 0)
  | none => none

/-- The current of each leg of the axis, positive into the motor (R227): MISSING and UNSETTLED results are not available. -/
def Device.legCurrents (d : Device) (n : Nat) (r : ResultSet) : List (Option Int) :=
  (d.axisLegs n).map fun l => (r.value 0x88 l).map fun v => -v

/-- The phase voltage of each leg of the axis that the set holds (R235, R258). -/
def Device.legVoltages (d : Device) (n : Nat) (r : ResultSet) : List (Option Int) :=
  (d.axisLegs n).map fun l => r.value 0x80 (0x20 + l)

/-- Three phase values with one reconstructed from the other two (Table 12.1). -/
def fillPhases (xs : List (Option Int)) : Option (Int × Int × Int) :=
  match xs with
  | [some u, some v, some w] => some (u, v, w)
  | [none, some v, some w] => some (-(v + w), v, w)
  | [some u, none, some w] => some (u, -(u + w), w)
  | [some u, some v, none] => some (u, v, -(u + v))
  | _ => none

/-- The current of a winding from its two leg currents (R228): formed in Q2.15 and rounded, and delivered as a FRAC16 with its limit (R29). -/
def windingCurrent (plus minus : Option Int) : Option Stored :=
  match plus, minus with
  | some p, some m => some (limit16 (divRne (p - m) 2))
  | none, some m => some (limit16 (-m))
  | some p, none => some (limit16 p)
  | none, none => none

/-- The currents a cycle measures (R227 to R229): its d and q, or windings A and B; on a brushed axis d is 0. The device returned has the counts and SAT of R229. [log 51: DEDUCED] -/
def Device.measure (d : Device) (n : Nat) (c : Cycle) (r : ResultSet) : Meas × Device :=
  let legs := d.legCurrents n r
  let pv := d.legVoltages n r
  let at_ := fun i => legs.getD i none
  if d.threePhase n then
    match fillPhases legs with
    | some (u, v, w) =>
      let (a, b) := clarke u v w
      let (id, iq) := park a.val b.val (angle16 (d.fe n).theta)
      let d1 := d.satFld n (a.sat || b.sat || id.sat || iq.sat)
      let d2 := if legs.contains none then d1.incA Ix.AX_FE_CURRENT_COUNT n 1 else d1
      (⟨c, some id.val, some iq.val, [some u, some v, some w], pv⟩, d2)
    | none => (⟨c, none, none, legs, pv⟩, d.incA Ix.AX_FE_CURRENT_COUNT n 2)
  else
    let a := if d.stepper n then windingCurrent (at_ 0) (at_ 1) else some (.exact 0)
    let b := if d.stepper n then windingCurrent (at_ 2) (at_ 3) else windingCurrent (at_ 0) (at_ 1)
    let d1 := d.satFld n (a.any (·.sat) || b.any (·.sat))
    (⟨c, a.map (·.val), b.map (·.val), legs, pv⟩, if a.isNone || b.isNone then d1.incA Ix.AX_FE_CURRENT_COUNT n 2 else d1)

/-! ### The link voltage (R231) -/

/-- V_link per unit of V_b from a result set of the engine's list, or from `SUP_VBAT` where the list holds no VLINK. -/
def Device.takeLink (d : Device) (n : Nat) (r : ResultSet) : Device :=
  if r.codes.contains 0x50 then
    match r.value 0x80 0x50 with
    | some v => d.wrAI Ix.AX_FE_VLINK n 0 v
    | none => d
  else d.wrAI Ix.AX_FE_VLINK n 0 (min hi16 (divRne ((d.rd Ix.SUP_VBAT : Int) * 32768) (max 1 (d.voltBase n))))

/-- V_link in mV. -/
def Device.linkMv (d : Device) (n : Nat) : Nat := (divRne (d.rdAS 16 Ix.AX_FE_VLINK n * d.voltBase n) 32768).toNat

/-- K_MOD follows the posted link voltage; at its limit SAT sets and VLINK_LOW is posted once until VLINK has risen 10 % above that level (R231). [log 53: DEDUCED] -/
def Device.takeKMod (d : Device) (now n : Nat) : Device :=
  let k := d.kModRaw n
  let d1 := d.wrAI Ix.AX_FE_DERIVED n 6 (min 0x7FFF k)
  if 0x8000 ≤ k then
    ((d1.satFld n true).postIf (!(d.fe n).linkLow) now (srcByte 9 n) 0x43 (d.linkMv n / 10)).onFe n fun f => { f with linkLow := true }
  else if 10 * k * 11 ≤ 100 * 0x8000 then d1.onFe n fun f => { f with linkLow := false }
  else d1

/-! ### Modulation (R231 to R236) -/

/-- What a modulation gives: h of each leg in 2^−30 carrier units, its zone, the phases of max and min, the SAT of R231, and the demand M in Q2.15 (R250). -/
structure Modulation where
  h      : List Int
  zones  : List Nat
  order  : Nat × Nat
  /-- v_x of each phase, in ACC40. -/
  v      : List Int
  sat    : Bool
  demand : Int

/-- What the modulation of an axis is computed with: three phases or windings, P, g, K_MOD, and c of each leg in 2^−15 units. -/
structure ModCfg where
  phases : Bool
  len    : Nat
  gap    : Nat
  kMod   : Int
  dead   : List Int
  /-- A κ was limited as it was stored. -/
  sat    : Bool

/-- κ of a leg current (R233): limited to −1 to 1, then stored to FRAC16. [log 52: DEDUCED] -/
def kappa (i iDt : Int) : Stored := limit16 (clampI (-32768) 32768 (divRne (i * 32768) (max 1 iDt)))

/-- The settings of axis `n` now. -/
def Device.modCfg (d : Device) (n : Nat) : ModCfg :=
  let g := d.rdA Ix.AX_FE_DERIVED n 7
  let on := d.fcfg n Ix.AX_FE_DTC 1 == 1
  let ks := ((d.fe n).legI.take (d.axisLegs n).length).map fun i => kappa i (d.fcfgS n Ix.AX_FE_DTC 2)
  { phases := d.threePhase n, len := (d.edpPend n).len, gap := g, kMod := d.rdAS 16 Ix.AX_FE_DERIVED n 6
    dead := ks.map fun k => if on then (g : Int) * (32768 - k.val) else 0, sat := on && ks.any (·.sat) }

/-- The zone of h (Table 12.2). -/
def ModCfg.zone (c : ModCfg) (h : Int) : Nat :=
  let one : Int := 2 ^ 30
  if h ≤ 0 then 0 else if h < ((c.len : Int) - 2 * c.gap) * one then 1 else if h < c.len * one then 2 else 3

/-- h of a leg from its modulation m in ACC40. -/
def ModCfg.onTime (c : ModCfg) (s : Nat) (m : Int) : Int := c.len * (2 ^ 29 + m) - c.dead.getD s 0 * 32768

/-- The positions of the largest and the smallest of three, the first among equal ones. -/
def order3 (u v w : Int) : Nat × Nat :=
  (if v ≤ u && w ≤ u then 0 else if w ≤ v then 1 else 2, if u ≤ v && u ≤ w then 0 else if v ≤ w then 1 else 2)

/-- Modulate the two voltages at an angle (R231, R236). -/
def modulate (c : ModCfg) (winding : Bool) (theta : Nat) (vd vq : Int) : Modulation :=
  if c.phases then
    let va := vd * cos16 theta - vq * sin16 theta
    let vb := vd * sin16 theta + vq * cos16 theta
    let u := va
    let v := shiftRne (-16384 * va + 28378 * vb) 15
    let w := shiftRne (-16384 * va - 28378 * vb) 15
    let v0 := -(shiftRne (max u (max v w) + min u (min v w)) 1)
    let ws := [u, v, w].map fun x => store (x + v0) 15 (-65536) 65535
    let hs := (ws.zipIdx).map fun (x, s) => c.onTime s (mulFG x.val c.kMod)
    let span := (ws.map (·.val)).foldl max (-65536) - (ws.map (·.val)).foldl min 65535
    ⟨hs, hs.map c.zone, order3 u v w, [u, v, w], c.sat || ws.any (·.sat), clampI lo32 hi32 (shiftRne (mulFG span c.kMod) 15)⟩
  else
    let ms := if winding then [vd, -vd, vq, -vq] else [vq, -vq]
    let hs := (ms.zipIdx).map fun (x, s) => c.onTime s (x * c.kMod * 4)
    ⟨hs, hs.map c.zone, (0, 0), [], c.sat, 0⟩

/-- The four compares of a leg from h, each rounded once (Table 12.2). -/
def ModCfg.compares (c : ModCfg) (h : Int) : List Int :=
  let rise := shiftRne (c.len * 2 ^ 30 - h) 31
  let fall := shiftRne (c.len * 2 ^ 30 + h) 31
  match c.zone h with
  | 0 => [0, 0, 0, c.len]
  | 1 => [rise, fall, fall + c.gap, rise - c.gap]
  | 2 => [rise, fall, 0, 0]
  | _ => [0, c.len, 0, 0]

/-- The 16 compares of a modulation; unused slots place no edge. -/
def Modulation.compares (m : Modulation) (c : ModCfg) : List Int :=
  let used := m.h.flatMap c.compares
  used ++ List.replicate (16 - used.length) 0

/-- The set with every gate off (R257). -/
def gatesOffSet : List Int := List.replicate 16 0

/-- The set with every low side on (R257). -/
def lowsOnSet (legs len : Nat) : List Int :=
  (List.range 4).flatMap fun s => if s < legs then [0, 0, 0, (len : Int)] else [0, 0, 0, 0]

/-- The modulation angle of the coming period (R231 step 1), from the 32-bit angle predicted for the next hold. -/
def Device.modAngle (d : Device) (n : Nat) (thetaH : Nat) (inc : Int) : Nat :=
  angle16 (addAngle32 thetaH (shiftRne (inc * d.rdAS 16 Ix.AX_FE_DERIVED n 2) 12))

/-- The injection voltage on d for the period with sequence number `seq` (R241): INJECT at full size, a blend at 1 − weight. -/
def Device.injVoltage (d : Device) (n seq : Nat) : Int :=
  let st := d.feState n
  if d.fcfg n Ix.AX_FE_INJ_CFG 1 == 1 && (st == 2 || st == 3 || st == 5) then
    let v := d.fcfgS n Ix.AX_FE_INJ_CFG 2
    let len := max 1 (d.fcfg n Ix.AX_FE_HANDOVER 3)
    let size := if st == 2 then v else divRne (v * (len - (d.fe n).blend : Nat)) len
    if seq % 2 == 0 then size else -size
  else 0

/-! ### The reported voltage (R235) -/

/-- v_α and v_β, or the voltages of the two windings, with the SAT of what they are formed from. -/
structure Voltage where
  a   : Int
  b   : Int
  sat : Bool

/-- The leg voltages of a period as v_αβ or as winding voltages (R229, R235). -/
def Device.voltageOf (d : Device) (n : Nat) (xs : List Int) (sat : Bool) : Voltage :=
  let x := fun i => xs.getD i 0
  let (a, b) :=
    if d.threePhase n then clarke (x 0) (x 1) (x 2)
    else if d.stepper n then (limit16 (x 0 - x 1), limit16 (x 2 - x 3))
    else (.exact 0, limit16 (x 0 - x 1))
  ⟨a.val, b.val, sat || a.sat || b.sat⟩

/-- The voltage of the period in which the hold of `m` fell, from its on-times and its P (R235); none where it is unknown. -/
def Device.periodVoltage (d : Device) (n : Nat) (m : Meas) : Option Voltage :=
  let seq := (m.cycle.seq + 2 ^ 32 - 1) % 2 ^ 32
  match (d.edpOf n).onTimes.find? fun (k, _) => k == seq with
  | none => none
  | some (_, ons, any) =>
    if any then
      let g := d.rdA Ix.AX_FE_DERIVED n 7
      let link := d.rdAS 16 Ix.AX_FE_VLINK n
      let len : Int := max 1 (((d.frameOf n seq).map fun f => f.cfg.len).getD (d.edpNow n).len)
      let vs := (ons.zipIdx).map fun (h, s) =>
        let k := kappa ((d.fe n).legI.getD s 0) (d.fcfgS n Ix.AX_FE_DTC 2)
        let v := limit16 (divRne (link * ((h : Int) * 32768 + g * (32768 - k.val))) (len * 32768))
        (⟨v.val, v.sat || k.sat⟩ : Stored)
      some (d.voltageOf n (vs.map (·.val)) (vs.any (·.sat)))
    else if d.threePhase n then
      match fillPhases m.pv with
      | some (a, b, c) => some (d.voltageOf n [a, b, c] false)
      | none => none
    else if m.pv.all Option.isSome && !m.pv.isEmpty then some (d.voltageOf n (m.pv.map fun x => x.getD 0) false)
    else none

/-- Every gate of the axis was off for the whole period in which the hold of `m` fell. [log 53: DEDUCED] -/
def Device.periodOff (d : Device) (n : Nat) (m : Meas) : Bool :=
  (d.edpOf n).onTimes.any fun (k, _, on) => k == (m.cycle.seq + 2 ^ 32 - 1) % 2 ^ 32 && !on

/-- `AXn_FE_VDQ` follows the period in which the hold fell, and PV_ABSENT each such period with all gates off (R235, Table 12.10); the result is v_αβ. [log 53: DEDUCED] -/
def Device.reportVoltage (d : Device) (n : Nat) (m : Meas) : Option (Int × Int) × Device :=
  let v := d.periodVoltage n m
  let d1 := if d.periodOff n m then d.wrBitA Ix.AX_FE_STATUS n 0 6 v.isNone else d
  match v with
  | none => (none, d1)
  | some x =>
    let (vd, vq) :=
      if d.threePhase n then
        let inc := angleInc (d.fe n).omega (d.kAngle n)
        park x.a x.b (angle16 (addAngle32 (d.fe n).theta (shiftRne (inc * d.centreOwn n) 12)))
      else (.exact x.a, .exact x.b)
    (some (x.a, x.b), ((d1.wrAI Ix.AX_FE_VDQ n 1 vd.val).wrAI Ix.AX_FE_VDQ n 2 vq.val).satFld n (x.sat || vd.sat || vq.sat))

/-! ### The flux observer (R238 to R240) -/

/-- The observer tracker's settings. -/
def Device.obsCfg (d : Device) (n : Nat) : TrackerCfg :=
  ⟨d.fcfgS n Ix.AX_FE_OBS_CFG 2, d.fcfgS n Ix.AX_FE_OBS_CFG 3, d.fcfg n Ix.AX_FE_OBS_CFG 4⟩

/-- The injection tracker's settings. -/
def Device.injCfg (d : Device) (n : Nat) : TrackerCfg :=
  ⟨d.fcfgS n Ix.AX_FE_INJ_CFG 3, d.fcfgS n Ix.AX_FE_INJ_CFG 4, d.fcfg n Ix.AX_FE_INJ_CFG 5⟩

/-- OBS_LOCK (R240). -/
def Device.lockStep (d : Device) (n : Nat) (eps : Int) : Device :=
  let inside := (eps.natAbs : Int) ≤ d.fcfgS n Ix.AX_FE_OBS_CFG 5
  let locked := d.bitOfA Ix.AX_FE_STATUS n 2
  if inside == locked then d.onFe n fun f => { f with lockRun := 0 }
  else
    let run := (d.fe n).lockRun + 1
    if d.fcfg n Ix.AX_FE_OBS_CFG 6 ≤ run then (d.wrBitA Ix.AX_FE_STATUS n 0 2 inside).onFe n fun f => { f with lockRun := 0 }
    else d.onFe n fun f => { f with lockRun := run }

/-- One update of the observer (R238) on v_αβ, where known, and i_αβ. -/
def Device.observe (d : Device) (n : Nat) (v : Option (Int × Int)) (ia ib : Int) : Device :=
  let f := d.fe n
  let rs := d.modelOf n 1
  let ld := d.modelOf n 2
  let lq := d.modelOf n 3
  let psi := d.modelOf n 4
  let kw := d.rdAS 16 Ix.AX_FE_DERIVED n 1
  let kc := d.fcfgS n Ix.AX_FE_OBS_CFG 1
  let th := angle16 f.obs.theta
  let step := fun (acc v i : Int) =>
    let e := frac16Of (v * 32768 - mulFG i rs)
    Acc40.add ⟨acc, e.sat⟩ (mulFF e.val kw)
  let (pa, pb) : Acc40 × Acc40 := match v with
    | some (va, vb) => (step f.psiA va ia, step f.psiB vb ib)
    | none => (⟨f.psiA, false⟩, ⟨f.psiB, false⟩)
  let la := frac16Of (pa.val - mulFG ia lq)
  let lb := frac16Of (pb.val - mulFG ib lq)
  let l0 := frac16Of (psi * 2 ^ 18 + mulFG ((d.ce n).refs.getD 0 0) (ld - lq))
  let ra := frac16Of (mulFF l0.val (cos16 th))
  let rb := frac16Of (mulFF l0.val (sin16 th))
  let (qa, qb) := match v with
    | some _ => (pa.add (mulFF (ra.val - la.val) kc), pb.add (mulFF (rb.val - lb.val) kc))
    | none => (pa, pb)
  let cross := frac16Of (mulFF lb.val (cos16 th) - mulFF la.val (sin16 th))
  let eps := frac16Of (mulFG cross.val (d.rdAS 16 Ix.AX_FE_DERIVED n 3))
  let (obs, limited) := f.obs.step (d.obsCfg n) (d.kAngle n) eps.val
  let d1 := d.onFe n fun f => { f with psiA := qa.val, psiB := qb.val, obs := obs }
  let d2 := ((d1.wrAI Ix.AX_FE_FLUX n 1 la.val).wrAI Ix.AX_FE_FLUX n 2 lb.val).wrAI Ix.AX_FE_TRACK_ERR n 1 eps.val
  (d2.lockStep n eps.val).satFld n
    (qa.sat || qb.sat || la.sat || lb.sat || l0.sat || ra.sat || rb.sat || cross.sat || eps.sat || limited)

/-- One update of the injection tracker (R241) on the q currents of this hold and the one before. -/
def Device.injTrack (d : Device) (n seq : Nat) (iq iqBefore : Int) : Device :=
  let sign : Int := if seq % 2 == 0 then 1 else -1
  let g := d.rdAS 16 Ix.AX_FE_DERIVED n 4
  let sh := d.rdA Ix.AX_FE_DERIVED n 5
  let eps := frac16Of (sign * mulFG (iq - iqBefore) g * (2 ^ sh : Nat))
  let (inj, limited) := (d.fe n).inj.step (d.injCfg n) (d.kAngle n) eps.val
  ((d.onFe n fun f => { f with inj := inj }).wrAI Ix.AX_FE_TRACK_ERR n 2 eps.val).satFld n (eps.sat || limited)

/-! ### Handover (R243, R244) -/

/-- Enter a field-engine state. -/
def Device.feEnter (d : Device) (n st : Nat) : Device := d.wrA Ix.AX_FE_STATE n 0 st

/-- |ω| as FRAC16 magnitude against a FRAC16 limit, both as SPEED32. -/
def speedAtLeast (w : Int) (limit : Int) : Bool := limit * 65536 ≤ w.natAbs

/-- W_LO and W_HI. -/
def Device.wLo (d : Device) (n : Nat) : Int := d.fcfgS n Ix.AX_FE_HANDOVER 1
/-- W_HI. -/
def Device.wHi (d : Device) (n : Nat) : Int := d.fcfgS n Ix.AX_FE_HANDOVER 2
/-- BLEND. -/
def Device.blendLen (d : Device) (n : Nat) : Nat := max 1 (d.fcfg n Ix.AX_FE_HANDOVER 3)

/-- θ_use and ω_use of a blend at its step count (R244). -/
def Device.blended (d : Device) (n : Nat) : Nat × Int :=
  let f := d.fe n
  let len := d.blendLen n
  let x := angleDiff (angle16 f.obs.theta) (angle16 f.inj.theta)
  (addAngle32 f.inj.theta (divRne (x * f.blend) len * 65536), f.inj.omega + divRne ((f.obs.omega - f.inj.omega) * f.blend) len)

/-- INJECT compares for the handover once |ω̂_inj| reaches W_HI (R243 item 1). -/
def Device.tryBlendUp (d : Device) (now n : Nat) : Device :=
  let f := d.fe n
  if !speedAtLeast f.inj.omega (d.wHi n) then d.onFe n fun f => { f with wait := 0 }
  else
    let tol : Int := d.fcfg n Ix.AX_FE_HANDOVER 4
    let x := angleDiff (angle16 f.obs.theta) (angle16 f.inj.theta)
    let flip := sgn 16 (pat 16 (x - 0x8000))
    if (x.natAbs : Int) ≤ tol then
      (d.feEnter n 3).onFe n fun f => { f with blend := 0, wait := 0, refused := 0 }
    else if (flip.natAbs : Int) ≤ tol then
      ((d.incA Ix.AX_FE_HANDOVERS n 4).wrBitA Ix.AX_FE_STATUS n 0 8 true).onFe n fun f =>
        { f with inj := { f.inj with theta := addAngle32 f.inj.theta 0x80000000 } }
    else if f.wait + 1 < d.blendLen n then d.onFe n fun f => { f with wait := f.wait + 1 }
    else
      let k := f.refused + 1
      let d1 := (d.incA Ix.AX_FE_HANDOVERS n 3).wrBitA Ix.AX_FE_STATUS n 0 7 true
      let full := d.fcfg n Ix.AX_FE_HANDOVER 5 ≤ k
      (d1.postIf full now (srcByte 9 n) 0x42 k).onFe n fun f => { f with wait := 0, refused := if full then 0 else k }

/-- The moves between INJECT, the blends and OBSERVE at one hold (R243, R244). LOW_SPEED and a lost lock are left to the procedure. -/
def Device.handover (d : Device) (now n : Nat) : Device :=
  let st := d.feState n
  let f := d.fe n
  let injOn := d.fcfg n Ix.AX_FE_INJ_CFG 1 == 1
  if st == 2 then d.tryBlendUp now n
  else if st == 3 then
    if !d.bitOfA Ix.AX_FE_STATUS n 2 || !speedAtLeast (d.blended n).2 (d.wLo n) then d.feEnter n 5
    else
      let d1 := d.onFe n fun f => { f with blend := f.blend + 1 }
      if d.blendLen n ≤ f.blend + 1 then (d1.feEnter n 4).incA Ix.AX_FE_HANDOVERS n 1 else d1
  else if st == 5 then
    if speedAtLeast (d.blended n).2 (d.wHi n) then d.feEnter n 3
    else
      let d1 := d.onFe n fun f => { f with blend := f.blend - 1 }
      if f.blend ≤ 1 then (d1.feEnter n 2).incA Ix.AX_FE_HANDOVERS n 2 else d1
  else if st == 4 && injOn && !speedAtLeast f.obs.omega (d.wLo n) then
    (d.feEnter n 5).onFe n fun f => { f with blend := d.blendLen n, inj := Tracker.preset (angle16 f.obs.theta) f.obs.omega }
  else d

/-! ### Hall and encoder (R245, R246) -/

/-- The sector of a Hall code: 0 to 5, or none (R245). -/
def Device.hallSector (d : Device) (n code : Nat) : Option Nat :=
  let v := d.rdA Ix.AX_FE_HALL_MAP n / 16 ^ (code % 8) % 16
  if v ≤ 5 then some v else none

/-- The start of sector `s` (R245 item 1). -/
def Device.sectorStart (d : Device) (n s : Nat) : Nat :=
  (d.fcfg n Ix.AX_FE_HALL_OFFSET 0 + (divRne ((s : Int) * 65536) 6).toNat) % 65536

/-- The width of sector `s` in ANGLE16 units. -/
def sectorWidth (s : Nat) : Nat := (divRne (((s + 1 : Nat) : Int) * 65536) 6 - divRne ((s : Int) * 65536) 6).toNat

/-- θ_hall at Pacer count `t` (R245 items 3 and 4). [log 54: DEDUCED] -/
def Device.hallAngle (d : Device) (n t : Nat) : Nat :=
  let f := d.fe n
  match f.kept, f.sector with
  | some a, _ => a
  | none, none => f.angle
  | none, some s =>
    let lo := d.sectorStart n s
    let width := sectorWidth s
    if f.stale then (lo + width / 2) % 65536
    else
      -- ω̂ × W_b × Δt × 65,536, with ω̂ in 2^−31, W_b in mHz and Δt in ticks of 6.25 ns.
      let move := divRne (f.sensor.omega * d.rdA Ix.AX_W_BASE n * ((t : Int) - f.edge) * 65536) (2147483648 * 1000 * 160000000)
      let off := sgn 16 (pat 16 ((f.angle : Int) - lo)) + move
      (lo + (clampI 0 width off).toNat) % 65536

/-- θ_enc of a count (R246). [log 54: DEDUCED] -/
def Device.encAngle (d : Device) (n count : Nat) : Nat :=
  let cpe := max 1 (d.rdA Ix.AX_FE_ENC_CPE n)
  (d.fcfg n Ix.AX_FE_ENC_OFFSET 0 + (divRne (65536 * (sgn 32 count % cpe)) cpe).toNat) % 65536

/-- The sensor's angle at a Pacer count. -/
def Device.sensorAngle (d : Device) (n t : Nat) : Nat :=
  if d.rdA Ix.AX_FE_ANGLE_SRC n == 2 then d.encAngle n (d.fe n).count else d.hallAngle n t

/-- The sensor tracker runs on sin(θ_sensor − θ̂) (R245, R246). -/
def Device.sensorTrack (d : Device) (n t : Nat) : Device :=
  let f := d.fe n
  let eps := sin16 (pat 16 ((d.sensorAngle n t : Int) - angle16 f.sensor.theta))
  let (sensor, limited) := f.sensor.step (d.obsCfg n) (d.kAngle n) eps
  ((d.onFe n fun f => { f with sensor := sensor }).wrAI Ix.AX_FE_TRACK_ERR n 2 eps).satFld n limited

/-- A commutation event (R249). -/
def Device.commEvent (d : Device) (now n sector : Nat) (forward : Bool) : Device :=
  let sub := if forward then 1 else 2
  let d1 := d.wrA Ix.AX_FE_COMM_COUNT n sub ((d.rdA Ix.AX_FE_COMM_COUNT n sub + 1) % 2 ^ 32)
  (d1.wrA Ix.AX_FE_COMM_COUNT n 3 now).wrA Ix.AX_FE_COMM_COUNT n 4 sector

/-- The POS pins of axis `n`, first first (R245, R246). -/
def Device.posPins (d : Device) (n : Nat) : List Nat := holdCodes (d.rdA Ix.AX_FE_POS_PINS n)

/-- The filtered level of a POS pin changes: `POS_LEVELS` follows for a pin that an axis names (R247). [log 54: DEDUCED] -/
def Device.posLevel (d : Device) (pin : Nat) (level : Bool) : Device :=
  if d.rd Ix.POS_OWNER (pin + 1) == 0xFF then d else d.wrBit Ix.POS_LEVELS 0 pin level

/-- HALL_EDGE (R245): a new code of the axis, time-stamped `t`. After an invalid code or a jump the angle keeps its last value until a valid code arrives; it is then that of the change from the sector before. [log 54: DEDUCED] -/
def Device.hallEdge (d : Device) (now n code t : Nat) : Device :=
  let f := d.fe n
  let kept := some (d.hallAngle n t)
  match d.hallSector n code with
  | none => (d.onFe n fun f => { f with code := code, kept := kept }).post now (srcByte 9 n) 0x40 code
  | some s =>
    let start := d.sectorStart n s
    let stop := (start + sectorWidth s) % 65536
    let set := fun (a : Nat) => d.onFe n fun f => { f with code := code, sector := some s, angle := a, edge := t, stale := false, kept := none }
    match f.sector with
    | none => d.onFe n fun f => { f with code := code, sector := some s, angle := (start + sectorWidth s / 2) % 65536, edge := t, stale := true, kept := none }
    | some old =>
      if s == old then d.onFe n fun f => { f with code := code, kept := none }
      else if s == (old + 1) % 6 then (set start).commEvent t n s true
      else if (s + 1) % 6 == old then (set stop).commEvent t n s false
      else (d.onFe n fun f => { f with code := code, sector := some s, angle := (start + sectorWidth s / 2) % 65536, edge := t, stale := true, kept := kept }).post
        now (srcByte 9 n) 0x40 (code + 256)

/-- ENCODER_EDGE (R246): new levels of A (bit 0) and B (bit 1). [log 54: DEDUCED] -/
def Device.encoderEdge (d : Device) (now n levels : Nat) : Device :=
  let old := (d.fe n).levels
  let d1 := d.onFe n fun f => { f with levels := levels }
  let gray := fun (x : Nat) => if x == 0 then 0 else if x == 1 then 1 else if x == 3 then 2 else 3
  let step := (gray levels + 4 - gray old) % 4
  if step == 1 then d1.onFe n fun f => { f with count := (f.count + 1) % 2 ^ 32 }
  else if step == 3 then d1.onFe n fun f => { f with count := (f.count + 2 ^ 32 - 1) % 2 ^ 32 }
  else if step == 2 then d1.post now (srcByte 9 n) 0x41 0
  else d1

/-! ### Speed, position and field weakening (R248 to R250) -/

/-- At a hold: `AXn_FE_ANGLE`, `AXn_FE_SPEED`, the position and a commutation event, from θ_use of that hold (R248, R249). [log 55: DEDUCED] -/
def Device.postMotion (d : Device) (now n : Nat) : Device :=
  let f := d.fe n
  let th := angle16 f.theta
  let d1 := (d.wrA Ix.AX_FE_ANGLE n 0 th).wrAI Ix.AX_FE_SPEED n 0 f.omega
  let sensored := !d.stepper n && d.rdA Ix.AX_FE_ANGLE_SRC n != 0
  let d2 := match f.preset with
    | some p => (d1.wrA Ix.AX_FE_POSITION n 0 p).onFe n fun f => { f with preset := none, count := if d.rdA Ix.AX_FE_ANGLE_SRC n == 2 then p else f.count }
    | none =>
      if sensored && d.rdA Ix.AX_FE_ANGLE_SRC n == 2 then d1.wrA Ix.AX_FE_POSITION n 0 f.count
      else match f.held with
        | some old => d1.wrA Ix.AX_FE_POSITION n 0 (pat 32 ((d1.rdA Ix.AX_FE_POSITION n : Int) + angleDiff th old))
        | none => d1
  let d3 := match f.held with
    | some old =>
      let a := old * 6 / 65536
      let b := th * 6 / 65536
      if a == b || (sensored && d.rdA Ix.AX_FE_ANGLE_SRC n == 1) then d2 else d2.commEvent now n b ((b + 6 - a) % 6 ≤ 3)
    | none => d2
  d3.onFe n fun f => { f with held := some th }

/-- The field-weakening reference (R250), on the demand M of the posted voltages. [log 55: DEDUCED] -/
def Device.weaken (d : Device) (n : Nat) (m : Int) : Device :=
  let d0 := d.wrAI Ix.AX_FE_MOD n 0 m
  if d.threePhase n && d.fcfg n Ix.AX_FE_FW_CFG 1 == 1 then
    let acc := clampI (d.fcfgS n Ix.AX_FE_FW_CFG 4 * 32768) 0
      ((d.fe n).fw + mulFG (d.fcfgS n Ix.AX_FE_FW_CFG 2 - m) (d.fcfgS n Ix.AX_FE_FW_CFG 3))
    ((d0.onFe n fun f => { f with fw := acc }).wrAI Ix.AX_FE_FW_ID n 0 (frac16Of acc).val).wrBitA Ix.AX_FE_STATUS n 0 3 (acc < 0)
  else d0

/-! ### Enable, disable and commit -/

/-- IDLE at a disable and at a safe state (Table 12.3, R250). The position, the sensors and their levels stay. [log 55: DEDUCED] -/
def Device.feStop (d : Device) (n : Nat) : Device :=
  let d1 := ((d.feEnter n 0).wrA Ix.AX_FE_FW_ID n 0 0).wrBitA Ix.AX_FE_STATUS n 0 3 false
  let d2 := ((d1.wrBitA Ix.AX_FE_STATUS n 0 0 false).wrBitA Ix.AX_FE_STATUS n 0 2 false).wrBitA Ix.AX_FE_STATUS n 0 5 false
  let d3 := d2.onFe n fun f =>
    { Fe.rest with
      code := f.code, sector := f.sector, angle := f.angle, edge := f.edge, stale := f.stale, kept := f.kept, sensor := f.sensor, old := f.old
      count := f.count, levels := f.levels, preset := f.preset, linkLow := f.linkLow }
  (d3.takeFe n).rederive n

/-- The state at an enable: FORCED, HALL or ENCODER by the angle source (Table 12.3). A stepper takes its angle from the generator (R277). [log 51: DEDUCED] -/
def Device.feEnable (d : Device) (now n : Nat) : Device :=
  let src := if d.stepper n then 0 else d.rdA Ix.AX_FE_ANGLE_SRC n
  let st := if src == 1 then 6 else if src == 2 then 7 else 1
  let d0 := d.feEnter n st
  let d1 := d0.wrAI Ix.AX_FE_DERIVED n 6 (min 0x7FFF (d0.kModRaw n))
  if src != 0 then
    d1.onFe n fun f => { f with theta := d.sensorAngle n now * 65536, held := none }
  else d1

/-- The conditions of R251, in order. -/
def axFeConds (d m : Device) (n : Nat) : List Bool :=
  let live := d.countsEnabled n
  let same := fun ix => d.rdA ix n == m.rdA ix n
  let src := m.rdA Ix.AX_FE_ANGLE_SRC n
  let v := m.rdA Ix.AX_FE_POS_PINS n
  let pins := m.posPins n
  let others := axes.flatMap fun k => if k == n then [] else m.posPins k
  let need := if src == 1 then pins.length == 3 else if src == 2 then pins.length == 2 || pins.length == 3 else v == 0xFFFFFFFF
  let sectors := (List.range 8).map fun c => m.rdA Ix.AX_FE_HALL_MAP n / 16 ^ c % 16
  [ !live || (same Ix.AX_FE_ANGLE_SRC && same Ix.AX_FE_POS_PINS && same Ix.AX_FE_HALL_MAP && same Ix.AX_FE_ENC_CPE),
    src ≤ 2 && sectors.all fun s => s ≤ 5 || s == 15,
    4 * gapUnits (m.rdA Ix.AX_FE_GAP n) (m.edpUnit n) < m.edpLen n,
    need && pins.all (· < 16) && (holdBytes v).take pins.length == pins && pins.Nodup && pins.all fun p => !others.contains p,
    (List.range 6).all fun s => (sectors.filter (· == s)).length == 1,
    m.rdAS 16 Ix.AX_FE_HANDOVER n 1 < m.rdAS 16 Ix.AX_FE_HANDOVER n 2 ]

/-- `POS_OWNER` follows the pin maps and the homing pins (R247, R296); a pin that loses its owner is not read. -/
def Device.showOwners (d : Device) : Device :=
  (List.range 16).foldl (fun e p =>
    let owner := (axes.find? fun n => (d.posPins n).contains p || d.rdA Ix.AX_PRF_HOME n 3 == p).getD 0xFF
    let e1 := e.wr Ix.POS_OWNER (p + 1) owner
    if owner == 0xFF then e1.wrBit Ix.POS_LEVELS 0 p false else e1) d

/-- The enable checks of R252. -/
def Device.fieldOk (d : Device) (n : Nat) : Bool :=
  let list := match d.engineChannel n with
    | some c => d.holdList n c
    | none => []
  let legs := d.axisLegs n
  let has := fun i => list.contains (legs.getD i 99)
  let used := d.modeOf n 0 != 0 || d.modeOf n 1 != 0
  let psi := d.modelOf n 4
  if d.threePhase n then
    (!used || 2 ≤ (legs.filter fun l => list.contains l).length)
      && (d.rdA Ix.AX_FE_ANGLE_SRC n != 0 || 513 ≤ psi)
      && (d.fcfg n Ix.AX_FE_INJ_CFG 1 == 0 || (d.modelOf n 2 != d.modelOf n 3 && (d.injection n).isSome))
  else
    (has 0 || has 1) && (!d.stepper n || has 2 || has 3) && psi != 0
      && (d.fcfg n Ix.AX_FE_INJ_CFG 1 == 0 || (d.modelOf n 2 != d.modelOf n 3 && (d.injection n).isSome))

/-! ### Meanings -/

/-- The filter time of the POS pins in Pacer ticks: 100 ns are 16 (R245). -/
def Device.posFilter (d : Device) (n : Nat) : Nat := 16 * d.fcfg n Ix.AX_FE_POS_FILT 0

/-- HALL_EDGE (R245): the filtered levels of U, V and W after an edge of one of them that has held for its filter time; the time stamp is this tick less that time. -/
def execHallEdge (n : Fin 8) (u v w : Bool) (s : State) : Host.Outcome State Fault Refusal :=
  s.onRunning fun now d =>
    if d.rdA Ix.AX_FE_ANGLE_SRC n == 1 then
      let pins := d.posPins n
      (((d.posLevel (pins.getD 0 16) u).posLevel (pins.getD 1 16) v).posLevel (pins.getD 2 16) w).hallEdge now n (bitIf u 0 + bitIf v 1 + bitIf w 2) (now - d.posFilter n)
    else d

/-- HALL_TIMEOUT (R245 item 4). [log 54: DEDUCED] -/
def execHallTimeout (n : Fin 8) (s : State) : Host.Outcome State Fault Refusal :=
  s.onRunning fun _ d =>
    if d.rdA Ix.AX_FE_ANGLE_SRC n == 1 then d.onFe n fun f => { f with stale := f.sector.isSome || f.stale } else d

/-- ENCODER_EDGE (R246, R247): the filtered levels of A, B and the index pin after an edge of one of them. -/
def execEncoderEdge (n : Fin 8) (ab : Quadrature) (index : Bool) (s : State) : Host.Outcome State Fault Refusal :=
  s.onRunning fun now d =>
    if d.rdA Ix.AX_FE_ANGLE_SRC n == 2 then
      let pins := d.posPins n
      (((d.posLevel (pins.getD 0 16) ab.a).posLevel (pins.getD 1 16) ab.b).posLevel (pins.getD 2 16) index).encoderEdge now n (bitIf ab.a 0 + bitIf ab.b 1)
    else d

end Sys2Proof.Machine
end

