-- ==== Sys2Proof/Machine/Storage.lean ====
section
/-! DEFINITION. Fuses, the Ledger and the calibration record (R95 to R117): resolving OTP words, bank states, programming, the persistent set, posting, recovery, checkpoints, and the calibration record. -/

namespace Sys2Proof.Machine

/-! ### OTP words (R96 to R101) -/

/-- The fuses of word `w` in a list. -/
def fusesAt (fs : List (Nat × Fuses)) (w : Nat) : Fuses := (cellGet fs w).getD ⟨0, 0⟩

/-- The list with word `w` set; an unblown word has no entry. -/
def setFuses (fs : List (Nat × Fuses)) (w : Nat) (f : Fuses) : List (Nat × Fuses) :=
  if f == ⟨0, 0⟩ then cellDrop fs w else cellPut fs w f

/-- The state code and value of a word outside the control bank (Table 6.3). -/
def Fuses.resolve (f : Fuses) : Nat × Nat :=
  match (List.range 39).filter fun k => f.weak.testBit k with
  | [] =>
    if f.blown == 0 then (0, 0)
    else match correctWord f.blown with
      | some (v, c) => (if c then 2 else 1, v)
      | none => (4, 0)
  | [k] =>
    let a := withBit f.blown k false
    let b := withBit f.blown k true
    if cleanWord a then (3, a % 2 ^ 32) else if cleanWord b then (3, b % 2 ^ 32) else (4, 0)
  | _ => (4, 0)

/-- Word `w` as the shadow registers resolve it. -/
def Device.otpWord (d : Device) (w : Nat) : Nat × Nat := (fusesAt d.otp.shadow w).resolve

/-- A control-bank word: every marginal fuse counts as set (R100). -/
def Device.controlWord (d : Device) (w : Nat) : Nat :=
  let f := fusesAt d.otp.shadow w
  f.blown ||| f.weak

/-- Bank `b` is locked (Table 6.2). -/
def Device.bankLocked (d : Device) (b : Nat) : Bool := field (d.controlWord 242) (2 * b + 1) (2 * b) != 0

/-- The CRC-16 of bank `b`'s resolved data words 0 to 14 (R101). -/
def Device.bankCrc (d : Device) (b : Nat) : Nat :=
  crc16f ((List.range 15).flatMap fun i => leBytes 4 (d.otpWord (16 * b + i)).2)

/-- The check word that seals bank `b`. -/
def Device.checkWord (d : Device) (b : Nat) : Nat := d.bankCrc b + (0xFFFF - d.bankCrc b) * 65536

/-- The check of bank `b` is valid (R101). -/
def Device.bankValid (d : Device) (b : Nat) : Bool :=
  let (st, v) := d.otpWord (16 * b + 15)
  (st == 1 || st == 2 || st == 3) && (List.range 15).all (fun i => (d.otpWord (16 * b + i)).1 != 4) && v == d.checkWord b

/-- The state of bank `b`: 0 OPEN, 1 SEALED, 2 VOID, 3 LOCKED (Table 6.12). -/
def Device.bankState (d : Device) (b : Nat) : Nat :=
  if b == 15 then 1 else (if d.bankValid b then 1 else 0) + (if d.bankLocked b then 2 else 0)

/-- `STO_OTP_BANKS`. -/
def Device.bankMap (d : Device) : Nat := ((List.range 16).map fun b => d.bankState b * 4 ^ b).foldl (· + ·) 0

/-- Bank `b` is in force (R102). -/
def Device.bankInForce (d : Device) (b : Nat) : Bool := d.otp.inForce.testBit b

/-- A key bank (Table 6.1). -/
def keyBank (b : Nat) : Bool := 4 ≤ b && b ≤ 6

/-- A key bank is VOID: Provisioned-Void (R102). -/
def Device.provisionedVoid (d : Device) : Bool := [4, 5, 6].any fun b => d.bankState b == 2

/-- ROLLBACK: one more than the highest fuse set of words 240 and 241 (Table 6.2). -/
def Device.rollback (d : Device) : Nat :=
  (d.controlWord 240 % 2 ^ 32 + d.controlWord 241 % 2 ^ 32 * 2 ^ 32).log2 + 1 |> fun k =>
    if d.controlWord 240 % 2 ^ 32 == 0 && d.controlWord 241 % 2 ^ 32 == 0 then 0 else k

/-- A lifecycle byte of word 243 is reached: at least 4 of its 8 fuses are set. -/
def Device.stageReached (d : Device) (k : Nat) : Bool :=
  4 ≤ ((List.range 8).filter fun i => (d.controlWord 243).testBit (8 * k + i)).length

/-- The lifecycle state (Table 6.2): 0 Blank, 1 PROVISIONED, 2 FIELD, 3 RETIRED. -/
def Device.lifecycle (d : Device) : Nat :=
  if d.stageReached 2 then 3 else if d.stageReached 1 then 2 else if d.stageReached 0 then 1 else 0

/-- The sensing of boot step 2 (R98), with its reports (Table 6.3, R102). -/
def Device.senseOtp (d : Device) (now : Nat) : Device :=
  let d1 := { d with otp := { d.otp with shadow := d.otp.fuses } }
  let d2 := d1.otp.shadow.foldl (fun e (w, _) =>
    if 240 ≤ w then e
    else
      let st := (e.otpWord w).1
      if st == 2 then e.post now 0xE0 0x01 w else if st == 3 then e.post now 0xE0 0x40 w else if st == 4 then e.post now 0xE0 0x02 w else e) d1
  let d3 := (List.range 15).foldl (fun e b => e.postIf (e.bankState b == 2) now 0xE0 0x41 b) d2
  let mask := maskOf ((List.range 15).filter fun b => d3.bankState b == 1 || d3.bankState b == 3)
  ({ d3 with otp := { d3.otp with inForce := mask } }).wr Ix.STO_OTP_BANKS 0 d3.bankMap

/-- The record `STO_OTP_WORD` of the selected word: value, code bits, state, marginal map (R117). The code bits are those that read 1 at both strict margins, as sensed, also where the word was corrected. [log 82: DESIGN CHOICE] -/
def Device.otpShow (d : Device) (sub : Nat) : Nat :=
  let w := d.rd Ix.STO_OTP_SEL
  let f := fusesAt d.otp.shadow w
  let hidden := w / 16 == 4 || w / 16 == 6
  let control := 240 ≤ w
  if sub == 1 then (if hidden then 0 else if control then d.controlWord w % 2 ^ 32 else (d.otpWord w).2)
  else if sub == 2 then (if hidden || control then 0 else f.blown / 2 ^ 32)
  else if sub == 3 then (if control then 0xFF else (d.otpWord w).1)
  else f.weak

/-! ### Programming (R103 to R105) -/

/-- Blow fuses: `mask` of word `w`, in the fuses and in the shadow. -/
def Device.blow (d : Device) (w mask : Nat) : Device :=
  let f := fusesAt d.otp.fuses w
  let g : Fuses := ⟨f.blown ||| mask, f.weak &&& (2 ^ 39 - 1 - mask)⟩
  { d with otp := { d.otp with fuses := setFuses d.otp.fuses w g, shadow := setFuses d.otp.shadow w g } }

/-- A command of `STO_OTP_PROG_CMD` may not start (R103): the status of the first condition that fails, 0 for none. A command while one runs is answered BUSY. [log 26: DEDUCED] -/
def Device.otpGate (d : Device) : Nat :=
  if !d.allDisabled then 0x07
  else if !d.bitOf Ix.SUP_STATUS 0 || d.bitOf Ix.SUP_STATUS 1 || d.supply.phase == .service then 0x0F
  else if d.ledger.post.isSome || d.otp.job.isSome then 0x0A else 0

/-- PROGRAM is answered RANGE (R104 step 2). -/
def Device.programBad (d : Device) : Bool :=
  let w := d.rd Ix.STO_OTP_PROG_ADDR
  let b := w / 16
  b == 6 || b == 15 || w % 16 == 15 || d.bankLocked b || (d.otpWord w).1 != 0 || d.otp.spoiled.contains w

/-- The banks that bank commands act on (R105). -/
def commandBank (b : Nat) (lock : Bool) : Bool := b == 5 || (7 ≤ b && b ≤ 13) || (lock && b == 6)

/-- SEAL is answered RANGE (R105). -/
def Device.sealBad (d : Device) : Bool :=
  let b := d.rd Ix.STO_OTP_PROG_ADDR
  !commandBank b false || d.bankLocked b || (d.otpWord (16 * b + 15)).1 != 0 || d.otp.spoiled.any (fun w => w / 16 == b)
    || (List.range 15).any fun i => (d.otpWord (16 * b + i)).1 == 4

/-- LOCK is answered RANGE (R105). -/
def Device.lockBad (d : Device) : Bool :=
  let b := d.rd Ix.STO_OTP_PROG_ADDR
  !commandBank b true || d.bankState b != 1

/-- LOCK_VOID is answered RANGE (R105): a SEALED bank is locked by LOCK only, and a locked bank cannot be locked again. -/
def Device.lockVoidBad (d : Device) : Bool :=
  let b := d.rd Ix.STO_OTP_PROG_ADDR
  !commandBank b true || d.bankState b != 0

/-- A programming command runs (R104 steps 3 and 4). -/
def Device.otpStart (d : Device) (w target : Nat) : Device :=
  ({ d with otp := { d.otp with job := some ⟨w, target⟩ } }.wr Ix.STO_OTP_PROG_STATUS 0 1).wrBit Ix.STO_LEDGER_STATUS 0 6 true

/-- PROGRAM runs. -/
def Device.programStart (d : Device) : Device :=
  d.otpStart (d.rd Ix.STO_OTP_PROG_ADDR) (encodeWord (d.rd Ix.STO_OTP_PROG_DATA))

/-- SEAL runs. -/
def Device.sealStart (d : Device) : Device :=
  let b := d.rd Ix.STO_OTP_PROG_ADDR
  d.otpStart (16 * b + 15) (encodeWord (d.checkWord b))

/-- Both lock fuses are blown, and the bank's state changes at once (R105). [log 26: DEDUCED] -/
def Device.lockStart (d : Device) : Device :=
  let b := d.rd Ix.STO_OTP_PROG_ADDR
  let d1 := (d.blow 242 (3 * 4 ^ b)).otpStart 242 (3 * 4 ^ b)
  d1.wr Ix.STO_OTP_BANKS 0 d1.bankMap

/-- OTP_COMMAND_DONE (R104): done where the word reads back CLEAN with the intended value; so a PROGRAM of 0, which leaves it BLANK, fails. The fuses of `weak` read back marginal after every pulse, those of `missing` read 0. [log 26: DEDUCED] -/
def Device.otpDone (d : Device) (now weak missing : Nat) : Device :=
  match d.otp.job with
  | none => d
  | some j =>
    let miss := missing &&& j.target
    let soft := weak &&& j.target
    let f := fusesAt d.otp.fuses j.word
    let keep := 2 ^ 39 - 1
    let g : Fuses := ⟨(f.blown ||| j.target) &&& (keep ^^^ (miss ||| soft)), (f.weak &&& (keep ^^^ j.target)) ||| (soft &&& (keep ^^^ miss))⟩
    let ok := if 240 ≤ j.word then miss == 0 && soft == 0 else g.resolve == (1, j.target % 2 ^ 32)
    let d1 := { d with otp := { d.otp with
      fuses := setFuses d.otp.fuses j.word g, shadow := setFuses d.otp.shadow j.word g, job := none
      spoiled := if ok || 240 ≤ j.word then d.otp.spoiled else d.otp.spoiled ++ [j.word] } }
    let d2 := (d1.wr Ix.STO_OTP_PROG_STATUS 0 (if ok then 2 else 3)).wrBit Ix.STO_LEDGER_STATUS 0 6 false
    (d2.wr Ix.STO_OTP_BANKS 0 d2.bankMap).postIf (!ok) now 0xE0 0x48 j.word

/-! ### The calibration record (R114) -/

/-- A field of a record's bytes. -/
def bytesAt (bs : List Nat) (off len : Nat) : Nat := leNat ((bs.drop off).take len)

/-- A write of `STO_CAL_RECORD` is accepted only with a valid record of this device (R114). -/
def Device.calRecordOk (d : Device) (bs : List Nat) : Bool :=
  bs.length == 256 && bytesAt bs 0 2 == 1 && bytesAt bs 2 1 ≤ 1 && bytesAt bs 4 8 == d.rd Ix.DEV_SERIAL
    && bytesAt bs 252 4 == crc32c (bs.take 252)

/-- The record of the device, shown in `STO_CAL_ORIGIN` and `STO_CAL_WRITES`. -/
def Device.showCal (d : Device) : Device :=
  let bs := d.tab Ix.STO_CAL_RECORD
  (d.wr Ix.STO_CAL_ORIGIN 0 (bytesAt bs 2 1)).wr Ix.STO_CAL_WRITES 0 (bytesAt bs 12 4)

/-- An accepted record replaces the present one, with WRITE_COUNT one above its previous value and the CRC recomputed (R114). -/
def Device.storeCal (d : Device) (bs : List Nat) : Device :=
  let count := bytesAt (d.tab Ix.STO_CAL_RECORD) 12 4 + 1
  (d.setTab Ix.STO_CAL_RECORD 0 (sealRecord (bs.take 12 ++ leBytes 4 count ++ (bs.take 252).drop 16))).showCal

/-- APPLY of `CNV_CAL_CMD` (R178, R179): the gain and offset of the channel enter the record with ORIGIN 1 and CAL_TEMP. -/
def Device.calApply (d : Device) : Device :=
  let code := d.calRefusal
  if code != 0 then d.wr Ix.CNV_CAL_STATUS 0 code
  else
    let bs := d.tab Ix.STO_CAL_RECORD
    let j := d.rd Ix.CNV_CAL_CHAN
    let at_ := 16 + 4 * j
    let pair := leBytes 2 (d.rd Ix.CNV_CAL_RESULT 3) ++ leBytes 2 (d.rd Ix.CNV_CAL_RESULT 4)
    let b1 := bs.take 2 ++ [1] ++ (bs.take at_).drop 3 ++ pair ++ bs.drop (at_ + 4)
    let b2 := b1.take 240 ++ leBytes 2 (d.rd Ix.CNV_CAL_RESULT 5) ++ b1.drop 242
    (d.storeCal b2).wr Ix.CNV_CAL_STATUS 0 4

/-! ### The persistent set (R107) -/

/-- Every row of the dictionary. -/
def allRows : List ObjRow := rowsDev ++ rowsGda ++ rowsEng ++ rowsPrf ++ rowsTly

/-- The positions a row lists. -/
def ObjRow.keys (r : ObjRow) : List ObjKey :=
  (List.range r.count).flatMap fun i => (List.range (r.subHi + 1 - r.subLo)).map fun s => keyOf (r.index + i * r.stride) (r.subLo + s)

/-- The key store (R400), an internal persistent object that no request reaches. -/
def keyStoreKey : ObjKey := keyOf 0x04C0 0

/-- The position of every persistent object, ascending. -/
def persistentKeys : List ObjKey :=
  sortBy (fun a b => a ≤ b) (keyStoreKey :: (allRows.filter fun r => r.persistent).flatMap ObjRow.keys)

/-- The entry bytes of a TABLE, or the bytes of a BLOB or STRING. -/
def entryBytes (index : Nat) (v : List Nat) : List Nat :=
  match tableSpec index with
  | some (t, _, _) => v.flatMap fun e => leBytes t.size e
  | none => v

/-- Value bytes of the object at a position, as R41 encodes them. -/
def Device.encode (d : Device) (k : ObjKey) (r : ObjRow) : List Nat :=
  if r.type.size == 0 then entryBytes (keyIndex k) (d.tab (keyIndex k) (keySub k)) else leBytes r.type.size (d.rd (keyIndex k) (keySub k))

/-- The values in effect (R55 rule 1): the control engines' sets are those of their active banks (R200); in service mode no engine runs, and they are the set that was loaded (R113). -/
def Device.inEffect (d : Device) : Device :=
  if d.supply.phase = .service then d else axes.foldl (fun e n => e.withBank n (e.bank n)) d

/-- The item of a persistent object. -/
def Device.item (d : Device) (k : ObjKey) : Option LedgerItem :=
  if k == keyStoreKey then some ⟨k, 0x14, d.tab 0x04C0⟩
  else match rowOf (keyIndex k) (keySub k) with
    | some r => some ⟨k, r.type.code, d.encode k r⟩
    | none => none

/-- The LIMIT mark of an object. -/
def limitAt (k : ObjKey) : LimitMark :=
  match rowOf (keyIndex k) (keySub k) with
  | some r => r.limit
  | none => .none

/-- The record an object belongs to: its index shifted right by 6 (R107). -/
def recordOf (k : ObjKey) : Nat := keyIndex k / 64

/-- The records of a device's values, ascending, under a serial (R107). -/
def Device.records (d : Device) (serial : Nat) : List LedgerRecord :=
  let items := persistentKeys.filterMap d.inEffect.item
  let ids := items.foldl (fun (is : List Nat) (x : LedgerItem) => if is.contains (recordOf x.key) then is else is ++ [recordOf x.key]) []
  ids.map fun i =>
    let xs := items.filter fun x => recordOf x.key == i
    ⟨i, serial, xs.any fun x => limitAt x.key != .none, xs⟩

/-! ### A scan that ends early (R362, R363, R365) -/

/-- A scan runs. -/
def Device.scanning (d : Device) : Bool := d.rd Ix.ASY_SCAN_STATUS == 1

/-- `ASY_USE` and the BUSY bits as the units stand: unit 3 serves the scan, a withdrawn unit reads 0xFF. -/
def Device.showAsy (d : Device) : Device :=
  let st := d.rd Ix.ASY_STATUS
  let gone := fun (u : Nat) => bit st u
  let busy := fun (u : Nat) => u == 3 && d.scanning
  let d1 := [0, 1, 2, 3].foldl (fun e u => e.wr Ix.ASY_USE (u + 1) (if gone u then 0xFF else if busy u then 4 else 0)) d
  d1.wrBit Ix.ASY_STATUS 0 7 d.scanning

/-- A scan that runs ends before its end is reached: how far it had fed is not stated, so RUNNING is a free value; `ASY_RESULT` keeps the last scan that completed. [log 67: DEDUCED] -/
def Device.endScan (d : Device) (code : Nat) : Device :=
  if d.scanning then
    let (v, d1) := d.free (d.rd Ix.ASY_WIDTH)
    ((d1.wr Ix.ASY_RUNNING 0 v).wr Ix.ASY_SCAN_STATUS 0 code).showAsy
  else d

/-! ### Posting (R55, R108) -/

/-- A scan of unit 3 overlaps the Ledger region of MRAM (R363). -/
def Device.scanHitsLedger (d : Device) : Bool :=
  let a := d.rd Ix.ASY_SCAN_START
  d.rd Ix.ASY_SCAN_SPACE == 0 && a < 0x38_0000 && 0x30_0000 < a + d.rd Ix.ASY_SCAN_LEN

/-- A write of 1 to `STO_POST` is answered (R55, R89, R103). -/
def Device.postStatus (d : Device) : Nat :=
  if d.ledger.post.isSome || d.otp.job.isSome || d.bitOf Ix.SUP_STATUS 1 || d.bitOf Ix.SUP_STATUS 7 then 0x0A else 0

/-- A post starts: the set is captured whole; a scan over the Ledger is aborted (R108, R363). -/
def Device.postStart (d : Device) : Device :=
  let rs := d.records (d.rd Ix.STO_LEDGER_HEAD + 1)
  let d1 := { d with ledger := { d.ledger with post := some rs } }.wr Ix.STO_POST 0 1
  if d1.scanHitsLedger then d1.endScan 6 else d1

/-- The slot that a head names. -/
def Ledger.slotAt (l : Ledger) (k : Nat) : LedgerSlot := if k == 1 then l.slot1 else l.slot0

/-- The Ledger with a slot replaced. -/
def Ledger.setSlot (l : Ledger) (k : Nat) (s : LedgerSlot) : Ledger := if k == 1 then { l with slot1 := s } else { l with slot0 := s }

/-- Bytes of a record in its area: header, items, padding to 4, CRC (Table 6.5). -/
def LedgerRecord.bytes (r : LedgerRecord) : List Nat :=
  let payload := r.items.flatMap fun x =>
    let len := if x.code == 0x14 || x.code == 0x15 then leBytes 2 x.bytes.length else []
    leBytes 2 (keyIndex x.key) ++ [keySub x.key, x.code] ++ len ++ x.bytes
  let body := leBytes 2 r.id ++ leBytes 2 payload.length ++ leBytes 4 r.serial ++ leBytes 2 (bitIf r.limit 0) ++ [0, 0] ++ payload
  let full := body ++ List.replicate ((4 - body.length % 4) % 4) 0
  full ++ leBytes 4 (crc32c full)

/-- A copy area of which the first `n` records of a post are written; where `torn`, the record after them was cut off or failed its read-back, and is not intact. -/
def partCopy (old new : List LedgerRecord) (n : Nat) (torn : Bool) : List LedgerRecord :=
  let after := (new.drop (if torn then n + 1 else n)).map (·.id)
  if n == 0 && !torn then old else new.take n ++ old.filter fun r => after.contains r.id

/-- The slot that a post leaves which ended after `n` record copies, counted through areas A, B and C in that order (R108 step 3). -/
def LedgerSlot.part (s : LedgerSlot) (rs : List LedgerRecord) (n : Nat) (torn : Bool) : LedgerSlot :=
  let len := rs.length
  let one := fun (k : Nat) (old : List LedgerRecord) => partCopy old rs (min len (n - k * len)) (torn && k * len ≤ n && n < (k + 1) * len)
  if n == 0 && !torn then s else ⟨rs.map (·.id), one 0 s.copyA, one 1 s.copyB, one 2 s.copyC⟩

/-- The slot number a post writes: the one the head does not name. -/
def Device.postSlot (d : Device) : Nat := 1 - field (d.rd Ix.STO_LEDGER_STATUS) 0 0

/-- The Ledger after a post that ended before its first head copy. [log 21: DESIGN CHOICE] -/
def Device.postCut (d : Device) (rs : List LedgerRecord) (n : Nat) (torn : Bool) : Ledger :=
  { d.ledger.setSlot d.postSlot ((d.ledger.slotAt d.postSlot).part rs n torn) with post := none }

/-- The entry and heads that a completed post of records leaves: the slot the head does not name, all copies alike (R108). Where no head is in force (HEAD_LOST), HEAD_SERIAL and SLOT count as 0, so that serial 1 goes to slot 1. [log 82: DESIGN CHOICE] -/
def Device.postWrite (d : Device) (rs : List LedgerRecord) : Device :=
  let slot := d.postSlot
  let serial := d.rd Ix.STO_LEDGER_HEAD + 1
  let h : LedgerHead := ⟨serial, slot, rs.length, (rs.flatMap LedgerRecord.bytes).length⟩
  let l := d.ledger.setSlot slot ⟨rs.map (·.id), rs, rs, rs⟩
  { d with ledger := { l with head1 := some h, head2 := some h, head3 := some h, post := none } }

/-- The head in force is shown. -/
def Device.showHead (d : Device) (serial slot : Nat) : Device :=
  (d.wr Ix.STO_LEDGER_HEAD 0 serial).wrBit Ix.STO_LEDGER_STATUS 0 0 (slot == 1)

/-- POST_COMPLETE (R55 rule 3, R108): after `micros` µs, or with a failed read-back at record `failed` (0xFFFF for a head), whose area is a free value: what was written before it stays written. A serial that would be too large is reported with detail 0xFFFF. [log 21: DESIGN CHOICE, 82: DESIGN CHOICE] -/
def Device.postComplete (d : Device) (now micros : Nat) (failed : Option Nat) : Device :=
  match d.ledger.post with
  | none => d
  | some rs =>
    let serial := d.rd Ix.STO_LEDGER_HEAD + 1
    let fails := fun (e : Device) (l : Ledger) (k : Nat) => ({ e with ledger := l }.wr Ix.STO_POST 0 3).post now 0xE1 0x45 k
    if 0xFFFF_FFFE < serial then fails d { d.ledger with post := none } 0xFFFF
    else match failed with
    | some 0xFFFF => fails d (d.postCut rs (3 * rs.length) false) 0xFFFF
    | some k => fails d.drawn (d.postCut rs (d.peekFree 2 % 3 * rs.length + rs.findIdx fun r => r.id == k) true) k
    | none =>
      let slot := d.postSlot
      (((d.postWrite rs).showHead serial slot).wr Ix.STO_POST 0 2).wr Ix.STO_POST_TIME 0 micros

/-- A reset cuts a post off (R108): before head copy 2 is begun it reverts whole, after that it completes whole. The stage it had reached is a free value: 0 no head, and then how many record copies were written, 1 head 1, 2 head 1 with head 2 torn, 3 heads 1 and 2. [log 21: DESIGN CHOICE] -/
def Device.interruptPost (d : Device) : Device :=
  match d.ledger.post with
  | none => d
  | some rs =>
    let old := d.ledger
    let (r, d0) := d.free 32
    let stage := r % 4
    let new := d0.postWrite rs
    let l := new.ledger
    let l1 := if stage == 0 then d0.postCut rs (r / 8 % (3 * rs.length + 1)) (bit r 2)
      else if stage == 1 then { l with head2 := old.head2, head3 := old.head3 }
      else if stage == 2 then { l with head2 := none, head3 := old.head3 }
      else { l with head3 := old.head3 }
    { d0 with ledger := l1 }

/-! ### Recovery (R109, R110) -/

/-- The copies of record `id` in a slot that are intact under R110 rule 1, in the order A, B, C. -/
def LedgerSlot.intact (s : LedgerSlot) (head id : Nat) : List LedgerRecord :=
  [s.copyA, s.copyB, s.copyC].filterMap fun c => c.find? fun r => r.id == id && r.serial ≤ head

/-- An entry checks (R109 rule 3). -/
def Ledger.entryChecks (l : Ledger) (h : LedgerHead) : Bool :=
  let s := l.slotAt h.slot
  s.ids.length == h.count && s.ids.all fun i => (s.intact h.serial i).any fun r => r.serial == h.serial

/-- The head chosen at boot, and whether rule 3 chose it (R109). -/
def Ledger.chooseHead (l : Ledger) : Option (LedgerHead × Bool) :=
  let hs := [l.head1, l.head2, l.head3].filterMap id
  match hs.find? fun h => 2 ≤ (hs.filter (· == h)).length with
  | some h => some (h, false)
  | none =>
    match (sortBy (fun (a b : LedgerHead) => b.serial ≤ a.serial) hs).find? l.entryChecks with
    | some h => some (h, true)
    | none => none

/-- The number an item's bytes stand for. -/
def LedgerItem.value (x : LedgerItem) : Int :=
  match rowOf (keyIndex x.key) (keySub x.key) with
  | some r => valueOf r.type (leNat x.bytes)
  | none => 0

/-- The more conservative of two items of one LIMIT object (R110 rule 3). -/
def LedgerItem.safer (x y : LedgerItem) : LedgerItem :=
  match limitAt x.key with
  | .upper => if y.value < x.value then y else x
  | .lower => if x.value < y.value then y else x
  | .ocThresh =>
    let a := leNat x.bytes
    let b := leNat y.bytes
    if field b 7 0 < field a 7 0 then { x with bytes := leBytes x.bytes.length (a / 256 * 256 + field b 7 0) } else x
  | .none => x

/-- A record as R110 chooses it among its intact copies: none where it is lost. -/
def chooseRecord (copies : List LedgerRecord) : Option LedgerRecord :=
  match copies.find? fun r => 2 ≤ (copies.filter (· == r)).length with
  | some r => some r
  | none =>
    match sortBy (fun (a b : LedgerRecord) => b.serial ≤ a.serial) copies with
    | [] => none
    | w :: _ =>
      if w.limit then
        some { w with items := w.items.map fun x =>
          copies.foldl (fun (best : LedgerItem) (c : LedgerRecord) =>
            match c.items.find? fun y => y.key == x.key with
            | some y => best.safer y
            | none => best) x }
      else some w

/-- The three copies are intact and identical. -/
def unanimous (copies : List LedgerRecord) : Bool :=
  match copies with
  | [a, b, c] => a == b && b == c
  | _ => false

/-- One stored value is loaded (R56): in range it is taken, else its default stands and kind 0x0A is posted. [log 27: DEDUCED, 28: DESIGN CHOICE] -/
def Device.loadItem (d : Device) (now : Nat) (x : LedgerItem) : Device :=
  let ix := keyIndex x.key
  let sub := keySub x.key
  match rowOf ix sub with
  | none => if x.key == keyStoreKey then d.setTab 0x04C0 0 x.bytes else d
  | some r =>
    if !r.persistent then d
    else
      let bad := d.post now 0xE1 0x0A ix
      if r.type.code != x.code then bad
      else if r.type.size == 0 then
        match tableSpec ix with
        | some (t, n, _) =>
          if x.bytes.length == n * t.size then d.setTab ix sub ((List.range n).map fun i => bytesAt x.bytes (i * t.size) t.size) else bad
        | none =>
          if ix == Ix.STO_CAL_RECORD && !(x.bytes.length == 256 && bytesAt x.bytes 252 4 == crc32c (x.bytes.take 252)) then bad
          else d.setTab ix sub x.bytes
      else if x.bytes.length != r.type.size || !r.accepts (leNat x.bytes) then bad
      else d.wr ix sub (leNat x.bytes)

/-- One record of the chosen slot is resolved and loaded, with its reports (R110). -/
def Device.recoverRecord (d : Device) (now : Nat) (s : LedgerSlot) (head i : Nat) : Device :=
  let copies := s.intact head i
  let d1 := if unanimous copies then d
    else ((d.post now 0xE1 0x42 i).inc Ix.STO_DIVERGED).wrBit Ix.STO_LEDGER_STATUS 0 1 true
  match chooseRecord copies with
  | some r => r.items.foldl (fun e x => e.loadItem now x) d1
  | none => ((d1.post now 0xE1 0x43 i).inc Ix.STO_RECORDS_LOST).wrBit Ix.STO_LEDGER_STATUS 0 2 true

/-- The default calibration record is in force (R114). -/
def Device.calDefault (d : Device) (now : Nat) : Device :=
  let d1 := d.setTab Ix.STO_CAL_RECORD 0 (defaultCal (d.rd Ix.DEV_SERIAL))
  ((d1.post now 0xE1 0x46 0x0008).wrBit Ix.STO_LEDGER_STATUS 0 4 true)

/-- The recovery of boot steps 6 and 7 (R109 to R111, R56). Objects stand at their defaults before it. [log 28: DESIGN CHOICE] -/
def Device.recover (d : Device) (now : Nat) : Device :=
  let d1 := match d.ledger.chooseHead with
    | none => (d.post now 0xE1 0x44 0).wrBit Ix.STO_LEDGER_STATUS 0 3 true
    | some (h, split) =>
      let d0 := d.showHead h.serial h.slot
      let dh := if split then ((d0.post now 0xE1 0x42 0xFFFF).inc Ix.STO_DIVERGED).wrBit Ix.STO_LEDGER_STATUS 0 1 true else d0
      let s := d.ledger.slotAt h.slot
      s.ids.foldl (fun e i => e.recoverRecord now s h.serial i) dh
  let d2 := if (cellGet d1.tabs (keyOf Ix.STO_CAL_RECORD 0)).isSome then d1 else d1.calDefault now
  d2.showCal

/-! ### Checkpoints (R89, R112, R290, R312) -/

/-- The axes of kind 4, ascending: the Seat's members. -/
def Device.seatMembers (d : Device) : List Nat := axes.filter fun n => d.rd Ix.SVC_KIND (n + 1) == 4

/-- A generator rests: IDLE or STANDSTILL. -/
def Device.atRest (d : Device) (n : Nat) : Bool := d.rdA Ix.AX_PRF_STATE n ≤ 1

/-- Bits of counter 112 (R290). -/
def Device.stepperKnown (d : Device) : Nat :=
  maskOf (axes.filter fun n => d.stepper n && d.atRest n && d.bitOfA Ix.AX_PRF_STATUS n 3 && !(d.prf n).waits && (d.prf n).v == 0)

/-- Bits of counter 117 (R312). -/
def Device.seatKnown (d : Device) : Nat :=
  let still := d.interp.move.isNone && d.interp.queue.isEmpty && d.seat.push.isNone
  maskOf ((d.seatMembers.zipIdx).filterMap fun (n, k) => if still && d.atRest n && d.bitOf Ix.SVC_SEAT_KNOWN k then some k else none)

/-- The counters of a checkpoint (R112): 80 to 95 the services', 96 to 112 the steppers', 113 to 117 the Seat's; no chapter owns another, and those are 0. [log 19: DEDUCED] -/
def Device.counters (d : Device) : List Nat :=
  let m := d.seatMembers
  List.replicate 80 0
    ++ axes.map (fun n => d.rd Ix.SVC_RUN_TIME (n + 1)) ++ axes.map (fun n => d.rd Ix.SVC_STARTS (n + 1))
    ++ axes.map (fun n => d.rdA Ix.AX_PRF_POS n) ++ axes.map (fun n => d.rdA Ix.AX_PRF_PHASE n)
    ++ [d.stepperKnown] ++ [0, 1, 2, 3].map (fun k => match m[k]? with
      | some n => d.rdA Ix.AX_FE_POSITION n
      | none => 0)
    ++ [d.seatKnown, 0, 0]

/-- A checkpoint goes to the next slot of the ring (R112); the LOSS flag marks one taken in a warning or in the power-loss sequence (R89). [log 19: DEDUCED] -/
def Device.checkpoint (d : Device) (now : Nat) (warning : Bool) : Device :=
  let loss := warning || d.bitOf Ix.SUP_STATUS 1 || d.bitOf Ix.SUP_STATUS 7
  let serial := (d.rd Ix.STO_CP_SERIAL + 1) % 2 ^ 32
  let c : Checkpoint := ⟨serial, loss, warning, now, d.counters⟩
  ({ d with ledger := { d.ledger with ring := (c :: d.ledger.ring).take 56 } }.wr Ix.STO_CP_SERIAL 0 serial).inc Ix.SUP_CHECKPOINTS

/-- The intact slot with the highest serial. -/
def Ledger.newest (l : Ledger) : Option Checkpoint :=
  l.ring.foldl (fun (best : Option Checkpoint) c => match best with
    | some b => if b.serial < c.serial then some c else best
    | none => some c) none

/-- The run counters are restored at boot (R112, R290, R312). [log 19: DEDUCED, 25: DEDUCED, 27: DEDUCED] -/
def Device.restoreCounters (d : Device) (now : Nat) : Device :=
  match d.ledger.newest with
  | none => (d.post now 0xE1 0x47 0).wrBit Ix.STO_LEDGER_STATUS 0 5 true
  | some c =>
    let at_ := fun i => c.counters.getD i 0
    let d1 := d.wr Ix.STO_CP_SERIAL 0 c.serial
    let d2 := axes.foldl (fun e n =>
      let e1 := (e.wr Ix.SVC_RUN_TIME (n + 1) (at_ (80 + n))).wr Ix.SVC_STARTS (n + 1) (at_ (88 + n))
      if e.stepper n then (e1.wrA Ix.AX_PRF_POS n 0 (at_ (96 + n))).wrA Ix.AX_PRF_PHASE n 0 (at_ (104 + n) % 1024) else e1) d1
    let d3 := d2.wr Ix.SVC_SEAT_KNOWN 0 (at_ 117 % 16)
    (d3.seatMembers.zipIdx).foldl (fun e (n, k) =>
      if bit (at_ 117) k && k < 4 then e.wrA Ix.AX_FE_POSITION n 0 (at_ (113 + k)) else e) d3

/-- Counter 112 of the newest checkpoint: which steppers' positions are known (R290). -/
def Device.restoredKnown (d : Device) (n : Nat) : Bool :=
  match d.ledger.newest with
  | some c => bit (c.counters.getD 112 0) n
  | none => false

/-! ### Meanings -/

/-- OTP_COMMAND_DONE (R104). -/
def execOtpCommandDone (weak missing : Nat) (s : State) : Host.Outcome State Fault Refusal :=
  s.onRunning fun now d => d.otpDone now weak missing

/-- CHECKPOINT_TIMER (R89): every 1 s between warnings. [log 2: DESIGN CHOICE] -/
def execCheckpointTimer (s : State) : Host.Outcome State Fault Refusal :=
  s.onRunning fun now d => if d.bitOf Ix.SUP_STATUS 1 || d.bitOf Ix.SUP_STATUS 7 then d else d.checkpoint now false

end Sys2Proof.Machine
end

