-- ==== Sys2Proof/Machine/Profile.lean ====
section
/-! DEFINITION. Steppers, profiles and interpolation (R277 to R298): the rate multiplier, the planning of moves, the queue, regulation modes, the set current, stall detection, homing, positions across standstill, and the interpolator. -/

namespace Sys2Proof.Machine

/-! ### Settings and states -/

/-- A setting of the generator in use (R296). -/
def Device.pcfg (d : Device) (n index sub : Nat) : Nat := readCells (d.prf n).cfg (axIx index n) sub

/-- The positions of the generator's Staged set on axis `n` (R296). -/
def prfKey (n : Nat) (k : ObjKey) : Bool := axIx Ix.AX_PRF_CFG n ≤ keyIndex k && keyIndex k ≤ axIx Ix.AX_PRF_HOME n

/-- The accepted settings come into use (R296). -/
def Device.takePrf (d : Device) (n : Nat) : Device :=
  (d.onPrf n fun p => { p with cfg := d.objs.filter fun (k, _) => prfKey n k }).wrBitA Ix.AX_PRF_STATUS n 0 6 false

/-- VSTART. -/
def Device.vStart (d : Device) (n : Nat) : Nat := d.pcfg n Ix.AX_PRF_CFG 1

/-- The generator's state (Table 14.2). -/
def Device.prfState (d : Device) (n : Nat) : Nat := d.rdA Ix.AX_PRF_STATE n

/-- The velocity with what shows it. -/
def Device.showVel (d : Device) (n v : Nat) : Device :=
  let d1 := (d.wrA Ix.AX_PRF_VEL n 0 (v / 65536)).wrBitA Ix.AX_PRF_STATUS n 0 0 (0 < v)
  d1.onPrf n fun p => { p with v := v, a := if v == 0 then 0 else p.a, carry := if v == 0 then 0 else p.carry }

/-! ### Regulation modes (R279, R280) -/

/-- Strong mode is in force. -/
def Device.strong (d : Device) (n : Nat) : Bool := d.bitOfA Ix.AX_PRF_STATUS n 4

/-- A change of mode takes effect (R280): to strong, slots 0 and 1 go from MANUAL to AUTO at the last quiet voltages, whether they stood in AUTO or in RAMP; to quiet, their integrators are 0. -/
def Device.changeMode (d : Device) (n : Nat) (strong : Bool) : Device :=
  let d1 := ((d.wrBitA Ix.AX_PRF_STATUS n 0 4 strong).incA Ix.AX_PRF_COUNT n 3).onPrf n fun p =>
    { p with armed := none, reached := false, blank := if strong then p.blank else d.pcfg n Ix.AX_PRF_STALL 3 * 256, baseSum := 0, baseN := 0, stallRun := 0 }
  [0, 1].foldl (fun e s =>
    if !strong then e.setInteg n s 0
    else
      let e1 := e.wrAI Ix.AX_CE_OUT n (s + 1) ((d.prf n).quietV.getD s 0)
      if 3 ≤ e.slotState n s then (e1.setSlotState n s 4).onSlot n s fun x => { x with preset := true, enter := false } else e1) d1

/-- v of axis `n` with its 16 fractional bits; a member's share of the master's in a group move, rounded up. -/
def Device.fineVel (d : Device) (n : Nat) : Nat :=
  if d.prfState n == 6 then ceilDiv (d.interp.v * (d.prf n).dist.natAbs) (max 1 d.interp.total) else (d.prf n).v

/-- The mode that the policy asks for at the present velocity, where it is another one (R279, R280 item 1). -/
def Device.wantedMode (d : Device) (n : Nat) : Option Bool :=
  let v := d.fineVel n / 65536
  let to_ := fun (strong : Bool) => if d.strong n == strong then none else some strong
  match d.pcfg n Ix.AX_PRF_STEPPER 7 with
  | 0 => if !d.strong n && d.pcfg n Ix.AX_PRF_STEPPER 5 ≤ v then some true
    else if d.strong n && v < d.pcfg n Ix.AX_PRF_STEPPER 6 then some false else none
  | 1 => to_ false
  | _ => to_ true

/-- Arming of a change whenever the velocity or the policy is new (R280 items 1, 2 and 5): it takes effect at once at v = 0. -/
def Device.armMode (d : Device) (n : Nat) : Device :=
  if !d.stepper n || d.prfState n == 0 then d
  else match d.wantedMode n with
    | none => d.onPrf n fun p => { p with armed := none, reached := false }
    | some x => if d.fineVel n == 0 then d.changeMode n x else d.onPrf n fun p => { p with armed := some x, reached := p.reached && p.armed == some x }

/-- Set the velocity, in 2^−16 VEL32: `AXn_PRF_VEL` and MOVING follow, a velocity of 0 clears A (R278), and a mode change is armed or disarmed by it (R280). -/
def Device.setVel (d : Device) (n v : Nat) : Device := (d.showVel n v).armMode n

/-- Set σ: DIR of `AXn_PRF_STATUS`. -/
def Device.setDir (d : Device) (n : Nat) (negative : Bool) : Device := d.wrBitA Ix.AX_PRF_STATUS n 0 2 negative

/-- `AXn_PRF_QUEUE` and QUEUE_FULL follow the queue. -/
def Device.showQueue (d : Device) (n : Nat) : Device :=
  let k := (d.prf n).queue.length
  (d.wrA Ix.AX_PRF_QUEUE n 0 k).wrBitA Ix.AX_PRF_STATUS n 0 7 (k == 16)

/-- The queue is emptied. -/
def Device.emptyQueue (d : Device) (n : Nat) : Device := (d.onPrf n fun p => { p with queue := [] }).showQueue n

/-- Enter a generator state; HOMING follows. -/
def Device.setPrfState (d : Device) (n st : Nat) : Device :=
  (d.wrA Ix.AX_PRF_STATE n 0 st).wrBitA Ix.AX_PRF_STATUS n 0 1 (st == 5)

/-- The axis is a member of the interpolator group (R292). -/
def Device.member (d : Device) (n : Nat) : Bool := (d.rd Ix.INT_GROUP).testBit n

/-- The members, ascending. -/
def Device.members (d : Device) : List Nat := maskList 8 (d.rd Ix.INT_GROUP)

/-- Entry to STANDSTILL (R285, R290): a stepper's position is checkpointed. -/
def Device.standStill (d : Device) (now n : Nat) : Device :=
  let d1 := ((d.setPrfState n 1).setVel n 0).onPrf n fun p =>
    { p with move := none, target := none, join := none, homing := none, waits := false, hold := none, moved := 0, dist := 0, rested := true }
  if d1.stepper n then d1.checkpoint now false else d1

/-- POS_KNOWN is cleared with POS_UNKNOWN and its cause (R289). Only a stepper has it. -/
def Device.losePosition (d : Device) (now n cause : Nat) : Device :=
  if d.stepper n && d.bitOfA Ix.AX_PRF_STATUS n 3 then
    ((d.wrBitA Ix.AX_PRF_STATUS n 0 3 false).incA Ix.AX_PRF_COUNT n 5).post now (srcByte 0xA n) 0x40 cause
  else d

/-! ### Angle, speed and steps (R278) -/

/-- θ of a stepper: 64 m + σ (A >> 26); in a group move the fraction is 0 (R278 item 3, R293 item 4). -/
def Device.genAngle (d : Device) (n : Nat) : Nat :=
  let m := d.rdA Ix.AX_PRF_PHASE n
  if d.prfState n == 6 then wrapAngle (64 * m)
  else wrapAngle ((64 * m : Nat) + d.genSign n * (((d.prf n).carry / 2 ^ 26 : Nat) : Int))

/-- The generator's angle and speed become θ_use and ω_use of a hold (R278). A limit of the speed sets the generator's SAT flag. [log 51: DEDUCED] -/
def Device.takeGenerator (d : Device) (n : Nat) : Device :=
  let w := d.genSpeedOf n (d.genVelocity n)
  (d.onFe n fun f => { f with theta := d.genAngle n * 65536, omega := w.val }).satGen n w.sat

/-- One microstep of axis `n` in direction `up` (R278 item 2), with what counts on microsteps: blanking and full-step positions. -/
def Device.microstep (d : Device) (n : Nat) (up : Bool) : Device :=
  let s : Int := if up then 1 else -1
  let d1 := d.wrA Ix.AX_PRF_POS n 0 (pat 32 ((d.rdA Ix.AX_PRF_POS n : Int) + s))
  let m := (((d.rdA Ix.AX_PRF_PHASE n : Int) + s) % 1024).toNat
  let d2 := if d.stepper n then d1.wrA Ix.AX_PRF_PHASE n 0 m else d1
  d2.onPrf n fun p =>
    { p with moved := p.moved + 1, blank := p.blank - 1, reached := p.reached || (p.armed.isSome && m % 256 == 0) }

/-- Microsteps left to the present target, along σ; none without a target. -/
def Device.stepsLeft (d : Device) (n : Nat) : Option Nat :=
  match (d.prf n).target with
  | some t => some (d.genSign n * posDiff t (d.rdA Ix.AX_PRF_POS n)).toNat
  | none => none

/-- The rate multiplier of one axis at a step tick (R278); it stops stepping as soon as the target is reached (R283). -/
def Device.multiply (d : Device) (n : Nat) : Device :=
  let p := d.prf n
  if p.waits || p.v == 0 || (d.prfState n == 2 && p.target == some (d.rdA Ix.AX_PRF_POS n)) then d
  else
    let sum := p.carry + p.v / 65536
    let d1 := d.onPrf n fun p => { p with carry := sum % 2 ^ 32 }
    if 2 ^ 32 ≤ sum then d1.microstep n (!d.bitOfA Ix.AX_PRF_STATUS n 2) else d1

/-! ### Stopping distances (R283) -/

/-- The smallest n ≥ 0 with n × unit ≥ p/q + √(y/z), for q, z > 0: p may be negative. -/
def ceilSum (p q y z unit : Int) : Nat :=
  let floor : Int := p / (q * unit) + (isqrt (y / (z * unit * unit)).toNat : Nat)
  let first := (floor - 1).toNat
  let fits := fun (k : Nat) =>
    let r := (k : Int) * unit * q - p
    0 ≤ r && y * q * q ≤ r * r * z
  ((List.range 5).find? fun i => fits (first + i)).map (fun i => first + i) |>.getD (first + 5)

/-- stop_dist(v, a, ve) in microsteps, rounded up (R283): v, a and ve in 2^−16 VEL32, DEC in VEL32 per profile tick, JERK in 2^−16. One profile tick at v is v × 100 / 2^48 microsteps. The sums are those of a continuous profile. [log 58: DEDUCED] -/
def stopDist (v : Nat) (a : Int) (ve dec jerk : Nat) : Nat :=
  let unit : Int := 2 ^ 48
  let dd : Int := (max 1 dec : Nat) * 65536
  if jerk == 0 then
    if v ≤ ve then 0 else ceilSum (100 * ((v : Int) * v - (ve : Int) * ve)) (2 * dd) 0 1 unit
  else
    let j : Int := jerk
    let v1 := 2 * j * v + a * a
    let gap := v1 - 2 * j * ve
    let lead : Int × Int := if 0 ≤ a then (100 * (3 * j * v * a + a * a * a), 3 * j * j) else (-(100 * (3 * v1 * (-a) - (-a) * a * a)), 6 * j * j)
    if gap ≤ 0 then (if lead.1 ≤ 0 then 0 else ceilSum lead.1 lead.2 0 1 unit)
    else if 2 * dd * dd ≤ gap then
      let q := 8 * j * j * dd
      ceilSum (lead.1 * q + 100 * (v1 + 2 * j * ve) * (gap + 2 * dd * dd) * lead.2) (lead.2 * q) 0 1 unit
    else
      let s := 100 * (v1 + 2 * j * ve)
      ceilSum lead.1 lead.2 (s * s * gap) (8 * j * j * j * j) unit

/-- The largest VEL32 velocity, found by bits from `k` down, from which a stop fits in `dist` microsteps (v_reach of R286). -/
def reachFrom (dist dec jerk : Nat) : Nat → Nat → Nat
  | 0, r => if stopDist ((r + 1) * 65536) 0 0 dec jerk ≤ dist then r + 1 else r
  | k + 1, r =>
    let t := r + 2 ^ (k + 1)
    reachFrom dist dec jerk k (if stopDist (t * 65536) 0 0 dec jerk ≤ dist then t else r)

/-- v_reach. -/
def vReach (dist dec jerk : Nat) : Nat := reachFrom dist dec jerk 31 0

/-! ### Moves -/

/-- One profile update of a velocity (R283): goal acceleration, jerk, and the limits of v. -/
def planStep (v : Nat) (a goal : Int) (jerk lo hi : Nat) : Nat × Int :=
  let a1 := if jerk == 0 then goal else if a < goal then min goal (a + jerk) else max goal (a - jerk)
  ((clampI lo (max lo hi) ((v : Int) + a1)).toNat, a1)

/-- A velocity slowed by DEC for one profile tick; a stop ends once VSTART is reached. [log 58: DEDUCED] -/
def slowStep (v dec vStart : Nat) : Nat :=
  let w := v - dec * 65536
  if w ≤ vStart * 65536 then 0 else w

/-- The end position that the queue of axis `n` leads to: p without a positioning entry, unknown after a VEL entry (R284). -/
def Device.endPosition (d : Device) (n : Nat) : Option Nat :=
  let p := d.prf n
  let start : Option Nat := match p.move with
    | some m => if m.kind == 2 then none else match p.target with
      | some t => some t
      | none => some (d.rdA Ix.AX_PRF_POS n)
    | none => some (d.rdA Ix.AX_PRF_POS n)
  p.queue.foldl (fun e (m : Move) =>
    if m.kind == 0 then some m.target
    else if m.kind == 1 then e.map fun x => pat 32 ((x : Int) + m.target)
    else if m.kind == 2 then none else e) start

/-- The move that `AXn_PRF_MOVE` holds. -/
def Device.heldMove (d : Device) (n : Nat) : Move :=
  let f := fun s => d.rdA Ix.AX_PRF_MOVE n s
  ⟨f 1, f 2, f 3, f 4, f 5, f 6, bit (f 7) 0, f 8⟩

/-- What PUSH is answered (R284). [log 58: DEDUCED] -/
def Device.pushStatus (d : Device) (n : Nat) : Nat :=
  let m := d.heldMove n
  let t := sgn 32 m.target
  if !d.enabled n || d.member n then 0x0F
  else if 16 ≤ (d.prf n).queue.length then 0x0A
  else if m.vMax < d.vStart n || d.pcfg n Ix.AX_PRF_CFG 2 < m.vMax || m.acc == 0 || m.dec == 0 || m.vMax < m.vBlend
      || (m.kind == 1 && t == lo32) || (m.kind == 3 && (t < 1 || 60000 < t)) then 0x04
  else if m.kind == 0 && d.stepper n && !d.bitOfA Ix.AX_PRF_STATUS n 3 then 0x0F
  else if m.kind == 0 && (d.endPosition n).any (fun e => posDiff m.target e == lo32) then 0x04
  else 0

/-- PUSH: the record is copied into the tail of the queue. -/
def Device.push (d : Device) (n : Nat) : Device :=
  (d.onPrf n fun p => { p with queue := p.queue ++ [d.heldMove n] }).showQueue n

/-- Whether the position of a move lies forward, backward or nowhere from p; VEL goes by its sign. -/
def Device.moveSign (d : Device) (n : Nat) (m : Move) : Int :=
  let p := d.rdA Ix.AX_PRF_POS n
  if m.kind == 0 then sgnOf (posDiff m.target p)
  else if m.kind == 1 then sgnOf (sgn 32 m.target)
  else if m.kind == 2 then (if sgn 32 m.target < 0 then -1 else 1) else 0

/-- STOPPING at a deceleration (R285). -/
def Device.stopping (d : Device) (now n dec : Nat) : Device :=
  let d1 := (d.emptyQueue n).onPrf n fun p => { p with move := none, target := none, join := none, homing := none, waits := false, stopDec := dec, a := 0 }
  if (d1.prf n).v == 0 then d1.standStill now n else d1.setPrfState n 4

/-- An ABS move after VEL that lies too far is discarded at its start (R284). -/
def Device.skipTarget (d : Device) (now n dec : Nat) : Device :=
  let ix := axIx Ix.AX_PRF_MOVE n
  let d1 := ((d.lastReject ix 2 0 0x04 0).post now (srcByte 0xA n) 0x0A ix).wrBitA Ix.AX_PRF_STATUS n 0 11 true
  d1.stopping now n dec

/-- The entry at the head of the queue starts (R284 to R286), from a velocity `v0` at which it is joined. Step 5 of R284 is made here for every ABS move: only one whose end position was unknown at its push can fail it. The first microstep after STANDSTILL waits for its checkpoint (R290). [log 58: DEDUCED] -/
def Device.startMove (d : Device) (now n v0 : Nat) : Device :=
  match (d.prf n).queue with
  | [] => d
  | m :: rest =>
    let p := d.rdA Ix.AX_PRF_POS n
    let d1 := (d.onPrf n fun q => { q with queue := rest }).showQueue n
    if m.kind == 0 && posDiff m.target p == lo32 then d1.skipTarget now n m.dec
    else if m.kind == 3 && (d.prf n).v == 0 then
      (d1.setPrfState n 3).onPrf n fun q => { q with move := some m, target := none, join := none, moved := 0 }
    else
      let goal := if m.kind == 0 then some m.target else if m.kind == 1 then some (pat 32 ((p : Int) + m.target)) else none
      let back := d.moveSign n m < 0
      let d2 := (d1.setPrfState n 2).onPrf n fun q => { q with move := some m, target := goal, join := none, moved := 0, a := 0 }
      if v0 == 0 && (d.prf n).v == 0 then
        let d3 := ((d2.setDir n back).setVel n (d.vStart n * 65536)).onPrf n fun q =>
          { q with blank := d.pcfg n Ix.AX_PRF_STALL 3 * 256, baseSum := 0, baseN := 0, stallRun := 0, rested := false, waits := d.stepper n && q.rested }
        if (d3.prf n).waits then d3.checkpoint now false else d3
      else d2

/-- A move ends at standstill, with the next entry or without (R285). -/
def Device.moveEnds (d : Device) (now n : Nat) : Device :=
  let d1 := (d.setVel n 0).incA Ix.AX_PRF_COUNT n 1
  if (d1.prf n).queue.isEmpty then d1.standStill now n else d1.startMove now n 0

/-- The join velocity of a blend in VEL32, 0 where none is made (R286). [log 58: DEDUCED] -/
def Device.joinVelocity (d : Device) (n : Nat) (m : Move) (target : Nat) : Nat :=
  match (d.prf n).queue with
  | [] => 0
  | x :: _ =>
    let way := if x.kind == 0 then posDiff x.target target else sgn 32 x.target
    let sign := if x.kind == 2 then (if way < 0 then -1 else 1) else sgnOf way
    if !m.blend || x.kind == 3 || sign != d.genSign n then 0
    else
      let reach := if x.kind == 2 then 2 ^ 32 - 1 else vReach way.natAbs x.dec x.jerk
      max (d.vStart n) (min m.vBlend (min x.vMax reach))

/-- The present entry's direction is against σ while the axis moves: it stops first, at its own DEC. -/
def Device.reversing (d : Device) (n : Nat) (m : Move) : Bool :=
  0 < (d.prf n).v && (m.kind == 3 || (m.kind == 2 && d.moveSign n m != d.genSign n)
    || (m.kind ≤ 1 && (match (d.prf n).target with
      | some t => posDiff t (d.rdA Ix.AX_PRF_POS n) * d.genSign n < 0
      | none => false)))

/-- R283 for a positioning move. -/
def Device.planMove (d : Device) (now n : Nat) (m : Move) (target : Nat) : Device :=
  let p := d.prf n
  let left := (d.stepsLeft n).getD 0
  let ve := p.join.getD 0 * 65536
  if left == 0 then
    if 0 < ve then (((d.setVel n ve).incA Ix.AX_PRF_COUNT n 1).incA Ix.AX_PRF_COUNT n 2).startMove now n ve
    else d.moveEnds now n
  else
    let near := fun (e : Nat) => left ≤ stopDist p.v p.a e m.dec m.jerk + p.v / 65536 * 100 / 2 ^ 32 + 1
    let join := if p.join.isNone && near 0 then some (d.joinVelocity n m target) else p.join
    let end_ := join.getD 0 * 65536
    let hi := m.vMax * 65536
    let goal : Int := if near end_ then -(m.dec * 65536 : Nat) else if p.v < hi then (m.acc * 65536 : Nat) else 0
    let (v, a) := planStep p.v p.a goal m.jerk (max (d.vStart n * 65536) end_) hi
    (d.onPrf n fun p => { p with join := join }).setVel n v |>.onPrf n fun p => { p with a := a }

/-- A VEL move runs at V_MAX until a later entry exists (R284). -/
def Device.planVel (d : Device) (now n : Nat) (m : Move) : Device :=
  let p := d.prf n
  match p.queue with
  | x :: _ =>
    if x.kind == 3 then
      let v := slowStep p.v x.dec (d.vStart n)
      if v == 0 then d.moveEnds now n else d.setVel n v
    else (d.incA Ix.AX_PRF_COUNT n 1).startMove now n p.v
  | [] =>
    let hi := m.vMax * 65536
    let goal : Int := if p.v < hi then (m.acc * 65536 : Nat) else if hi < p.v then -(m.dec * 65536 : Nat) else 0
    let (v, a) := planStep p.v p.a goal m.jerk (if hi < p.v then hi else d.vStart n * 65536) (max hi p.v)
    (d.setVel n (if p.v ≤ hi then min hi v else v)).onPrf n fun p => { p with a := a }

/-! ### Homing (R288) -/

/-- METHOD of the settings in use. -/
def Device.homeMethod (d : Device) (n : Nat) : Nat := d.pcfg n Ix.AX_PRF_HOME 1

/-- The switch or index pin is at its active level. -/
def Device.pinActive (d : Device) (n : Nat) : Bool := (d.prf n).pinOn == (d.pcfg n Ix.AX_PRF_HOME 4 == 1)

/-- A homing completes (R288). -/
def Device.homed (d : Device) (now n : Nat) : Device :=
  ((d.wrBitA Ix.AX_PRF_STATUS n 0 3 true).incA Ix.AX_PRF_COUNT n 4).standStill now n

/-- A homing fails (R288): the axis stops at ACC within HOMING (Table 14.2), the position is unknown, the queue is emptied. [log 59: DEDUCED] -/
def Device.homeFails (d : Device) (now n detail : Nat) : Device :=
  let d1 := (((d.losePosition now n 4).wrBitA Ix.AX_PRF_STATUS n 0 9 true).post now (srcByte 0xA n) 0x42 detail).emptyQueue n
  d1.onPrf n fun p => { p with homing := some .failing }

/-- A homing begins; one that leaves STANDSTILL waits for the checkpoint of R290. -/
def Device.homeStart (d : Device) (now n : Nat) (waits : Bool) : Device :=
  let step := if d.homeMethod n == 1 && d.pinActive n then HomeStep.release else HomeStep.search
  let d1 := (d.setPrfState n 5).onPrf n fun p =>
    { p with
      homing := some step, moved := 0, move := none, target := none, hold := none, waits := waits, rested := false
      blank := d.pcfg n Ix.AX_PRF_STALL 3 * 256, baseSum := 0, baseN := 0, stallRun := 0 }
  if d.homeMethod n == 0 then (d1.wrA Ix.AX_PRF_POS n 0 (d.pcfg n Ix.AX_PRF_HOME 7)).homed now n
  else if waits then d1.checkpoint now false else d1

/-- The direction and speed of a homing step: the search goes toward DIR, the release and the return away from it. -/
def Device.homeGoal (d : Device) (n : Nat) (h : HomeStep) : Bool × Nat :=
  let dir := d.pcfg n Ix.AX_PRF_HOME 2 == 1
  match h with
  | .search => (dir, d.pcfg n Ix.AX_PRF_HOME 5)
  | .release | .back => (!dir, d.pcfg n Ix.AX_PRF_HOME 6)
  | .stopping | .failing => (dir, 0)
  | .ending => (!dir, 0)

/-- A homing at a profile tick: ACC both ways, JERK 0. -/
def Device.planHome (d : Device) (now n : Nat) (h : HomeStep) : Device :=
  let p := d.prf n
  let acc := d.pcfg n Ix.AX_PRF_HOME 9
  let far := d.pcfg n Ix.AX_PRF_HOME 8 ≤ p.moved
  let (back, speed) := d.homeGoal n h
  let slow := d.setVel n (slowStep p.v acc (d.vStart n))
  match h with
  | .stopping =>
    if p.v == 0 then d.onPrf n fun p => { p with homing := some .back, moved := 0 } else slow
  | .ending => if p.v == 0 then d.homed now n else slow
  | .failing => if p.v == 0 then d.standStill now n else slow
  | _ =>
    if far then d.homeFails now n (if h == .search then 1 else 2)
    else if p.v != 0 && d.bitOfA Ix.AX_PRF_STATUS n 2 != back then slow
    else
      let goal : Int := if p.v < speed * 65536 then (acc * 65536 : Nat) else 0
      let (v, _) := planStep p.v 0 goal 0 (d.vStart n * 65536) (speed * 65536)
      (d.setDir n back).setVel n v

/-- HOME_PIN_EDGE (R288): the pin takes `level`; `steps` microsteps have been made since the edge's time stamp. [log 59: DEDUCED] -/
def Device.homeEdge (d : Device) (n : Nat) (level : Bool) (steps : Nat) : Device :=
  let d1 := d.onPrf n fun p => { p with pinOn := level }
  if d1.prfState n != 5 then d1
  else
    let edge := pat 32 ((d1.rdA Ix.AX_PRF_POS n : Int) - d1.genSign n * steps)
    let zero := d1.wrA Ix.AX_PRF_POS n 0 (pat 32 ((d1.rdA Ix.AX_PRF_POS n : Int) + d1.pcfg n Ix.AX_PRF_HOME 7 - edge))
    let on := d1.pinActive n
    match (d1.prf n).homing, d1.homeMethod n with
    | some .release, 1 => if on then d1 else d1.onPrf n fun p => { p with homing := some .search, moved := 0 }
    | some .search, 1 => if on then d1.onPrf n fun p => { p with homing := some .stopping } else d1
    | some .back, 1 => if on then d1 else zero.onPrf n fun p => { p with homing := some .ending }
    | some .search, 3 => if on then zero.onPrf n fun p => { p with homing := some .ending } else d1
    | _, _ => d1

/-! ### The set current (R280, R281) -/

/-- The start of a pending computation: an armed change whose full step was reached takes effect (R280 item 2). -/
def Device.modeAtPending (d : Device) (n : Nat) : Device :=
  match (d.prf n).armed with
  | some x => if (d.prf n).reached then d.changeMode n x else d
  | none => d

/-- I_RUN. -/
def Device.iRun (d : Device) (n : Nat) : Int := sgn 16 (d.pcfg n Ix.AX_PRF_STEPPER 1)

/-- I_hold = I_RUN × HOLD_FRAC. -/
def Device.iHold (d : Device) (n : Nat) : Int := (frac16Of (mulFF (d.iRun n) (sgn 16 (d.pcfg n Ix.AX_PRF_STEPPER 2)))).val

/-- Cycles of HOLD_RAMP: its time over the current-loop period, rounded up. -/
def Device.rampCycles (d : Device) (n : Nat) : Nat :=
  match d.loopPeriod n with
  | some t => max 1 (ceilDiv (d.pcfg n Ix.AX_PRF_STEPPER 4 * 5120000) (max 1 t))
  | none => 1

/-- The set current at the start of a cycle (R281). [log 59: DEDUCED] -/
def Device.setCurrent (d : Device) (n : Nat) : Device :=
  let set := fun (i : Int) (reduced : Bool) => (d.wrAI Ix.AX_PRF_I_SET n 0 (d.derated n i)).wrBitA Ix.AX_PRF_STATUS n 0 5 reduced
  if !d.stepper n then d
  else if d.axisState n == 2 then set (d.iHold n) true
  else if d.prfState n != 1 then (set (d.iRun n) false).onPrf n fun p => { p with hold := none }
  else match (d.prf n).hold with
    | none => set (d.iRun n) false
    | some k =>
      let all := d.rampCycles n
      let j := min all (k + 1)
      let i := d.iRun n - divRne ((d.iRun n - d.iHold n) * j) all
      (set i (j == all)).onPrf n fun p => { p with hold := some j }

/-! ### Group moves (R293, R294) -/

/-- A member leaves the line and stops at a deceleration, from its own share of the master's velocity. [log 60: DEDUCED] -/
def Device.leaveLine (d : Device) (now n dec : Nat) : Device :=
  ((d.setDir n (d.genVelocity n < 0)).setVel n (d.fineVel n)).stopping now n dec

/-- The group move and its queue are over. -/
def Device.groupOver (d : Device) : Device :=
  let d1 := { d with interp := { d.interp with queue := [], move := none, steps := 0, v := 0, a := 0, carry := 0, waits := false, total := 0 } }
  ((d1.wr Ix.INT_QUEUE 0 0).wrBit Ix.INT_STATUS 0 3 false).wrBit Ix.INT_STATUS 0 2 false |>.wr Ix.INT_MASTER 0 0xFF

/-- Every moving member stops, each at a deceleration of its own. [log 60: DEDUCED] -/
def Device.groupStop (d : Device) (now : Nat) (dec : Nat → Nat) (but : Option Nat) : Device :=
  (d.members.foldl (fun e n => if e.prfState n == 6 && some n != but then e.leaveLine now n (dec n) else e) d).groupOver

/-- DSTOP. -/
def Device.dStop (d : Device) (n : Nat) : Nat := d.pcfg n Ix.AX_PRF_CFG 3

/-- A member is disabled, takes a safe state, stalls or loses its position during a group move (R294). [log 60: DEDUCED] -/
def Device.groupAbort (d : Device) (now n : Nat) : Device :=
  if d.interp.move.isSome && d.member n then
    ((d.groupStop now d.dStop (some n)).wrBit Ix.INT_STATUS 0 4 true).post now 0xA8 0x43 n
  else d

/-- The move that `INT_MOVE` holds. -/
def Device.heldGroup (d : Device) : GroupMove :=
  let f := fun s => d.rd Ix.INT_MOVE s
  ⟨f 1, [f 2, f 3, f 4, f 5], f 6, f 7, f 8, f 9⟩

/-- The distance of member `n`, k-th of the group, under a group move from a position. -/
def GroupMove.distance (g : GroupMove) (k p : Nat) : Int :=
  let t := g.targets.getD k 0
  if g.kind == 0 then posDiff t p else sgn 32 t

/-- What a push of a group move is answered (R293); a full queue is BUSY, as for an axis. [log 58: DEDUCED] -/
def Device.groupStatus (d : Device) (g : GroupMove) : Nat :=
  if d.members.isEmpty || d.members.any (fun n => !d.enabled n || (d.stepper n && !d.bitOfA Ix.AX_PRF_STATUS n 3)) then 0x0F
  else if 16 ≤ d.interp.queue.length then 0x0A
  else if g.acc == 0 || g.dec == 0 || (d.members.zipIdx).any (fun (n, k) => g.distance k (d.rdA Ix.AX_PRF_POS n) == lo32) then 0x04
  else 0

/-- A group move enters the queue. -/
def Device.groupPush (d : Device) (g : GroupMove) : Device :=
  let q := d.interp.queue ++ [g]
  (({ d with interp := { d.interp with queue := q } }).wr Ix.INT_QUEUE 0 q.length).wrBit Ix.INT_STATUS 0 3 (q.length == 16)

/-- VSTART of the group: the master's. -/
def Device.groupStart (d : Device) (now : Nat) : Device :=
  match d.interp.queue with
  | [] => d
  | g :: rest =>
    let ms := d.members
    let dists := (ms.zipIdx).map fun (n, k) => (n, g.distance k (d.rdA Ix.AX_PRF_POS n))
    let best := dists.foldl (fun (b : Nat × Int) x => if b.2.natAbs < x.2.natAbs then x else b) (dists.headD (0, 0))
    let d1 := dists.foldl (fun e (n, x) =>
      ((e.setPrfState n 6).setDir n (x < 0)).onPrf n fun p => { p with start := d.rdA Ix.AX_PRF_POS n, dist := x, moved := 0, blank := d.pcfg n Ix.AX_PRF_STALL 3 * 256, baseSum := 0, baseN := 0, stallRun := 0 }) d
    let wait := ms.any d.stepper
    let d2 := { d1 with interp := { d1.interp with queue := rest, move := some g, steps := 0, v := d.vStart best.1 * 65536, a := 0, carry := 0, waits := wait, total := best.2.natAbs } }
    let d3 := ((d2.wr Ix.INT_MASTER 0 best.1).wr Ix.INT_QUEUE 0 rest.length).wrBit Ix.INT_STATUS 0 3 false |>.wrBit Ix.INT_STATUS 0 2 true
    if wait then d3.checkpoint now false else d3

/-- The velocities of the members on the line are shown, and their mode changes armed. -/
def Device.showGroup (d : Device) : Device :=
  d.members.foldl (fun e n =>
    if e.prfState n != 6 then e
    else ((e.wrA Ix.AX_PRF_VEL n 0 (e.genVelocity n).natAbs).wrBitA Ix.AX_PRF_STATUS n 0 0 (0 < e.fineVel n)).armMode n) d

/-- The group's line is finished: every member rests at its target. -/
def Device.groupEnds (d : Device) (now : Nat) : Device :=
  let rest := d.interp.queue
  let d1 := d.members.foldl (fun e n => if e.prfState n == 6 then (e.incA Ix.AX_PRF_COUNT n 1).standStill now n else e) d
  let d2 := { d1 with interp := { d1.interp with move := none, steps := 0, v := 0, a := 0, carry := 0, waits := false, total := 0 } }
  let d3 := (d2.wrBit Ix.INT_STATUS 0 2 false).wr Ix.INT_MASTER 0 0xFF
  if rest.isEmpty || d3.members.any (fun n => d3.prfState n != 1) then d3 else d3.groupStart now

/-- The master's profile at a profile tick (R293 item 2). -/
def Device.planGroup (d : Device) (now : Nat) : Device :=
  match d.interp.move with
  | none => if d.interp.queue.isEmpty || d.members.any (fun n => d.prfState n != 1) then d else d.groupStart now
  | some g =>
    let t := d.interp
    let master := d.rd Ix.INT_MASTER
    let left := t.total - t.steps
    if t.waits then d
    else if left == 0 then d.groupEnds now
    else
      let near := left ≤ stopDist t.v t.a 0 g.dec g.jerk + t.v / 65536 * 100 / 2 ^ 32 + 1
      let goal : Int := if near then -(g.dec * 65536 : Nat) else if t.v < g.vMax * 65536 then (g.acc * 65536 : Nat) else 0
      let (v, a) := planStep t.v t.a goal g.jerk (d.vStart master * 65536) (g.vMax * 65536)
      ({ d with interp := { d.interp with v := v, a := a } }).showGroup

/-- The group's rate multiplier at a step tick: after master step s, the position of a member on the line is start + round(d_k × s / D) (R293 item 3). [log 60: DEDUCED] -/
def Device.multiplyGroup (d : Device) : Device :=
  let t := d.interp
  if t.move.isNone || t.waits || t.total ≤ t.steps then d
  else
    let sum := t.carry + t.v / 65536
    let s := if 2 ^ 32 ≤ sum then t.steps + 1 else t.steps
    let d1 := { d with interp := { d.interp with carry := sum % 2 ^ 32, steps := s } }
    if s == t.steps then d1
    else d1.members.foldl (fun e n =>
      let k := (e.prf n).dist
      let old := divRne (k * (t.steps : Nat)) t.total
      let new := divRne (k * (s : Nat)) t.total
      if old == new || e.prfState n != 6 then e else e.microstep n (old < new)) d1

/-! ### Stall detection (R287) -/

/-- A stall is detected (R287, R288): in a STALL homing it sets the position; outside homing it acts where STALL_EN is set. -/
def Device.stalled (d : Device) (now n : Nat) : Device :=
  if d.prfState n == 5 then
    if d.homeMethod n == 2 then ((d.wrA Ix.AX_PRF_POS n 0 (d.pcfg n Ix.AX_PRF_HOME 7)).setVel n 0).homed now n else d
  else if !bit (d.pcfg n Ix.AX_PRF_CFG 4) 0 then d
  else
    let full := min 0xFFFF ((d.prf n).moved / 256)
    let d1 := (d.groupAbort now n).emptyQueue n
    let d2 := ((d1.losePosition now n 3).incA Ix.AX_PRF_COUNT n 6).wrBitA Ix.AX_PRF_STATUS n 0 8 true
    (d2.post now (srcByte 0xA n) 0x41 full).standStill now n

/-- One hold in quiet mode on the winding currents and the angle of the hold (R287). A hold with a current missing neither adds to the count nor clears it. M is formed and reported at standstill as well, but no hold counts there: a rotor held against a stop stands without a stall (Table 14.6, 3,071 to 3,100 ms). A blanking interval without a hold in its last full step leaves the baseline open: a free value. [log 59: DEDUCED] -/
def Device.stallHold (d : Device) (now n : Nat) (ia ib : Option Int) (theta : Nat) : Device :=
  if !d.stepper n || d.strong n then d
  else match ia, ib with
    | some a, some b =>
      let q := frac16Of (-(a * sin16 theta) + b * cos16 theta)
      let p := d.prf n
      let d0 := d.satGen n q.sat
      if 0 < p.blank then
        if p.blank ≤ 256 then d0.onPrf n fun p => { p with baseSum := p.baseSum + q.val, baseN := p.baseN + 1, stallRun := 0 } else d0
      else
        let d1 := if p.baseN == 0 then (d0.onPrf n fun p => { p with baseSum := sgn 16 (d0.peekFree 16), baseN := 1 }).drawn else d0
        let base := divRne (d1.prf n).baseSum (d1.prf n).baseN
        let m := d1.genSign n * (q.val - base)
        let run := if d1.fineVel n == 0 then 0 else if sgn 16 (d1.pcfg n Ix.AX_PRF_STALL 1) ≤ m then p.stallRun + 1 else 0
        let d2 := (d1.wrAI Ix.AX_PRF_STALL_METRIC n 0 (limit16 m).val).onPrf n fun p => { p with stallRun := run, base := base }
        if 1 ≤ run && d2.pcfg n Ix.AX_PRF_STALL 2 ≤ run then (d2.onPrf n fun p => { p with stallRun := 0 }).stalled now n else d2
    | _, _ => d

/-! ### Ticks -/

/-- A trip of one of the axis's legs while v > 0 loses the position (R289). [log 59: DEDUCED] -/
def Device.tripLoss (d : Device) (now n : Nat) : Device :=
  if d.stepper n && d.bitOfA Ix.AX_PRF_STATUS n 3 && d.bitOfA Ix.AX_PRF_STATUS n 0 && (d.axisLegs n).any (fun l => (d.leg l).latched) then
    (d.losePosition now n 2).groupAbort now n
  else d

/-- STEP_TICK for every axis and the interpolator (R278, R293). -/
def Device.stepTick (d : Device) (now : Nat) : Device :=
  let d1 := axes.foldl (fun e n => if e.prfState n == 6 then e.tripLoss now n else (e.tripLoss now n).multiply n) d
  d1.multiplyGroup

/-- One axis at a profile tick (R282 to R286, R296). -/
def Device.planAxis (d : Device) (now n : Nat) : Device :=
  let p := d.prf n
  let st := d.prfState n
  if p.waits then d
  else if st == 1 then
    let d1 := if d.bitOfA Ix.AX_PRF_STATUS n 6 then (d.takePrf n).armMode n else d
    if p.queue.isEmpty then d1 else d1.startMove now n 0
  else if st == 2 then
    match p.move with
    | none => d
    | some m =>
      if d.reversing n m then
        let v := slowStep p.v m.dec (d.vStart n)
        if v == 0 then
          let d1 := d.setVel n 0
          if m.kind == 3 then d1.setPrfState n 3
          else (d1.setDir n (match p.target with
            | some t => posDiff t (d1.rdA Ix.AX_PRF_POS n) < 0
            | none => d1.moveSign n m < 0)).setVel n (d.vStart n * 65536)
        else d.setVel n v
      else match p.target with
        | some t => d.planMove now n m t
        | none => d.planVel now n m
  else if st == 4 then
    let v := slowStep p.v p.stopDec (d.vStart n)
    if v == 0 then d.standStill now n else d.setVel n v
  else if st == 5 then
    match p.homing with
    | some h => d.planHome now n h
    | none => d
  else d

/-- PROFILE_TICK for every axis and the interpolator. -/
def Device.profileTick (d : Device) (now : Nat) : Device := (axes.foldl (fun e n => e.planAxis now n) d).planGroup now

/-- STANDSTILL_CHECKPOINT_DONE (R290): the move, homing or group move of axis `n` may begin stepping. -/
def Device.leaveCheckpoint (d : Device) (n : Nat) : Device :=
  let d1 := d.onPrf n fun p => { p with waits := false }
  if d.member n then { d1 with interp := { d1.interp with waits := false } } else d1

/-- HOLD_DELAY_END (R281). -/
def Device.holdDelayEnd (d : Device) (n : Nat) : Device :=
  if d.stepper n && d.prfState n == 1 && (d.prf n).hold.isNone then d.onPrf n fun p => { p with hold := some 0 } else d

/-- MOVE_DWELL_END: a DWELL entry's time ends (Table 14.1). -/
def Device.dwellEnds (d : Device) (now n : Nat) : Device := if d.prfState n == 3 then d.moveEnds now n else d

/-! ### Commands -/

/-- FLUSH (R285): the queue is emptied, and the axis stops at the present move's DEC, a member of a group leaving the line. Homing goes on. [log 58: DEDUCED] -/
def Device.flush (d : Device) (now n : Nat) : Device :=
  let d1 := d.emptyQueue n
  match d.prfState n, (d.prf n).move, d.interp.move with
  | 2, some m, _ => d1.stopping now n m.dec
  | 3, _, _ => d1.standStill now n
  | 6, _, some g => d1.leaveLine now n g.dec
  | _, _, _ => d1

/-- QUICK_STOP (R285, R288): the queue is emptied, and the axis stops at DSTOP; it ends a homing without a report. [log 58: DEDUCED] -/
def Device.quickStop (d : Device) (now n : Nat) : Device :=
  let st := d.prfState n
  let d1 := d.emptyQueue n
  if st == 6 then d1.leaveLine now n (d.dStop n)
  else if st == 2 || st == 3 || st == 4 || st == 5 then d1.stopping now n (d.dStop n)
  else d1

/-- What HOME is answered (R285, R291, R292). -/
def Device.homeStatus (d : Device) (n : Nat) : Nat :=
  if !d.stepper n || d.member n then 0x0F else if d.prfState n != 1 then 0x0A else 0

/-- INT_CMD FLUSH and QUICK_STOP (R294): every member stops at the group move's DEC, or at its own DSTOP. [log 60: DEDUCED] -/
def Device.groupFlush (d : Device) (now : Nat) (quick : Bool) : Device :=
  match d.interp.move with
  | some g => d.groupStop now (fun n => if quick then d.dStop n else g.dec) none
  | none => d.groupOver

/-! ### Enable, disable, safe states, boot -/

/-- The generator at an enable (R285, R289, R291, R280 item 6). -/
def Device.prfEnable (d : Device) (now n : Nat) : Device :=
  let d1 := (d.takePrf n).emptyQueue n
  if d1.stepper n then
    let d2 := (d1.wrBitA Ix.AX_PRF_STATUS n 0 4 (d1.pcfg n Ix.AX_PRF_STEPPER 7 == 2)).wrAI Ix.AX_PRF_I_SET n 0 (d1.derated n (d1.iRun n))
    let d3 := d2.onPrf n fun p => { p with armed := none, reached := false, quietV := [0, 0], blank := 0, baseSum := 0, baseN := 0, stallRun := 0 }
    if d3.bitOfA Ix.AX_PRF_STATUS n 3 then d3.standStill now n else d3.homeStart now n false
  else (d1.wrA Ix.AX_PRF_POS n 0 (d1.rdA Ix.AX_FE_POSITION n)).standStill now n

/-- The generator at a disable or safe state (R285, R289, R294): IDLE. A HOLD safe state loses the position only above VSTART, and sets I to I_hold (R281). -/
def Device.prfStop (d : Device) (now n : Nat) (hold : Bool) : Device :=
  let lost := if hold then d.vStart n * 65536 < d.fineVel n else 0 < d.fineVel n
  let d0 := if d.prfState n == 6 then d.groupAbort now n else d
  let d1 := if lost then d0.losePosition now n 2 else d0
  let d2 := if hold then ((d1.emptyQueue n).setVel n 0).setPrfState n 0 else ((d1.emptyQueue n).setPrfState n 0).setVel n 0
  let d3 := d2.onPrf n fun p =>
    { p with move := none, target := none, join := none, homing := none, waits := false, hold := none, armed := none, reached := false, dist := 0 }
  if hold then (d3.wrAI Ix.AX_PRF_I_SET n 0 (d3.derated n (d3.iHold n))).wrBitA Ix.AX_PRF_STATUS n 0 5 true
  else (if d3.bitOfA Ix.AX_PRF_STATUS n 6 then d3.takePrf n else d3).wrBitA Ix.AX_PRF_STATUS n 0 5 false

/-- The generators at boot (R289, R290): the settings load, and a stepper's position is known only where the checkpoint says so and REHOME_ALWAYS is clear. -/
def Device.prfBoot (d : Device) (now n : Nat) : Device :=
  let d1 := d.takePrf n
  if !d1.stepper n then d1
  else if !d1.restoredKnown n then (d1.incA Ix.AX_PRF_COUNT n 5).post now (srcByte 0xA n) 0x40 1
  else if bit (d1.pcfg n Ix.AX_PRF_CFG 4) 1 then (d1.incA Ix.AX_PRF_COUNT n 5).post now (srcByte 0xA n) 0x40 5
  else d1.wrBitA Ix.AX_PRF_STATUS n 0 3 true

/-- The enable check of R277: on a stepper, slots 0 and 1 take their references from the generator, and slots 2 and 3 are OFF. -/
def Device.stepperOk (d : Device) (n : Nat) : Bool :=
  !d.stepper n || ((d.srcOf n 0).1 == 0 && (d.srcOf n 1).1 == 0 && d.modeOf n 2 == 0 && d.modeOf n 3 == 0)

/-! ### Commits (R292, R296) -/

/-- The conditions of R296, in order. Condition 1 restates the ranges that each staged write met. -/
def prfConds (_d m : Device) (n : Nat) : List Bool :=
  let f := fun ix sub => m.rdA ix n sub
  let vs := f Ix.AX_PRF_CFG 1
  let vl := f Ix.AX_PRF_CFG 2
  let top := divRne (m.rdA Ix.AX_W_BASE n * 4398046511) 10000000
  let method := f Ix.AX_PRF_HOME 1
  let pin := f Ix.AX_PRF_HOME 3
  let others := axes.any fun k => (k != n && m.rdA Ix.AX_PRF_HOME k 3 == pin) || (m.posPins k).contains pin
  [ true,
    vs < f Ix.AX_PRF_STEPPER 6 && f Ix.AX_PRF_STEPPER 6 < f Ix.AX_PRF_STEPPER 5 && f Ix.AX_PRF_STEPPER 5 ≤ vl && (vl : Int) ≤ top,
    vs ≤ f Ix.AX_PRF_HOME 5 && f Ix.AX_PRF_HOME 5 ≤ vl && vs ≤ f Ix.AX_PRF_HOME 6 && f Ix.AX_PRF_HOME 6 ≤ vl,
    if method == 1 || method == 3 then pin < 16 && !others else pin == 0xFF,
    method != 2 || (f Ix.AX_PRF_HOME 5 < f Ix.AX_PRF_STEPPER 6 && f Ix.AX_PRF_STEPPER 7 != 2) ]

/-- The generator's set applies (R296): at once on a disabled axis, else at the next profile tick in STANDSTILL. -/
def Device.applyPrf (d : Device) (n : Nat) : Device :=
  (if d.countsEnabled n then d.wrBitA Ix.AX_PRF_STATUS n 0 6 true else d.takePrf n).showOwners

/-- The conditions of R292, in order. -/
def intConds (d m : Device) : List Bool :=
  let new := m.rd Ix.INT_GROUP
  let old := d.rd Ix.INT_GROUP
  [ (maskList 8 new).length ≤ 4 && new < 256,
    (maskList 8 new).all fun n => d.stepper n || (d.threePhase n && (d.bank n).rd Ix.AX_CE_SRC n 4 / 256 == 0x10),
    axes.all fun n => new.testBit n == old.testBit n || !d.countsEnabled n || (d.prfState n == 1 && (d.prf n).queue.isEmpty),
    d.interp.move.isNone && d.interp.queue.isEmpty ]

/-- The group applies: ACTIVE follows. -/
def Device.applyInt (d : Device) : Device := d.wrBit Ix.INT_STATUS 0 0 (d.rd Ix.INT_GROUP != 0)

/-! ### Meanings -/

/-- STEP_TICK (R278). [log 2: DESIGN CHOICE] -/
def execStepTick (s : State) : Host.Outcome State Fault Refusal := s.onRunning fun now d => d.stepTick now

/-- PROFILE_TICK (R282). [log 2: DESIGN CHOICE] -/
def execProfileTick (s : State) : Host.Outcome State Fault Refusal := s.onRunning fun now d => d.profileTick now

/-- HOME_PIN_EDGE (R288): the homing pin of axis `n` takes `level`; `steps` microsteps were made since the edge. -/
def execHomePinEdge (n : Fin 8) (level : Bool) (steps : Nat) (s : State) : Host.Outcome State Fault Refusal :=
  s.onRunning fun _ d =>
    let d1 := d.posLevel (d.rdA Ix.AX_PRF_HOME n 3) level
    if d.pcfg n Ix.AX_PRF_HOME 3 < 16 then d1.homeEdge n level steps else d1

/-- HOLD_DELAY_END (R281). -/
def execHoldDelayEnd (n : Fin 8) (s : State) : Host.Outcome State Fault Refusal := s.onRunning fun _ d => d.holdDelayEnd n

/-- MOVE_DWELL_END (R284). -/
def execMoveDwellEnd (n : Fin 8) (s : State) : Host.Outcome State Fault Refusal := s.onRunning fun now d => d.dwellEnds now n

end Sys2Proof.Machine
end

