-- ==== Sys2Proof/Machine/Start.lean ====
section
/-! DEFINITION. The start and recovery procedure of three-phase axes (R256 to R276): requests, catching, braking, the dwell, starting from rest, handover, rotor loss, and the locked rotor. -/

namespace Sys2Proof.Machine

/-! ### Settings and states -/

/-- A setting of the procedure in use (R273). -/
def Device.scfg (d : Device) (n index sub : Nat) : Nat := readCells (d.st n).cfg (axIx index n) sub

/-- The positions of the procedure's Staged set on axis `n`. -/
def stKey (n : Nat) (k : ObjKey) : Bool := axIx Ix.AX_ST_FLAGS n ≤ keyIndex k && keyIndex k ≤ axIx Ix.AX_ST_LOCK n

/-- The accepted settings come into use (R273). -/
def Device.takeSt (d : Device) (n : Nat) : Device := d.onSt n fun s => { s with cfg := d.objs.filter fun (k, _) => stKey n k }

/-- The state of Table 13.1. -/
def Device.stState (d : Device) (n : Nat) : Nat := d.rdA Ix.AX_ST_STATE n

/-- A start or recovery is in progress in this state. -/
def inProgress (s : Nat) : Bool := (1 ≤ s && s ≤ 7) || s == 10 || s == 11

/-- Slots 0 and 1 are computed in this state of Table 13.1, on references that the procedure sets. -/
def pairComputed (s : Nat) : Bool := s == 2 || s == 5 || s == 7

/-- Slots 0 and 1 enter AUTO, where they stay while the procedure sets their references (R257); they start from an integrator of 0. [log 56: DEDUCED] -/
def Device.pairAuto (d : Device) (n : Nat) : Device :=
  [0, 1].foldl (fun e s => ((e.setInteg n s 0).setSlotState n s 4).onSlot n s fun x => { x with enter := false, preset := false }) d

/-- A start or recovery is in progress: its states, and RUN while an injection start can still fail as an attempt (R265). -/
def Device.starting (d : Device) (n s : Nat) : Bool := inProgress s || (s == 8 && (d.st n).injected)

/-- Enter a state of Table 13.1. A committed set applies, unless a start or recovery goes on through the change (R273). Outside RUN there is no torque ramp (R267), and slots 0 and 1 are in AUTO (R257); their integrators go on only from one computed state to the next. [log 56: DEDUCED] -/
def Device.stEnter (d : Device) (n s : Nat) : Device :=
  let old := d.stState n
  let d1 := if d.starting n old && d.starting n s then d else d.takeSt n
  let d2 := (d1.wrA Ix.AX_ST_STATE n 0 s).onSt n fun x =>
    { x with cycles := 0, window := none, iEff := if s == 8 then x.iEff else none }
  let d3 := if s == 8 then d2 else d2.wrBitA Ix.AX_ST_STATUS n 0 0 false
  if s == 8 || s == 12 || (pairComputed old && pairComputed s) then d3 else d3.pairAuto n

/-- The axis has a sensor (R272). -/
def Device.sensored (d : Device) (n : Nat) : Bool := d.rdA Ix.AX_FE_ANGLE_SRC n != 0

/-- Slots 2 to 5 outside RUN: not computed, integrators and outputs 0 (R257). [log 46: DEDUCED] -/
def Device.slotsIdle (d : Device) (n : Nat) : Device :=
  [2, 3, 4, 5].foldl (fun e s =>
    (((e.setInteg n s 0).setSlotState n s 0).wrA Ix.AX_CE_OUT n (s + 1) 0).onSlot n s SlotRun.cleared) d

/-- The reference of slot `s` by its source. -/
def Device.slotRef (d : Device) (n s : Nat) : Int := d.refOf n s (d.bank n)

/-- Slot 2 is in AUTO or RAMP: its mode asks for it (R256). -/
def Device.speedLoop (d : Device) (n : Nat) : Bool := d.modeOf n 2 == 2

/-- The direction of a start (R256). -/
def Device.startDir (d : Device) (n : Nat) : Int :=
  let r := if d.speedLoop n then d.slotRef n 2 else d.slotRef n 1
  if r < 0 then -1 else 1

/-- The angle source's own tracker: the sensor's, or the observer's. -/
def Device.ownTracker (d : Device) (n : Nat) : Tracker := if d.sensored n then (d.fe n).sensor else (d.fe n).obs

/-- The gates go off and CATCH begins (R258). -/
def Device.enterCatch (d : Device) (n : Nat) : Device :=
  let d1 := (d.stEnter n 1).slotsIdle n
  let d2 := d1.onSt n fun s => { s with catcher := Tracker.rest, run := 0, slow := true, pausing := false }
  if d.sensored n then d2 else d2.feEnter n 1

/-- The direction of a start is fixed at its request (R256). -/
def Device.fixDir (d : Device) (n : Nat) : Device := d.onSt n fun s => { s with dir := d.startDir n }

/-- A requested start begins, with attempt 0 (R263). -/
def Device.startNow (d : Device) (n : Nat) : Device := (d.onSt n fun s => { s with attempt := 0, injected := false }).enterCatch n

/-- A start request that begins at once (R256). -/
def Device.startRequest (d : Device) (n : Nat) : Device := (d.fixDir n).startNow n

/-- STOPPED: the gates are off (R257). [log 56: DEDUCED] -/
def Device.enterStopped (d : Device) (n : Nat) : Device :=
  let d2 := ((d.stEnter n 9).slotsIdle n).onSt n fun s => { s with pausing := false, injected := false }
  if d.sensored n then d2 else d2.feEnter n 1

/-! ### Back-EMF (R259, R261, R269) -/

/-- √3 × |ω| × ψ in ACC40, with √3 as 0x1BB6. -/
def Device.backEmf (d : Device) (n : Nat) (w : Int) : Int :=
  mulGG (gain16Of (mulFG (speedFrac w).natAbs 0x1BB6)).val (d.modelOf n 4)

/-- The back-EMF is below `tenths` tenths of the link voltage. -/
def Device.emfBelow (d : Device) (n : Nat) (w : Int) (tenths : Int) : Bool :=
  10 * d.backEmf n w < tenths * d.rdAS 16 Ix.AX_FE_VLINK n * 32768

/-! ### Entering RUN (R266, R267) -/

/-- The observer's flux integral and tracker are preset (R259). -/
def Device.presetObserver (d : Device) (n theta : Nat) (w : Int) : Device :=
  let psi := d.modelOf n 4
  d.onFe n fun f =>
    { f with psiA := mulFG (cos16 theta) psi, psiB := mulFG (sin16 theta) psi, obs := Tracker.preset theta w }

/-- RUN is entered (R266) after `tries` attempts: the slots take the states of their modes as at an enable; slot 2 ramps from the SPEED32 `w`, with its integrator preset where given; slot 3 ramps from the position. With a torque ramp the references that a slot supplies are bounded at once (R267). [log 56: DEDUCED] -/
def Device.enterRun (d : Device) (n : Nat) (w : Int) (torque : Option Int) (tries : Nat) : Device :=
  let speed := speedStore w
  let d2 := slots.foldl (fun e s => e.startSlot n s) (d.stEnter n 8)
  let d3 := if d2.modeOf n 2 == 2 then
      let i := match torque with
        | some q => clampI ((d2.bank n).coef n 2).outMin ((d2.bank n).coef n 2).outMax q * 32768
        | none => 0
      (((d2.setInteg n 2 i).setSlotState n 2 3).onSlot n 2 fun x => { x with rEff := speed.val, enter := false }).satSlot n 2 speed.sat
    else d2
  let d4 := if d3.modeOf n 3 == 2 then (d3.setSlotState n 3 3).onSlot n 3 fun x => { x with enter := true } else d3
  let d5 := (d4.wrBitA Ix.AX_FE_STATUS n 0 5 false).wrA Ix.AX_ST_RESULT n 5 tries
  if (d5.st n).iEff.isSome then [0, 1].foldl (fun e x => if ((e.bank n).refSlot n x).isSome then e.formRef n x else e) d5 else d5

/-- Torque is to resume from zero in the RUN that follows, with the step of the settings in use (R267, R273). -/
def Device.torqueRamp (d : Device) (n : Nat) : Device :=
  (d.onSt n fun s => { s with iEff := some 0, tqStep := sgn 16 (d.scfg n Ix.AX_ST_TQ_RAMP 0) }).wrBitA Ix.AX_ST_STATUS n 0 0 true

/-- One step of I_eff at a computation cycle. -/
def Device.torqueStep (d : Device) (n : Nat) : Device :=
  match (d.st n).iEff with
  | none => d
  | some i =>
    if d.stState n != 8 then d
    else
      let lim := sgn 16 ((d.bank n).rd Ix.AX_CE_I_LIMIT n 0)
      let j := i + (d.st n).tqStep
      if lim ≤ j then (d.onSt n fun s => { s with iEff := none }).wrBitA Ix.AX_ST_STATUS n 0 0 false
      else d.onSt n fun s => { s with iEff := some j }

/-! ### Attempts (R263) -/

/-- NO_REVERSE is set. -/
def Device.noReverse (d : Device) (n : Nat) : Bool := bit (d.scfg n Ix.AX_ST_FLAGS 0) 0

/-- The last attempt's number. -/
def Device.lastAttempt (d : Device) (n : Nat) : Nat := d.scfg n Ix.AX_ST_RETRY 1 + (if d.noReverse n then 0 else 1)

/-- An attempt's current: the setting plus a × I_STEP, limited to `AXn_CE_I_LIMIT`. [log 56: DEDUCED] -/
def Device.attemptCurrent (d : Device) (n index sub : Nat) : Int :=
  min (sgn 16 ((d.bank n).rd Ix.AX_CE_I_LIMIT n 0))
    (sgn 16 (d.scfg n index sub) + (d.st n).attempt * sgn 16 (d.scfg n Ix.AX_ST_RETRY 2))

/-- An attempt fails (R263). After the last one START_FAILED is posted; otherwise the gates are off for PAUSE. [log 56: DEDUCED] -/
def Device.failAttempt (d : Device) (now n cause : Nat) : Device :=
  let a := (d.st n).attempt
  let d1 := ((d.post now (srcByte 9 n) 0x48 cause).incA Ix.AX_ST_COUNT n 2).wrA Ix.AX_ST_RESULT n 5 (a + 1)
  if d1.lastAttempt n ≤ a then
    (((d1.stEnter n 12).slotsIdle n).wrBitA Ix.AX_ST_STATUS n 0 8 true).post now (srcByte 9 n) 0x44 (a + 1)
  else
    let d2 := (d1.enterCatch n).onSt n fun s => { s with attempt := a + 1, injected := false }
    if d2.scfg n Ix.AX_ST_RETRY 3 == 0 then d2 else d2.onSt n fun s => { s with pausing := true }

/-- A start from rest: ALIGN or PULSE (R263). -/
def Device.startFromRest (d : Device) (n : Nat) : Device :=
  let d1 := if d.sensored n then d else d.feEnter n 1
  if d1.noReverse n || d1.scfg n Ix.AX_ST_RETRY 1 < (d1.st n).attempt then
    ((d1.stEnter n 6).wrBitA Ix.AX_ST_STATUS n 0 4 true).onSt n fun s =>
      { s with pulse := 0, periods := 0, again := false, readings := [], lostRead := false }
  else d1.stEnter n 5

/-- DWELL begins (R262). -/
def Device.enterDwell (d : Device) (n : Nat) : Device :=
  (((d.feEnter n 1).stEnter n 4).incA Ix.AX_ST_COUNT n 5).wrBitA Ix.AX_ST_STATUS n 0 3 true

/-- After ALIGN or PULSE the angle is known (R265). -/
def Device.angleKnown (d : Device) (n theta : Nat) : Device :=
  if d.fcfg n Ix.AX_FE_INJ_CFG 1 == 1 then
    let d1 := d.onSt n fun s => { s with injected := true }
    let d2 := (d1.onFe n fun f => { f with inj := Tracker.preset theta 0, refused := 0, wait := 0 }).feEnter n 2
    ((d2.torqueRamp n).enterRun n 0 none ((d.st n).attempt + 1)).incA Ix.AX_ST_COUNT n 1
  else (d.stEnter n 7).onSt n fun s => { s with thetaF := theta * 65536, omegaF := 0 }

/-! ### The catch (R258, R259, R272) -/

/-- A tracker that follows a rotating vector (R258 item 2, R261): the size of the vector, ε, the tracker at the next hold, and the SAT of their stores. -/
structure VectorHold where
  size : Int
  eps  : Int
  next : Tracker
  sat  : Bool

/-- One hold of the catch tracker on three phase values. [log 57: DEDUCED] -/
def Device.vectorHold (d : Device) (n : Nat) (u v w : Int) : VectorHold :=
  let (a, b) := clarke u v w
  let ma : Int := a.val.natAbs
  let mb : Int := b.val.natAbs
  let size := frac16Of (max ma mb * 32768 + min ma mb * 16384)
  let t := (d.st n).catcher
  let th := angle16 t.theta
  let eps := if size.val == 0 then Stored.exact 0 else limit16 (divRne (b.val * cos16 th - a.val * sin16 th) size.val)
  let (next, limited) := t.step (d.obsCfg n) (d.kAngle n) eps.val
  ⟨size.val, eps.val, next, a.sat || b.sat || size.sat || eps.sat || limited⟩

/-- BRAKE_I or BRAKE_ASC is entered (R259). [log 57: DEDUCED] -/
def Device.enterBrake (d : Device) (now n : Nat) (w : Int) (shorted : Bool) : Device :=
  let d1 := (d.incA Ix.AX_ST_COUNT n 4).wrBitA Ix.AX_ST_STATUS n 0 2 true
  let d2 := if shorted then (d1.stEnter n 3).onSt n fun s => { s with catcher := { s.catcher with integ := shiftRne w 1, omega := w } }
    else d1.stEnter n 2
  d2.post now (srcByte 9 n) 0x47 (speedFrac w).natAbs

/-- The decision of R259 or R272 at the end of the catch window. [log 56: DEDUCED] -/
def Device.catchDecision (d : Device) (now n : Nat) : Device :=
  let s := d.st n
  let lock := d.scfg n Ix.AX_ST_CATCH 3 ≤ s.run
  let t := if d.sensored n then (d.fe n).sensor else s.catcher
  let w := t.omega
  let fast := speedAtLeast w (sgn 16 (d.scfg n Ix.AX_ST_CATCH 1))
  let forward := sgnOf w == s.dir
  let quarter : Int := sgnOf w * 0x4000
  let theta := if d.sensored n then angle16 t.theta else wrapAngle ((angle16 t.theta : Int) - quarter)
  let result := fun (e : Device) (k : Nat) => ((e.wrAI Ix.AX_ST_RESULT n 1 w).wrA Ix.AX_ST_RESULT n 2 theta).wrA Ix.AX_ST_RESULT n 3 k
  let shorted := d.rdAS 16 Ix.AX_FE_VLINK n * 32768 < d.backEmf n w
  if d.sensored n then
    if fast && !forward then (result d (if shorted then 4 else 3)).enterBrake now n w shorted
    else ((((result d 1).torqueRamp n).enterRun n w none s.attempt).incA Ix.AX_ST_COUNT n 3).wrBitA Ix.AX_ST_STATUS n 0 1 true
  else if s.slow then (result d 2).enterDwell n
  else if !lock then (result d 5).failAttempt now n 4
  else if !fast then (result d 2).enterDwell n
  else if forward then
    let d1 := (((result d 1).presetObserver n theta w).feEnter n 4).wrBitA Ix.AX_FE_STATUS n 0 2 true
    let d2 := (d1.torqueRamp n).enterRun n w none s.attempt
    (d2.incA Ix.AX_ST_COUNT n 3).wrBitA Ix.AX_ST_STATUS n 0 1 true
  else if shorted then (result d 4).enterBrake now n w true
  else (((result d 3).presetObserver n theta w).wrBitA Ix.AX_FE_STATUS n 0 2 true).enterBrake now n w false

/-! ### Braking by short (R261) -/

/-- One hold of a short: the tracker follows the angle of the current vector, or runs on where a current is missing (R226), and the short ends below its limit. [log 56: DEDUCED] -/
def Device.shortHold (d : Device) (n : Nat) (legs : Option (Int × Int × Int)) : Device :=
  let d1 := if d.sensored n then d.onSt n fun s => { s with catcher := (d.fe n).sensor }
    else match legs with
    | some (u, v, w) =>
      let h := d.vectorHold n u v w
      (d.onSt n fun s => { s with catcher := h.next }).satFld n h.sat
    | none => d.onSt n fun s => { s with catcher := s.catcher.coast (d.kAngle n) }
  let limit := if d1.stState n == 11 then 9 else 10
  if d1.emfBelow n (d1.st n).catcher.omega limit then d1.enterCatch n else d1

/-! ### Losing the rotor (R268 to R270) -/

/-- The rotor is lost (R269, R270): the back-EMF is that of the last posted speed; 2 s are 320,000,000 ticks. [log 57: DEDUCED] -/
def Device.rotorLost (d : Device) (now n : Nat) : Device :=
  let w := (d.fe n).obs.omega
  let posted := d.rdAS 32 Ix.AX_FE_SPEED n
  let recent := now :: (d.st n).losses.filter fun t => now < t + 320000000
  let d1 := ((d.incA Ix.AX_ST_COUNT n 6).wrBitA Ix.AX_ST_STATUS n 0 5 true).onSt n fun s =>
    { s with losses := recent, attempt := 0, injected := false }
  let d2 := (d1.feEnter n 1).slotsIdle n
  if 3 ≤ recent.length then
    ((d2.stEnter n 12).wrBitA Ix.AX_ST_STATUS n 0 6 true).post now (srcByte 9 n) 0x45 recent.length
  else if d2.emfBelow n posted 9 then d2.stEnter n 10
  else (d2.stEnter n 11).onSt n fun s => { s with catcher := { s.catcher with integ := shiftRne w 1, omega := w } }

/-- LOW_SPEED in RUN (R243 item 3, R268). [log 57: DEDUCED] -/
def Device.lowSpeed (d : Device) (now n : Nat) : Device :=
  let w := (d.fe n).obs.omega
  let r := d.slotRef n 2
  let d1 := (d.wrBitA Ix.AX_FE_STATUS n 0 5 true).feEnter n 1
  if d.speedLoop n && sgnOf r == sgnOf w && d.wLo n ≤ r.natAbs then d1.rotorLost now n else d1.enterStopped n

/-! ### The procedure at holds and cycles -/

/-- Cycles of a time in ms at the current-loop rate, rounded up, at least 1. -/
def Device.msCycles (d : Device) (n ms : Nat) : Nat :=
  match d.loopPeriod n with
  | some t => max 1 (ceilDiv (ms * 5120000) (max 1 t))
  | none => 1

/-- The direction θ_k of the pulse sequence (R264 item 1). -/
def Device.pulseAngle (d : Device) (n k : Nat) : Nat :=
  wrapAngle ((d.scfg n Ix.AX_ST_ALIGN 1 : Int) + divRne ((k : Int) * 65536) 12)

/-- The references that the procedure sets for slots 0 and 1 (Table 13.1), for three-phase axes outside RUN. -/
def Device.procedureRefs (d : Device) (n : Nat) : Int × Int :=
  let s := d.st n
  match d.stState n with
  | 2 => (0, -(sgnOf (d.ownTracker n).omega) * sgn 16 (d.scfg n Ix.AX_ST_CATCH 4))
  | 5 =>
    let half := max 1 (d.msCycles n (d.scfg n Ix.AX_ST_ALIGN 3) / 2)
    (divRne (d.attemptCurrent n Ix.AX_ST_ALIGN 2 * (min half s.cycles : Nat)) half, 0)
  | 7 => (0, s.dir * d.attemptCurrent n Ix.AX_ST_RAMP 1)
  | _ => (0, 0)

/-- W_END as SPEED32 with the direction of the start. -/
def Device.rampEnd (d : Device) (n : Nat) : Int := (d.st n).dir * sgn 16 (d.scfg n Ix.AX_ST_RAMP 2) * 65536

/-- ω_f of RAMP in its cycle `k` (R265). -/
def Device.rampSpeed (d : Device) (n k : Nat) : Int :=
  let all := d.msCycles n (d.scfg n Ix.AX_ST_RAMP 3)
  divRne (d.rampEnd n * (min all k : Nat)) all

/-- The forced angle and speed of RAMP at the hold after the present one. -/
def Device.rampNextHold (d : Device) (n : Nat) : Nat × Int :=
  let w := d.rampSpeed n ((d.st n).cycles + 1)
  (addAngle32 (d.st n).thetaF (angleInc w (d.kAngle n)), w)

/-- A cycle of the procedure begins: its cycle count, and the forced angle and speed of RAMP (R265). -/
def Device.procedureCycle (d : Device) (n : Nat) : Device :=
  let (th, w) := d.rampNextHold n
  d.onSt n fun s =>
    if d.stState n == 7 then { s with cycles := s.cycles + 1, thetaF := th, omegaF := w } else { s with cycles := s.cycles + 1 }

/-- θ_use as a 32-bit angle and ω_use in FORCED. -/
def Device.forcedAngle (d : Device) (n : Nat) : Nat × Int :=
  let s := d.st n
  match d.stState n with
  | 1 | 3 | 11 => (s.catcher.theta, s.catcher.omega)
  | 2 => ((d.fe n).obs.theta, (d.fe n).obs.omega)
  | 5 => (d.scfg n Ix.AX_ST_ALIGN 1 * 65536, 0)
  | 6 => (d.pulseAngle n s.pulse * 65536, 0)
  | 7 => (s.thetaF, s.omegaF)
  | _ => ((d.fe n).theta, 0)

/-- The same as predicted for the next hold: the trackers' angles are those already (R239). -/
def Device.forcedNext (d : Device) (n : Nat) : Nat × Int := if d.stState n == 7 then d.rampNextHold n else d.forcedAngle n

/-- The handover of RAMP (R265), with the measured currents of the hold as α and β and the observer's angle at that hold. -/
def Device.rampHold (d : Device) (n theta : Nat) (ab : Option (Int × Int)) : Device :=
  let f := d.fe n
  let w := (d.st n).omegaF
  let ready := d.bitOfA Ix.AX_FE_STATUS n 2 && w == d.rampEnd n && decide (8 * (f.obs.omega - w).natAbs ≤ w.natAbs)
  if ready then
    let q := match ab with
      | some (a, b) => (park a b theta).2.val
      | none => 0
    ((d.feEnter n 4).enterRun n f.obs.omega (some q) ((d.st n).attempt + 1)).incA Ix.AX_ST_COUNT n 1
  else d

/-- A pulse's reading at the hold of its last period (R264 item 2); `hold` is the period of the hold. A second missing one fails the attempt. -/
def Device.pulseHold (d : Device) (now n hold : Nat) (ab : Option (Int × Int)) : Device :=
  let s := d.st n
  if s.window == some hold && s.readings.length == s.pulse then
    match ab with
    | some (a, b) =>
      let i := (park a b (d.pulseAngle n s.pulse)).1
      ((d.wrAI Ix.AX_ST_PULSE_I n (s.pulse + 1) i.val).onSt n fun s => { s with readings := s.readings ++ [i.val] }).satFld n i.sat
    | none => if s.again then d.failAttempt now n 3 else d.onSt n fun s => { s with again := true, lostRead := true }
  else d

/-- The pulse sequence at the start of a pending computation: after TP and DECAY periods the next direction follows, or the same one once more where its reading is missing; the first set of a direction fixes the period of its reading (R264 items 1 and 2). -/
def Device.pulseAdvance (d : Device) (now n per seq : Nat) : Device :=
  let s := d.st n
  let tp := d.scfg n Ix.AX_ST_PULSE 2
  let next :=
    if s.periods < tp + d.scfg n Ix.AX_ST_PULSE 3 then d
    else if s.pulse < s.readings.length then d.onSt n fun s => { s with periods := 0, again := false, lostRead := false, pulse := s.pulse + 1 }
    else if s.lostRead || !s.again then d.onSt n fun s => { s with periods := 0, again := true, lostRead := false }
    else d.failAttempt now n 3
  if next.stState n == 6 && (next.st n).pulse < 12 && (next.st n).periods == 0 then
    next.onSt n fun s => { s with window := some ((seq + ceilDiv tp (max 1 per) * per - 1) % 2 ^ 32) }
  else next

/-- The periods of a prepared set of the pulse sequence are counted. -/
def Device.pulseCount (d : Device) (n per : Nat) : Device := d.onSt n fun s => { s with periods := s.periods + per }

/-- PULSE_SEQUENCE_DONE: the angle found from the twelve readings, or the attempt's failure (R264 items 3 to 5). -/
def Device.pulseDone (d : Device) (now n : Nat) : Device :=
  let s := d.st n
  if d.stState n != 6 || s.readings.length < 12 then d
  else
    let at_ := fun (k : Nat) => s.readings.getD (k % 12) 0
    let k := (List.range 12).foldl (fun b i => if at_ b < at_ i then i else b) 0
    if at_ k - at_ (k + 6) < sgn 16 (d.scfg n Ix.AX_ST_PULSE 4) then d.failAttempt now n 2
    else
      let den := 2 * (at_ (k + 11) - 2 * at_ k + at_ (k + 1))
      let num := 5461 * (at_ (k + 11) - at_ (k + 1))
      let delta := if den == 0 then 0 else clampI (-2731) 2731 (if den < 0 then divRne (-num) (-den) else divRne num den)
      let theta := wrapAngle ((d.pulseAngle n k : Int) + delta)
      (d.wrA Ix.AX_ST_RESULT n 4 theta).angleKnown n theta

/-! ### What waits for the next pending computation (R257) -/

/-- A request or an elapsed time takes effect, where the procedure is still in the state it belongs to. -/
def Device.stEvent (d : Device) (now n : Nat) (e : StEvent) : Device :=
  let st := d.stState n
  match e with
  | .start => if st == 9 then d.startNow n else d
  | .stop => if (1 ≤ st && st ≤ 8) || st == 10 || st == 11 then d.enterStopped n else d
  | .windowEnd => if st == 1 && !(d.st n).pausing then d.catchDecision now n else d
  | .dwellEnd => if st == 4 then d.startFromRest n else d
  | .alignEnd => if st == 5 then d.angleKnown n (d.scfg n Ix.AX_ST_ALIGN 1) else d
  | .pulsesDone => d.pulseDone now n
  | .waitEnd => if st == 7 then d.failAttempt now n 1 else d
  | .pauseEnd => if st == 1 && (d.st n).pausing then d.enterCatch n else d

/-- Pending computations run on the axis: an enabled axis with an engine channel, outside manual edge mode. -/
def Device.pendingRuns (d : Device) (n : Nat) : Bool := d.enabled n && (d.engineChannel n).isSome && !d.manual n

/-- A request or an elapsed time waits for the start of the next pending computation (R257); where none runs it acts at once. [log 56: DEDUCED] -/
def Device.stRaise (d : Device) (now n : Nat) (e : StEvent) : Device :=
  if d.pendingRuns n then d.onSt n fun s => { s with events := s.events ++ [e] } else d.stEvent now n e

/-- The catch window is open: CATCH, outside a pause, and no end of the window waits. -/
def Device.catching (d : Device) (n : Nat) : Bool :=
  d.stState n == 1 && !(d.st n).pausing && !(d.st n).events.contains .windowEnd

/-- A hold enters the count of R258 item 3; the count that reaches CATCH_LOCK ends the window. -/
def Device.catchCount (d : Device) (now n : Nat) (eps : Int) : Device :=
  let near := (eps.natAbs : Int) ≤ d.fcfgS n Ix.AX_FE_OBS_CFG 5
  let d1 := d.onSt n fun s => { s with run := if near then s.run + 1 else 0 }
  if d1.scfg n Ix.AX_ST_CATCH 3 ≤ (d1.st n).run then d1.stRaise now n .windowEnd else d1

/-- One hold of CATCH on the phase voltages of a sensorless axis (R258). [log 57: DEDUCED] -/
def Device.catchHold (d : Device) (now n : Nat) (u v w : Int) : Device :=
  let h := d.vectorHold n u v w
  let d1 := d.onSt n fun s => { s with catcher := h.next, slow := s.slow && decide (h.size < sgn 16 (d.scfg n Ix.AX_ST_CATCH 2)) }
  (d1.satFld n h.sat).catchCount now n h.eps

/-- One hold of CATCH on a sensored axis: the sensor tracker's error is counted (R272). [log 57: DEDUCED] -/
def Device.catchSensor (d : Device) (now n : Nat) : Device := d.catchCount now n (d.rdAS 16 Ix.AX_FE_TRACK_ERR n 2)

/-- The procedure after a set is posted (R226 step 2): on the period of the hold, the observer's angle at it, the α and β currents and the phase currents, where measured. -/
def Device.procedureHold (d : Device) (now n hold theta : Nat) (ab : Option (Int × Int)) (legs : Option (Int × Int × Int)) : Device :=
  let inj := d.fcfg n Ix.AX_FE_INJ_CFG 1 == 1
  let own := (d.ownTracker n).omega
  match d.stState n with
  | 1 => if d.sensored n && d.catching n then d.catchSensor now n else d
  | 2 =>
    if !speedAtLeast own (sgn 16 (d.scfg n Ix.AX_ST_CATCH 1)) then
      if d.sensored n then (d.torqueRamp n).enterRun n own none (d.st n).attempt else d.startFromRest n
    else if !d.sensored n && !d.bitOfA Ix.AX_FE_STATUS n 2 then d.enterDwell n else d
  | 3 | 11 => d.shortHold n legs
  | 6 => d.pulseHold now n hold ab
  | 7 => d.rampHold n theta ab
  | 8 =>
    if d.feState n == 4 && !d.bitOfA Ix.AX_FE_STATUS n 2 then d.rotorLost now n
    else if d.feState n == 4 && !inj && !speedAtLeast (d.fe n).obs.omega (d.wLo n) then d.lowSpeed now n
    else d
  | _ => d

/-- The start of a pending computation (R257): what waits takes effect in its order; LOST_COAST gives way to CATCH at once; and in STOPPED slot 2's reference can be a start request (R256). -/
def Device.procedurePending (d : Device) (now n : Nat) : Device :=
  let d1 := (d.st n).events.foldl (fun e x => e.stEvent now n x) (d.onSt n fun s => { s with events := [] })
  if d1.stState n == 10 then d1.enterCatch n
  else if d1.stState n == 9 && d1.speedLoop n && d1.wLo n ≤ (d1.slotRef n 2).natAbs then d1.startRequest n
  else d1

/-- A write of `AXn_ST_CMD` (R256, R257): START in STOPPED fixes the direction; STOP acts from CATCH to RUN, in the LOST states, and on a START that still waits. [log 56: DEDUCED] -/
def Device.startCommand (d : Device) (now n cmd : Nat) : Device :=
  let st := d.stState n
  let waits := (d.st n).events.contains .start
  if cmd == 1 then (if st == 9 && !waits then (d.fixDir n).stRaise now n .start else d)
  else if (1 ≤ st && st ≤ 8) || st == 10 || st == 11 || waits then d.stRaise now n .stop else d

/-! ### Enable, disable and the commit -/

/-- The procedure at an enable of a three-phase axis (Table 13.1, R270). -/
def Device.stEnable (d : Device) (n : Nat) : Device :=
  let d1 := (d.takeSt n).onSt n fun s => { St.rest with cfg := s.cfg }
  if bit (d1.scfg n Ix.AX_ST_FLAGS 0) 1 then d1.startRequest n else d1.enterStopped n

/-- The procedure at a disable or safe state (Table 13.1): IDLE, or FAILED where START_FAILED or ROTOR_LOST took it. -/
def Device.stStop (d : Device) (n : Nat) (failed : Bool) : Device :=
  (((d.takeSt n).wrA Ix.AX_ST_STATE n 0 (if failed then 12 else 0)).wrBitA Ix.AX_ST_STATUS n 0 0 false).onSt n fun s => { St.rest with cfg := s.cfg }

/-- A value of `AXn_FE_HANDOVER`, staged or in force (R273 condition 2). -/
def Device.handoverValue (d : Device) (n sub : Nat) : Int :=
  match d.stagedOf (.fe (Fin.ofNat 8 n)) with
  | some s => match cellGet s.values (keyOf (axIx Ix.AX_FE_HANDOVER n) sub) with
    | some v => sgn 16 v
    | none => d.rdAS 16 Ix.AX_FE_HANDOVER n sub
  | none => d.rdAS 16 Ix.AX_FE_HANDOVER n sub

/-- The conditions of R273, in order. Condition 1 restates the ranges that each staged write met. -/
def stConds (d m : Device) (n : Nat) : List Bool :=
  let lim := m.rdAS 16 Ix.AX_CE_I_LIMIT n
  [ true,
    d.handoverValue n 1 ≤ m.rdAS 16 Ix.AX_ST_CATCH n 1 && d.handoverValue n 2 ≤ m.rdAS 16 Ix.AX_ST_RAMP n 2,
    m.rdAS 16 Ix.AX_ST_ALIGN n 2 ≤ lim && m.rdAS 16 Ix.AX_ST_RAMP n 1 ≤ lim && m.rdAS 16 Ix.AX_ST_CATCH n 4 ≤ lim,
    2 * 1000 * 1000 * 32768 ≤ (m.rdA Ix.AX_ST_LOCK n 1 : Int) * 6 * m.rdAS 16 Ix.AX_FE_HANDOVER n 1 * m.rdA Ix.AX_W_BASE n ]

/-- The procedure's set applies: at once on a disabled axis, else at the next state change (R273). -/
def Device.applySt (d : Device) (n : Nat) : Device := if d.countsEnabled n then d else d.takeSt n

/-- The enable check of R274: a sensorless axis has a capture channel whose list names at least two PV channels of its legs. -/
def Device.catchOk (d : Device) (n : Nat) : Bool :=
  !d.threePhase n || d.sensored n || [1, 2, 3, 4].any fun c =>
    d.evtSource n c != 0 && d.evtDest n c 24
      && 2 ≤ ((d.axisLegs n).filter fun l => (d.holdList n c).contains (0x20 + l)).length

/-! ### Meanings -/

/-- CATCH_WINDOW_END (R258, R259). -/
def execCatchWindowEnd (n : Fin 8) (s : State) : Host.Outcome State Fault Refusal :=
  s.onRunning fun now d => if d.catching n then d.stRaise now n .windowEnd else d

/-- DWELL_END (R262). -/
def execDwellEnd (n : Fin 8) (s : State) : Host.Outcome State Fault Refusal :=
  s.onRunning fun now d => if d.stState n == 4 then d.stRaise now n .dwellEnd else d

/-- ALIGN_END (R264, R265). -/
def execAlignEnd (n : Fin 8) (s : State) : Host.Outcome State Fault Refusal :=
  s.onRunning fun now d => if d.stState n == 5 then d.stRaise now n .alignEnd else d

/-- PULSE_SEQUENCE_DONE (R264). -/
def execPulseSequenceDone (n : Fin 8) (s : State) : Host.Outcome State Fault Refusal :=
  s.onRunning fun now d => if d.stState n == 6 then d.stRaise now n .pulsesDone else d

/-- HANDOVER_WAIT_EXPIRE (R265): NO_LOCK. -/
def execHandoverWaitExpire (n : Fin 8) (s : State) : Host.Outcome State Fault Refusal :=
  s.onRunning fun now d => if d.stState n == 7 then d.stRaise now n .waitEnd else d

/-- ATTEMPT_PAUSE_END (R263). -/
def execAttemptPauseEnd (n : Fin 8) (s : State) : Host.Outcome State Fault Refusal :=
  s.onRunning fun now d => if d.stState n == 1 && (d.st n).pausing then d.stRaise now n .pauseEnd else d

/-- LOCKED_ROTOR (R271): the lock timer reaches tLOCK. -/
def execLockedRotor (n : Fin 8) (s : State) : Host.Outcome State Fault Refusal :=
  s.onRunning fun now d =>
    let fe := d.feState n
    let q := (d.ce n).refs.getD 1 0
    if d.stState n == 8 && 2 ≤ fe && sgn 16 (d.scfg n Ix.AX_ST_LOCK 2) ≤ q.natAbs then
      ((d.wrBitA Ix.AX_ST_STATUS n 0 7 true).incA Ix.AX_ST_COUNT n 7).post now (srcByte 9 n) 0x46 (d.rdA Ix.AX_FE_COMM_COUNT n 4)
    else d

end Sys2Proof.Machine
end

