-- ==== Sys2Proof/Machine/Pair.lean ====
section
/-! DEFINITION. The speculative current pair (R209 to R225): prediction, the pending set with its sensitivities and boxes, correction, full computation, missing measurements, the trace, and what the field engine updates after each posting (R226 step 2). -/

namespace Sys2Proof.Machine

/-! ### One slot of the pair -/

/-- The state after a sample: RAMP ends with the first effective reference that equals the reference (R193 item 3). -/
def PairIn.after (p : PairIn) (rEff : Int) : Nat := if p.state == 3 && rEff == p.target then 4 else p.state

/-- The sample that a feedback gives (R191 to R194). -/
def PairIn.at (p : PairIn) (fb : Int) : Sample :=
  match p.kind with
  | .off => { Sample.off p.err p.seg p.state with integ := p.integ }
  | .manual => p.coef.manualSample p.err p.seg p.integ p.manual
  | .rampFirst => { p.coef.sample p.integ 0 with rEff := fb, state := p.after fb }
  | .preset => { p.coef.presetSample p.um (p.ref - fb) with rEff := p.ref, state := p.after p.ref }
  | .law => { p.coef.sample p.integ (p.ref - fb) with rEff := p.ref, state := p.after p.ref }

/-- How slot `x` forms its output in its present state (R213). -/
def Device.pairKind (d : Device) (n x : Nat) : PairKind :=
  let st := d.slotState n x
  let r := d.slot n x
  if st == 2 then .manual
  else if st ≤ 1 || (d.brushed n && x == 0) then .off
  else if st == 3 then (if r.enter then .rampFirst else .law)
  else if r.preset then .preset else .law

/-- The effective reference of slot `x` in its next sample (R193). -/
def Device.pairRef (d : Device) (n x : Nat) : Int :=
  let target := (d.ce n).refs.getD x 0
  if d.slotState n x == 3 then (d.bank n).rampNext n x (d.slot n x).rEff target else target

/-- The inputs of slot `x` at the start of a pending computation (R210): the bank of the cycle it prepares, and what the slot took of its Live objects. -/
def Device.pairIn (d : Device) (n x : Nat) (kind : PairKind) : PairIn :=
  { coef := (d.bank n).coef n x, kind := kind, integ := d.integ n x
    um := d.rdAS 16 Ix.AX_CE_OUT n (x + 1), manual := (d.slot n x).live.manual
    target := (d.ce n).refs.getD x 0, ref := d.pairRef n x, state := d.slotState n x
    err := d.rdAS 32 Ix.AX_CE_ERR n (x + 1), seg := d.rdA Ix.AX_CE_SLOT_STATUS n (x + 1) / 1024 }

/-! ### Boxes (R214) -/

/-- The bound of a box that no condition narrows: an I32 holds no more. -/
def boxMax : Int := 2147483647

/-- The errors of the run of equal table entries around an error (R214 condition 1). -/
def SlotCoef.segRun (c : SlotCoef) (e : Int) : Int × Int :=
  let i := c.segment e
  let same := fun (j : Nat) => c.table.getD j 0 == c.table.getD i 0
  let up := (List.range 64).foldl (fun k j => if j == k + 1 && same j then j else k) i
  let down := (List.range 64).foldr (fun j k => if j + 1 == k && same j then j else k) i
  let top : Int := if up == 63 then 2 * boxMax else ((up + 1) * c.width : Nat) - 1
  if down == 0 then (-top, top)
  else
    let bottom : Int := (down * c.width : Nat)
    if 0 < e then (bottom, top) else (-top, -bottom)

/-- The farthest value from `good` toward `bad` at which a condition holds, by halving. [log 48: DEDUCED] -/
def reachGood (ok : Int → Bool) : Nat → Int → Int → Int
  | 0, good, _ => good
  | k + 1, good, bad =>
    let m := good + (bad - good).tdiv 2
    if m == good then good else if ok m then reachGood ok k m bad else reachGood ok k good m

/-- What must stay the same over a box (R214 condition 2): the limit state of a sample, its hold state, and the side on which its candidate I' is limited. -/
structure LimitState where
  high : Bool
  low  : Bool
  hold : Int
  side : Int
  deriving DecidableEq, Repr

/-- The limit state of the sample of an error. -/
def SlotCoef.limits (c : SlotCoef) (integ e : Int) : LimitState :=
  let y := c.sample integ e
  let q := c.incr e
  ⟨y.high, y.low, if y.hold then sgnOf q else 0, if c.accMax < integ + q then 1 else if integ + q < c.accMin then -1 else 0⟩

/-- The output is not limited, and yet the increment does not enter it whole: INT_HOLD, or I' at its limit. Its slope is then not that of R213. -/
def LimitState.bent (l : LimitState) : Bool := !l.high && !l.low && (l.hold != 0 || l.side != 0)

/-- Δ within a range at which the limit and hold states stay those of an error; gains of unlike sign give no room, and an output that is not limited where the increment is held or limited gives no box at all, so that a hit stays within R223. [log 48: DEDUCED] -/
def SlotCoef.limitRun (c : SlotCoef) (integ e lo hi : Int) : Int × Int :=
  let i := c.segment e
  if (c.limits integ e).bent then (1, -1)
  else if c.kp i * c.ki i < 0 then (0, 0)
  else
    let ok := fun (x : Int) => c.limits integ (e - x) == c.limits integ e
    (if ok lo then lo else reachGood ok 34 0 lo, if ok hi then hi else reachGood ok 34 0 hi)

/-- Δ limited to what an I32 holds. [log 48: DEDUCED] -/
def boxOf (r : Int × Int) : Int × Int := (max (-boxMax) (min 0 r.1), min boxMax (max 0 r.2))

/-- A linear condition on the voltages: a margin that must stay at or above 0, and its slope by v_d and by v_q per Q2.15 unit. -/
structure Margin where
  at0 : Int
  byD : Int
  byQ : Int

/-- The slope of a slot's unrounded output by Δ, as −num / den (R213). -/
structure Slope where
  num : Int
  den : Int

/-- The interval of one slot's Δ that a margin allows, where the other slot may use half of it. -/
def Margin.allows (m : Margin) (s : Slope) (own other : Int) : Int × Int :=
  let a := own * s.num
  if a == 0 then (-boxMax, boxMax)
  else
    let g := if other == 0 then m.at0 else m.at0 / 2
    let reach := if g ≤ 0 then 0 else g * s.den / a.natAbs
    -- The margin changes by −a/den per unit of Δ.
    if 0 < a then (-boxMax, reach) else (-reach, boxMax)

/-- The common part of two intervals. -/
def meet (a b : Int × Int) : Int × Int := (max a.1 b.1, min a.2 b.2)

/-- Slopes of the phases by v_α and v_β in 2^−15 (R231 step 3). -/
def phaseSlopes : List (Int × Int) := [(32768, 0), (-16384, 28378), (-16384, -28378)]

/-- Slopes of w of each phase by v_d and v_q in 2^−31, with the phases of max and min in v_0 (R231 steps 2 to 5). -/
def wSlopes (order : Nat × Nat) (theta : Nat) : List (Int × Int) :=
  let p := fun (i : Nat) => phaseSlopes.getD i (0, 0)
  let (a0, b0) := ((p order.1).1 + (p order.2).1, (p order.1).2 + (p order.2).2)
  phaseSlopes.map fun (a, b) =>
    let x := 2 * a - a0
    let y := 2 * b - b0
    (x * cos16 theta + y * sin16 theta, -(x * sin16 theta) + y * cos16 theta)

/-- Slopes of h of each leg by v_d and v_q, in 2^−61 carrier units per Q2.15 unit (R232, R236). -/
def ModCfg.hSlopes (c : ModCfg) (winding : Bool) (order : Nat × Nat) (theta : Nat) : List (Int × Int) :=
  if c.phases then (wSlopes order theta).map fun (a, b) => (c.len * c.kMod * 8 * a, c.len * c.kMod * 8 * b)
  else
    let k : Int := c.len * c.kMod * 4 * 2 ^ 31
    if winding then [(k, 0), (-k, 0), (0, k), (0, -k)] else [(0, k), (0, -k)]

/-- The margins of the affine region of a modulation (R234), each zone limit 1 carrier unit inward, and less what rounding of the voltages can move. [log 48: DEDUCED] -/
def ModCfg.margins (c : ModCfg) (winding : Bool) (theta : Nat) (m : Modulation) : List Margin :=
  let one : Int := 2 ^ 61
  let up : Int := 2 ^ 31
  let less := fun (g a b : Int) (spare : Int) => Margin.mk (g - a.natAbs - b.natAbs - spare) a b
  let zones := ((m.h.zip m.zones).zip (c.hSlopes winding m.order theta)).flatMap fun ((h, z), (a, b)) =>
    let spare : Int := if c.phases then c.len * c.kMod.natAbs * 8 * up else 0
    let above := fun (lim : Int) => less (h * up - (lim + 1) * one) a b spare
    let below := fun (lim : Int) => less ((lim - 1) * one - h * up) (-a) (-b) spare
    let z2 : Int := (c.len : Int) - 2 * c.gap
    if z == 0 then [below 0] else if z == 1 then [above 0, below z2] else if z == 2 then [above z2, below c.len] else [above c.len]
  if c.phases then
    let v := fun (i : Nat) => m.v.getD i 0
    let s := fun (i : Nat) => phaseSlopes.getD i (0, 0)
    let diff := fun (i j : Nat) =>
      let x := (s i).1 - (s j).1
      let y := (s i).2 - (s j).2
      less ((v i - v j) * 32768) (x * cos16 theta + y * sin16 theta) (-(x * sin16 theta) + y * cos16 theta) (8 * 32768)
    let orders := [0, 1, 2].flatMap fun i =>
      (if i == m.order.1 then [] else [diff m.order.1 i]) ++ (if i == m.order.2 then [] else [diff i m.order.2])
    let v0 := -(shiftRne (v m.order.1 + v m.order.2) 1)
    let limits := ([0, 1, 2].zip (wSlopes m.order theta)).flatMap fun (i, (a, b)) =>
      let w := v i + v0
      let spare : Int := 4 * 2 ^ 31
      [less ((65535 * 32768 - w) * 65536) (-a) (-b) spare, less ((w + 65536 * 32768) * 65536) a b spare]
    zones ++ orders ++ limits
  else zones

/-- The slope by v_d and v_q of each of the 16 compares, in 2^−62 carrier units per Q2.15 unit (Table 12.2). -/
def ModCfg.compareSlopes (c : ModCfg) (winding : Bool) (theta : Nat) (m : Modulation) : List (Int × Int) :=
  let used := (m.zones.zip (c.hSlopes winding m.order theta)).flatMap fun (z, (a, b)) =>
    if z == 1 then [(-a, -b), (a, b), (a, b), (-a, -b)] else if z == 2 then [(-a, -b), (a, b), (0, 0), (0, 0)] else [(0, 0), (0, 0), (0, 0), (0, 0)]
  used ++ List.replicate (16 - used.length) (0, 0)

/-! ### What the edge set of a cycle is made of -/

/-- The quiet voltages of a stepper (R279) at θ_m. -/
def Device.quietVoltages (d : Device) (n theta : Nat) : Int × Int × Bool :=
  let w := speedStore (d.fe n).omega
  let i := d.rdAS 16 Ix.AX_PRF_I_SET n
  let x := gain16Of (mulFG w.val (d.modelOf n 2))
  let e := frac16Of (mulFG w.val (d.modelOf n 4))
  let ri := frac16Of (mulFG i (d.modelOf n 1))
  let xi := frac16Of (mulFG i x.val + e.val * 32768)
  let a := frac16Of (ri.val * cos16 theta - xi.val * sin16 theta)
  let b := frac16Of (ri.val * sin16 theta + xi.val * cos16 theta)
  (a.val, b.val, w.sat || x.sat || e.sat || ri.sat || xi.sat || a.sat || b.sat)

/-- The plan of the coming period (Table 13.1, R257, R264, R279). -/
def Device.pairPlan (d : Device) (n theta : Nat) : PairPlan :=
  let st := d.stState n
  if d.threePhase n && st != 8 then
    if (d.st n).pausing then .gatesOff
    else if st == 3 || st == 4 || st == 11 then .lowsOn
    else if st == 2 || st == 5 || st == 7 then .loop
    else if st == 6 && (d.st n).pulse < 12 && (d.st n).periods < d.scfg n Ix.AX_ST_PULSE 2 then
      .fixed (sgn 16 (d.scfg n Ix.AX_ST_PULSE 1)) 0 (d.pulseAngle n (d.st n).pulse)
    else .gatesOff
  else if d.stepper n && !d.strong n then
    let (a, b, _) := d.quietVoltages n theta
    .fixed a b theta
  else .loop

/-- The modulation of a plan: outputs `vd` and `vq` of the slots, for the period `seq`; none where the plan fixes the set. -/
def Device.planMod (d : Device) (n : Nat) (plan : PairPlan) (theta seq : Nat) (vd vq : Int) : Option Modulation :=
  match plan with
  | .gatesOff | .lowsOn => none
  | .fixed a b t => some (modulate (d.modCfg n) (d.stepper n) t a b)
  | .loop => some (modulate (d.modCfg n) (d.stepper n) theta (vd + d.injVoltage n seq) vq)

/-- The compares of a plan. -/
def Device.planSet (d : Device) (n : Nat) (plan : PairPlan) (theta seq : Nat) (vd vq : Int) : List Int :=
  match d.planMod n plan theta seq vd vq with
  | some m => m.compares (d.modCfg n)
  | none => if plan == .lowsOn then lowsOnSet (d.axisLegs n).length (d.edpPend n).len else gatesOffSet

/-! ### Prediction (R211) and the pending set (R212 to R214) -/

/-- The mean of a value and the previous measurement in INJECT and in both blends, the value alone elsewhere (R242). -/
def Device.meanWith (d : Device) (n : Nat) (x last : Int) : Int :=
  let st := d.feState n
  if d.threePhase n && (st == 2 || st == 3 || st == 5) then divRne (x + last) 2 else x

/-- i_pred of slot `x` on its effective reference, with the SAT of the stores of MODEL (Table 11.1, R242). -/
def Device.predict (d : Device) (n x : Nat) (ref : Int) : Stored :=
  let s := d.sc n
  let own := if x == 0 then s.lastD else s.lastQ
  let other := if x == 0 then s.lastQ else s.lastD
  let mode := d.rdA Ix.AX_SC_PREDICT n
  let delta := if mode == 1 then d.modelDelta n x own other (d.rdAS 16 Ix.AX_FE_VDQ n (x + 1)) (d.rdAS 32 Ix.AX_FE_SPEED n) else .exact 0
  ⟨d.meanWith n (if mode == 2 then ref else own + delta.val) own, delta.sat⟩

/-- One slot of a pending set: its sample at the prediction, its sensitivity, and conditions 1 and 2 of its box. -/
def Device.pairSlot (d : Device) (n x : Nat) (loop : Bool) : PairSlot :=
  let p := d.pairIn n x (if loop then d.pairKind n x else .off)
  let pred := (d.predict n x p.ref).val
  let y := p.at pred
  let free : PairSlot :=
    { inn := p, pred := pred, sample := y, sens := 0
      segLo := -boxMax, segHi := boxMax, limLo := -boxMax, limHi := boxMax, boxLo := -boxMax, boxHi := boxMax }
  if p.kind == .law then
    let c := p.coef
    let (eLo, eHi) := c.segRun y.err
    let (sl, sh) := boxOf (y.err - eHi, y.err - eLo)
    let (ll, lh) := c.limitRun p.integ y.err sl sh
    let i := c.segment y.err
    let s := if y.high || y.low then 0 else divRne (-(c.kp i * 2 ^ c.shift + c.ki i)) (2 ^ c.shift)
    { free with sens := s, segLo := sl, segHi := sh, limLo := ll, limHi := lh, boxLo := ll, boxHi := lh }
  else free

/-- The unrounded slope of a slot of a pending set, 0 where its output does not follow the measurement. [log 48: DEDUCED] -/
def PairSlot.slope (s : PairSlot) : Slope :=
  let c := s.inn.coef
  let i := c.segment s.sample.err
  if s.inn.kind == .law && !s.sample.high && !s.sample.low then ⟨c.kp i * 2 ^ c.shift + c.ki i, 4096 * 2 ^ c.shift⟩ else ⟨0, 1⟩

/-- The pending set of the next cycle, for the period `seq` (R212 to R214). [log 48: DEDUCED] -/
def Device.pendingSet (d : Device) (n seq : Nat) : PendingSet :=
  let f := d.fe n
  let theta := d.modAngle n f.theta (angleInc f.omega (d.kAngle n))
  let plan := d.pairPlan n theta
  let sd := d.pairSlot n 0 (plan == .loop)
  let sq := d.pairSlot n 1 (plan == .loop)
  let cmp := d.planSet n plan theta seq sd.sample.out sq.sample.out
  let plain : PendingSet :=
    { plan := plan, d := sd, q := sq, cmp := cmp, sensD := List.replicate 16 0, sensQ := List.replicate 16 0
      noSens := false, thetaM := theta, seq := seq, done := false, time := 0 }
  if plan == .loop && (sd.inn.kind == .law || sq.inn.kind == .law) then
    match d.planMod n plan theta seq sd.sample.out sq.sample.out with
    | none => plain
    | some m =>
      let c := d.modCfg n
      let w := d.stepper n
      let kd := sd.slope
      let kq := sq.slope
      let slopes := c.compareSlopes w theta m
      -- S_c = slope × (−num / den) × 2^16 / 2^62.
      let sens := fun (k : Slope) (a : Int) => divRne (-(a * k.num)) (k.den * 2 ^ 46)
      let cd := slopes.map fun (a, _) => sens kd a
      let cq := slopes.map fun (_, b) => sens kq b
      let wide := fun (x : Int) => x < lo32 || hi32 < x
      let ms := c.margins w theta m
      let both := fun (g : Margin) => (g.byD * kd.num, g.byQ * kq.num)
      let bd := boxOf (ms.foldl (fun b g => meet b (g.allows kd g.byD (both g).2)) (sd.boxLo, sd.boxHi))
      let bq := boxOf (ms.foldl (fun b g => meet b (g.allows kq g.byQ (both g).1)) (sq.boxLo, sq.boxHi))
      { plain with
        sensD := cd, sensQ := cq, noSens := 32768 ≤ sd.sens.natAbs || 32768 ≤ sq.sens.natAbs || (cd ++ cq).any wide
        d := { sd with boxLo := bd.1, boxHi := bd.2 }, q := { sq with boxLo := bq.1, boxHi := bq.2 } }
  else plain

/-! ### Views, trace and counts -/

/-- A pending-view object shows a value and its PENDING flag (R221). -/
def Device.view (d : Device) (ix n : Nat) (v : Int) (pending : Bool) : Device :=
  (d.wrAI ix n 1 (limit16 v).val).wrA ix n 2 (if pending then 1 else 0)

/-- The four views show the outputs and predictions of a pending or posted set. -/
def Device.views (d : Device) (n : Nat) (vd vq pd pq : Int) (pending : Bool) : Device :=
  (((d.view Ix.AX_SC_VIEW_VD n vd pending).view Ix.AX_SC_VIEW_VQ n vq pending).view Ix.AX_SC_VIEW_ID_PRED n pd pending).view
    Ix.AX_SC_VIEW_IQ_PRED n pq pending

/-- The views show what was posted last. -/
def Device.showPosted (d : Device) (n : Nat) : Device :=
  let p := fun (i : Nat) => (d.sc n).posted.getD i 0
  d.views n (p 0) (p 1) (p 2) (p 3) false

/-- The outputs of a plan as the views and the trace show them. -/
def PairPlan.outs (p : PairPlan) (vd vq : Int) : Int × Int :=
  match p with
  | .loop => (vd, vq)
  | .fixed a b _ => (a, b)
  | _ => (0, 0)

/-- A trace record of Table 11.3. -/
def traceBytes (seq type code time : Nat) (i v delta : Int × Int) (slack : Int) : List Nat :=
  let f := fun (x : Int) => leBytes 2 (pat 16 (limit16 x).val)
  leBytes 4 seq ++ [type, code, 0, 0] ++ leBytes 4 time ++ f i.1 ++ f i.2 ++ f v.1 ++ f v.2
    ++ leBytes 4 (pat 32 delta.1) ++ leBytes 4 (pat 32 delta.2) ++ leBytes 4 (pat 32 (clampI lo32 hi32 slack))

/-- A record enters the ring of 256, where recording runs and the record is not left out (R222). [log 50: DEDUCED] -/
def Device.traceAdd (d : Device) (n : Nat) (special : Bool) (bytes : List Nat) : Device :=
  let cfg := d.rdA Ix.AX_SC_TRACE_CFG n
  if bit cfg 0 && !d.bitOfA Ix.AX_SC_STATUS n 0 && (!bit cfg 1 || special) then
    let add := fun (s : Sc) => { s with trace := (s.trace ++ [bytes]).drop ((s.trace.length + 1) - 256) }
    match (d.sc n).left with
    | some k =>
      let d1 := d.onSc n fun s => { add s with left := some (k - 1) }
      if k ≤ 1 then d1.wrBitA Ix.AX_SC_STATUS n 0 0 true else d1
    | none => d.onSc n add
  else d

/-- The PENDING record of a set whose outcome is known: 1 SUPERSEDED, or 2 DISCARDED with its cause (R222, R24). [log 50: DEDUCED] -/
def Device.tracePending (d : Device) (n : Nat) (p : PendingSet) (outcome cause : Nat) (special : Bool) : Device :=
  d.traceAdd n special (traceBytes p.seq 1 (outcome + cause * 16) p.time (p.d.pred, p.q.pred) (p.plan.outs p.d.sample.out p.q.sample.out) (0, 0) 0)

/-- After the first misspeculation recording goes on for 128 records where bit 2 asks for it (R222). [log 50: DEDUCED] -/
def Device.traceStop (d : Device) (n : Nat) : Device :=
  if bit (d.rdA Ix.AX_SC_TRACE_CFG n) 2 && (d.sc n).left.isNone then d.onSc n fun s => { s with left := some 128 } else d

/-- A cycle that a pending set served enters the window of the hit rate (R224). -/
def Device.windowCycle (d : Device) (n : Nat) (hit : Bool) : Device :=
  d.onSc n fun s =>
    let h := s.hits + if hit then 1 else 0
    if 1024 ≤ s.window + 1 then { s with window := 0, hits := 0, full1k := some h } else { s with window := s.window + 1, hits := h }

/-- PRED_RUN (R220). [log 49: DEDUCED] -/
def Device.setPredRun (d : Device) (n v : Nat) : Device :=
  d.wrA Ix.AX_SC_STATUS n 0 (d.rdA Ix.AX_SC_STATUS n % 256 + min 255 v * 256)

/-- PRED_RUN of `AXn_SC_STATUS`. -/
def Device.predRun (d : Device) (n : Nat) : Nat := d.rdA Ix.AX_SC_STATUS n / 256

/-! ### Posting -/

/-- The samples of the two slots are posted, in every state but DISABLED (R191, R203). -/
def Device.postPair (d : Device) (n : Nat) (yd yq : Sample) : Device :=
  [(0, yd), (1, yq)].foldl (fun e (x, y) => if e.slotState n x == 0 then e else e.postSample n x y) d

/-- The slots of the pair that are computed: a slot in DISABLED or OFF has no deadline, nor has one in a state of Table 13.1 that does not compute it. -/
def Device.pairSlots (d : Device) (n : Nat) : List Nat :=
  if d.threePhase n && d.stState n != 8 && !pairComputed (d.stState n) then [] else [0, 1].filter fun x => 2 ≤ d.slotState n x

/-- The slack of slots 0 and 1, in ticks from a post to the post-by time of its period (R201, R203). A post that meets it ends the run of misses. -/
def Device.pairSlack (d : Device) (n : Nat) (slack : Int) : Device :=
  (d.pairSlots n).foldl (fun e x => let e1 := e.slotSlack n x slack; if slack < 0 then e1 else e1.metDeadline n x) d

/-- A repeated period is a miss of slots 0 and 1 (R202): what `PERIOD_DECIDED` repeats, outside manual mode (R143, R155). -/
def Device.missPair (d : Device) (now n : Nat) : Device := (d.pairSlots n).foldl (fun e x => e.missSlot now n x) d

/-- The period to be decided repeats its candidate: no set was accepted for it (R143). -/
def Device.willRepeat (d : Device) (n : Nat) : Bool := (d.edpOf n).running && !d.manual n && (d.edpOf n).accepted.isNone

/-- A set for a period is posted: its slack, or none until the post-by time of that period is fixed. [log 39: DEDUCED] -/
def Device.postSlack (d : Device) (now n seq : Nat) : Option Int := (d.postByOf n seq).map fun by_ => (by_ - (now * 32 : Nat)) / 32

/-- The posted set of a period enters the slacks, at once or when its post-by time is fixed. -/
def Device.recordPost (d : Device) (now n seq : Nat) : Device :=
  match d.postSlack now n seq with
  | some x => d.pairSlack n x
  | none => d.onSc n fun s => { s with early := s.early ++ [(seq, now)] }

/-- The slack enters the record of a posted set in the trace (Table 11.3). [log 39: DEDUCED, 50: DEDUCED] -/
def Device.traceSlack (d : Device) (n seq : Nat) (slack : Int) : Device :=
  let mend := fun (b : List Nat) =>
    if b.take 5 == leBytes 4 seq ++ [2] then b.take 28 ++ leBytes 4 (pat 32 (clampI lo32 hi32 slack)) else b
  d.onSc n fun s => { s with trace := s.trace.map mend }

/-- The post-by time of the period after the one decided last is fixed: a set posted for it already has its slack. -/
def Device.earlyPosts (d : Device) (n : Nat) : Device :=
  let next := ((d.edpOf n).decided + 1) % 2 ^ 32
  let due := (d.sc n).early.filter fun x => x.1 == next
  let d1 := d.onSc n fun s => { s with early := s.early.filter fun x => x.1 != next }
  due.foldl (fun e (x : Nat × Nat) =>
    let slack := (e.postBy n - (x.2 * 32 : Nat)) / 32
    (e.pairSlack n slack).traceSlack n next slack) d1

/-- A set goes to the edge placer (R215 step 3), and what the field engine reports of it: VLIMIT, its SAT flag, FW_ACTIVE and the reference of R250. [log 53: DEDUCED] -/
def Device.postEdges (d : Device) (now n : Nat) (c : Cycle) (plan : PairPlan) (theta : Nat) (vd vq : Int) (cmp : List Int) : Device :=
  let d1 := (d.postSet n ⟨c.seq, cmp.map Int.toNat⟩).recordPost now n c.seq
  let quiet := match plan with
    | .fixed a b _ => if d.stepper n then d1.onPrf n fun p => { p with quietV := [a, b] } else d1
    | _ => d1
  match d.planMod n plan theta c.seq vd vq with
  | some m =>
    let hot := m.zones.any fun z => z == 0 || z == 3
    let d2 := quiet.satFld n m.sat
    let d3 := if hot then d2.wrBitA Ix.AX_FE_STATUS n 0 4 true else d2
    d3.weaken n m.demand
  | none => quiet.weaken n 0

/-! ### After a posting (R226 step 2) -/

/-- The prescaler of the engine's channel: carrier periods per cycle. -/
def Device.perCycle (d : Device) (n : Nat) : Nat :=
  match d.engineChannel n with
  | some c => d.evtN n c
  | none => 1

/-- Leg currents by slot, the measured ones in place of the earlier ones; the − leg of a winding carries its negated current (R233, R236). -/
def Device.takeLegs (d : Device) (n : Nat) (m : Meas) : Device :=
  let old := (d.fe n).legI
  let new :=
    if d.threePhase n then ((m.legs ++ [none, none, none, none]).zip old).map fun (x, o) => match x with
        | some i => i
        | none => o
    else if d.stepper n then
      [m.d.getD (old.getD 0 0), (m.d.map (-·)).getD (old.getD 1 0), m.q.getD (old.getD 2 0), (m.q.map (-·)).getD (old.getD 3 0)]
    else [m.q.getD (old.getD 0 0), (m.q.map (-·)).getD (old.getD 1 0), 0, 0]
  d.onFe n fun f => { f with legI := new.map fun x => (limit16 x).val }

/-- The trackers on the currents of a hold, and the blends and handovers that every cycle moves on (R226, R237 to R246). A missing current leaves the integrals and lets every tracker run on. [log 51: DEDUCED] -/
def Device.estimate (d : Device) (now n : Nat) (m : Meas) (v : Option (Int × Int)) : Device :=
  let st := d.feState n
  let k := d.kAngle n
  let holdSeq := (m.cycle.seq + 2 ^ 32 - 1) % 2 ^ 32
  match m.d, m.q, m.legs with
  | some id, some iq, [some u, some w2, some w3] =>
    let (a, b) := clarke u w2 w3
    let d1 := if st == 0 || st == 6 || st == 7 then d else (d.satFld n (a.sat || b.sat)).observe n v a.val b.val
    let d2 := if st == 2 || st == 3 || st == 5 then
        match (d.fe n).iPrev with
        | some (_, qb) => d1.injTrack n holdSeq iq qb
        | none => d1.onFe n fun f => { f with inj := f.inj.coast k }
      else d1
    let d3 := if st == 6 || st == 7 then d2.sensorTrack n (m.cycle.time / 32) else d2
    (d3.handover now n).onFe n fun f => { f with iPrev := some (id, iq) }
  | _, _, _ =>
    let d1 := if d.sensored n && d.stState n == 1 then d.sensorTrack n (m.cycle.time / 32) else d.onFe n fun f => { f with sensor := f.sensor.coast k }
    (d1.onFe n fun f => { f with obs := f.obs.coast k, inj := f.inj.coast k, iPrev := none }).handover now n

/-- The sensor of a brushed axis at a hold (R237, R245, R246); a missing current lets its tracker run on (R226). -/
def Device.brushedHold (d : Device) (n : Nat) (m : Meas) : Device :=
  if !d.sensored n then d
  else if m.q.isSome then d.sensorTrack n (m.cycle.time / 32)
  else d.onFe n fun f => { f with sensor := f.sensor.coast (d.kAngle n) }

/-- θ_use and ω_use of the next hold, by the state of Table 12.3. With a sensor the angle is taken at that hold. -/
def Device.nextAngle (d : Device) (n : Nat) : Device :=
  let f := d.fe n
  match d.feState n with
  | 1 => let (t, w) := if d.threePhase n then d.forcedNext n else (addAngle32 f.theta (angleInc f.omega (d.kAngle n)), f.omega)
    d.onFe n fun f => { f with theta := t, omega := w }
  | 2 => d.onFe n fun f => { f with theta := f.inj.theta, omega := f.inj.omega }
  | 3 | 5 => let (t, w) := d.blended n; d.onFe n fun f => { f with theta := t, omega := w }
  | 4 => d.onFe n fun f => { f with theta := f.obs.theta, omega := f.obs.omega }
  | _ => d.onFe n fun f' => { f' with theta := addAngle32 f.theta (angleInc f.omega (d.kAngle n)) }

/-- Step 2 of R226 and the bookkeeping that uses posted values only: the supervisor, the estimators, speed, position and events, and the start procedure; the currents become the last ones (R211). -/
def Device.afterPost (d : Device) (now n : Nat) (m : Meas) (predD predQ : Int) : Device :=
  let prev := ((d.sc n).lastD, (d.sc n).lastQ)
  let (v, d1) := d.reportVoltage n m
  let d2 := match m.d, m.q with
    | some a, some b => ((d1.wrAI Ix.AX_FE_IDQ n 1 a).wrAI Ix.AX_FE_IDQ n 2 b).supervise n m.cycle.count prev (a, b)
    | _, _ => d1
  let d3 := d2.postMotion now n
  let theta := angle16 (d3.fe n).theta
  let seen := angle16 (d3.fe n).obs.theta
  let d4 := if d3.threePhase n then d3.estimate now n m v else if d3.stepper n then d3.stallHold now n m.d m.q theta else d3.brushedHold n m
  let d5 := (d4.takeLegs n m).onSc n fun s => { s with lastD := m.d.getD predD, lastQ := m.q.getD predQ }
  if d5.threePhase n then
    let abc : Option (Int × Int × Int) := match m.legs with
      | [some u, some w2, some w3] => some (u, w2, w3)
      | _ => none
    let ab := abc.map fun (u, w2, w3) => ((clarke u w2 w3).1.val, (clarke u w2 w3).2.val)
    let refused := d5.rdA Ix.AX_FE_HANDOVERS n 3 != d.rdA Ix.AX_FE_HANDOVERS n 3 && (d5.fe n).refused == 0
    let d6 := if d5.feState n == 4 then d5.onSt n fun s => { s with injected := false } else d5
    let d7 := d6.procedureHold now n ((m.cycle.seq + 2 ^ 32 - 1) % 2 ^ 32) seen ab abc
    (if refused && (d7.st n).injected then d7.failAttempt now n 5 else d7).nextAngle n
  else d5.nextAngle n

/-! ### The pending computation -/

/-- The references of slots 0 and 1 for the next computation: the procedure's, the generator's, or the posted ones (R196, R210, R257, R279). -/
def Device.pairRefs (d : Device) (n : Nat) : Device :=
  if d.threePhase n && d.stState n != 8 then
    let (a, b) := d.procedureRefs n
    d.onCe n fun c => { c with refs := [a, b] }
  else if d.stepper n then
    let f := d.fe n
    let theta := d.modAngle n f.theta (angleInc f.omega (d.kAngle n))
    let i := d.rdAS 16 Ix.AX_PRF_I_SET n
    d.onCe n fun c => { c with refs := [(frac16Of (mulFF i (cos16 theta))).val, (frac16Of (mulFF i (sin16 theta))).val] }
  else d.formOwnRefs n

/-- The procedure of a three-phase axis at the start of a pending computation for the period `seq` (R257), and the angle of the next hold in the state that follows. -/
def Device.prepareStart (d : Device) (now n seq : Nat) : Device :=
  let d1 := d.procedurePending now n
  let d2 := if d1.stState n == 6 then d1.pulseAdvance now n (d1.perCycle n) seq else d1
  let st := d2.feState n
  if 1 ≤ st && st ≤ 5 && d2.stState n != d.stState n then d2.nextAngle n else d2

/-- What comes before the arithmetic of a pending computation: state changes (R257), mode changes and deadlines at the sample boundary (R210), a committed set of the field engine (R50), the references. -/
def Device.prepare (d : Device) (now n seq : Nat) : Device :=
  let d1 := if d.threePhase n then d.prepareStart now n seq else d.modeAtPending n
  let d2 := [0, 1].foldl (fun e x => (if d1.slotsRun n then e.boundary n x else e).takeLive n x) d1
  let d3 := [0, 1].foldl (fun e x => e.deadlinesOf now n x) d2
  ((d3.takeFe n).takeKMod now n).pairRefs n

/-- Where a swap gives slot 0 or 1 another slot as its source, its reference is that slot's last posted output (R187, R196). [log 46: DEDUCED] -/
def Device.formNewRefs (d was : Device) (n : Nat) : Device :=
  [0, 1].foldl (fun e x =>
    let now := (e.bank n).refSlot n x
    if now.isSome && now != (was.bank n).refSlot n x then e.formRef n x else e) d

/-- Run `f` with the banks as they will stand in cycle `count`, where that cycle has not begun and R199 places a pending swap at it (R210); the swap itself comes with that cycle. [log 45: DEDUCED] -/
def Device.withCycleBank (d : Device) (n count : Nat) (f : Device → Device) : Device :=
  if d.swapReady n && count == (d.ce n).cycles && d.swapBoundary n count then
    ((f (((d.onCe n fun c => { c with swapNext := true }).useOther n true).formNewRefs d n)).useOther n true)
  else f d

/-- A quiet-mode voltage or a SAT of its stores (R279). -/
def Device.quietSat (d : Device) (n : Nat) (p : PairPlan) (theta : Nat) : Device :=
  if d.stepper n && p != .loop then d.satFld n (d.quietVoltages n theta).2.2 else d

/-- A pending computation starts (R209 to R214), for cycle `count` and the period `seq`. Its result is formed from the posted values of this instant; it counts from its completion on. [log 48: DEDUCED] -/
def Device.startPending (d : Device) (now n count seq : Nat) : Device :=
  d.withCycleBank n count fun d0 =>
    let d1 := d0.prepare now n seq
    let p := d1.pendingSet n seq
    let sat := fun (e : Device) (x : Nat) (s : PairSlot) => e.satSlot n x (p.plan == .loop && s.inn.kind == .law && (d1.predict n x s.inn.ref).sat)
    let (vd, vq) := p.plan.outs p.d.sample.out p.q.sample.out
    let d2 := ((sat (sat d1 0 p.d) 1 p.q).quietSat n p.plan p.thetaM).views n vd vq p.d.pred p.q.pred true
    let d3 := (d2.onSc n fun s => { s with pending := some p }).wrBitA Ix.AX_FE_STATUS n 0 0 (p.plan == .loop && d2.injVoltage n seq != 0)
    if d3.threePhase n && d3.stState n == 6 then d3.pulseCount n (d3.perCycle n) else d3

/-- Step 2 of R226 for the results that came while the pair was busy, and then the pending computation of the cycle after the last result (R209 item 1): each cycle comes N periods after the one before (R153). [log 49: DEDUCED] -/
def Device.nextPending (d : Device) (now n : Nat) (c : Cycle) : Device :=
  let ms := (d.sc n).passed
  let d1 := ms.foldl (fun e m => e.afterPost now n m (e.sc n).lastD (e.sc n).lastQ) (d.onSc n fun s => { s with passed := [] })
  let last := ((ms.map fun m => m.cycle).getLast?).getD c
  d1.startPending now n (last.count + 1) ((last.seq + d1.perCycle n) % 2 ^ 32)

/-! ### The full computation (R218, R219, R209 item 4) -/

/-- A full computation starts on a measurement, with the plan and the inputs of the pending set of its cycle; `miss` where it follows a misspeculation. -/
def Device.startFull (d : Device) (n : Nat) (p : PendingSet) (m : Meas) (miss : Bool) : Device :=
  let fd := d.meanWith n (m.d.getD (d.sc n).lastD) (d.sc n).lastD
  let fq := d.meanWith n (m.q.getD (d.sc n).lastQ) (d.sc n).lastQ
  let yd := p.d.inn.at fd
  let yq := p.q.inn.at fq
  let cmp := d.planSet n p.plan p.thetaM m.cycle.seq yd.out yq.out
  d.onSc n fun s => { s with full := some ⟨m, miss, p.plan, yd, yq, cmp, p.thetaM⟩ }

/-- An output of the pair depends on the measurement (R213). -/
def PendingSet.depends (p : PendingSet) : Bool := p.d.inn.kind == .law || p.q.inn.kind == .law

/-- A pending set is dropped: its PENDING record with its cause, 0 for none, and the views show what was posted last (R221, R222). -/
def Device.dropPending (d : Device) (n : Nat) (p : PendingSet) (cause : Nat) (special : Bool) : Device :=
  ((d.tracePending n p 2 cause special).onSc n fun s => { s with pending := none }).showPosted n

/-- A cycle without a posted set (R220 rule 2). -/
def Device.unposted (d : Device) (now n : Nat) (m : Meas) (pd pq : Int) : Device :=
  ((d.incA Ix.AX_SC_COUNT n 5).afterPost now n m pd pq).nextPending now n m.cycle

/-- The first cycle after an enable is computed in full from its measurement, with the inputs of its pending computation; the pending set itself is dropped (R209 item 4). [log 49: DEDUCED] -/
def Device.firstCycle (d : Device) (now n : Nat) (p : PendingSet) (m : Meas) : Device :=
  let missing := m.d.isNone || m.q.isNone
  let d1 := if !missing then d.setPredRun n 0 else if p.depends then d.setPredRun n (d.predRun n + 1) else d
  let d2 := d1.dropPending n p 0 false
  if missing && p.depends then d2.unposted now n m p.d.pred p.q.pred else d2.startFull n p m false

/-- FULL_COMPUTATION_DONE (R218, R219): the result is posted, and the next pending computation starts. -/
def Device.fullDone (d : Device) (now n : Nat) : Device :=
  match (d.sc n).full with
  | none => d
  | some j =>
    let d1 := d.onSc n fun s => { s with full := none }
    let d2 := if j.plan == .loop then d1.postPair n j.d j.q else d1
    let (vd, vq) := j.plan.outs j.d.out j.q.out
    let d3 := ((d2.postEdges now n j.meas.cycle j.plan j.thetaM j.d.out j.q.out j.cmp).onSc n fun s =>
      { s with posted := [vd, vq, s.posted.getD 2 0, s.posted.getD 3 0] }).showPosted n
    let i := (j.meas.d.getD (d.sc n).lastD, j.meas.q.getD (d.sc n).lastQ)
    let slack := (d3.postSlack now n j.meas.cycle.seq).getD 0
    let d4 := d3.traceAdd n j.miss (traceBytes j.meas.cycle.seq 2 1 (now * 32 % 2 ^ 32) i (vd, vq) (0, 0) slack)
    (d4.afterPost now n j.meas i.1 i.2).nextPending now n j.meas.cycle

/-! ### Correction (R215 to R220) -/

/-- A slot after a correction by Δ: its posted output, and whether the store limited it (R215 step 1). -/
def PairSlot.corrected (s : PairSlot) (delta : Int) : Sample × Bool :=
  if s.inn.kind == .law then
    let c := s.inn.coef
    let u := (Acc40.add ⟨s.sample.sum, false⟩ (mulFG s.sens delta)).val
    let y := c.limit u
    ({ s.sample with out := y.val, sum := u, high := y.sat && c.accMax < u, low := y.sat && u < c.accMin }, y.sat)
  else (s.sample, s.sample.high || s.sample.low)

/-- The bookkeeping of a slot after a hit (R216), on its feedback and its posted output. -/
def PairSlot.keep (s : PairSlot) (posted : Sample) (fb : Int) : Sample :=
  let p := s.inn
  let y := p.at fb
  match p.kind with
  | .law =>
    let q := p.coef.incr y.err
    let hold := (posted.high && 0 < q) || (posted.low && q < 0)
    let integ := if hold then p.integ else clampI p.coef.accMin p.coef.accMax (Acc40.add ⟨p.integ, false⟩ q).val
    { y with out := posted.out, high := posted.high, low := posted.low, hold := hold, integ := integ }
  | .preset => { y with out := posted.out, high := posted.high, low := posted.low }
  | _ => y

/-- The compares of a pending set corrected by Δ, and whether a limit to 0–P acted (R215 step 2). [log 49: DEDUCED] -/
def correctCompares (p : PendingSet) (len : Nat) (dd dq : Int) : List Int × Bool :=
  let cs := (p.cmp.zip (p.sensD.zip p.sensQ)).map fun (c, sd, sq) => c + divRne (sd * dd + sq * dq) 65536
  (cs.map fun c => clampI 0 len c, cs.any fun c => c < 0 || (len : Int) < c)

/-- A complete pending set is posted with Δ (R215), as a HIT or PREDICTED. -/
def Device.postCorrected (d : Device) (now n : Nat) (p : PendingSet) (m : Meas) (dd dq : Int) (hit : Bool) : Device :=
  let (yd, ld) := p.d.corrected dd
  let (yq, lq) := p.q.corrected dq
  let (cmp, lc) := correctCompares p (d.edpPend n).len dd dq
  let loop := p.plan == .loop
  let sat := loop && (ld || lq || lc)
  let d1 := if sat then (d.wrBitA Ix.AX_SC_STATUS n 0 3 true).satAxis n 4 true else d
  let fb := fun (i : Option Int) (pred last : Int) => match i with
    | some x => d.meanWith n x last
    | none => pred
  let d2 :=
    if !loop then d1
    else if hit then
      d1.postPair n (p.d.keep yd (fb m.d p.d.pred (d.sc n).lastD)) (p.q.keep yq (fb m.q p.q.pred (d.sc n).lastQ))
    else [(0, yd), (1, yq)].foldl (fun e (x, y) => if e.slotState n x == 0 then e else e.wrAI Ix.AX_CE_OUT n (x + 1) y.out) d1
  let (vd, vq) := p.plan.outs yd.out yq.out
  let d3 := ((d2.postEdges now n m.cycle p.plan p.thetaM yd.out yq.out cmp).onSc n fun s =>
    { s with posted := [vd, vq, p.d.pred, p.q.pred] }).showPosted n
  let d4 := if hit then
      (((d3.incA Ix.AX_SC_COUNT n 1).wrAI Ix.AX_SC_LAST_DELTA n 1 dd).wrAI Ix.AX_SC_LAST_DELTA n 2 dq)
    else (d3.incA Ix.AX_SC_COUNT n 3).wrBitA Ix.AX_SC_STATUS n 0 2 true
  let slack := (d4.postSlack now n m.cycle.seq).getD 0
  let i := (m.d.getD p.d.pred, m.q.getD p.q.pred)
  let d5 := (d4.tracePending n p 1 0 (!hit)).traceAdd n (!hit)
    (traceBytes m.cycle.seq 2 (if hit then 0 else 2) (now * 32 % 2 ^ 32) i (vd, vq) (if hit then (dd, dq) else (0, 0)) slack)
  let d6 := (d5.onSc n fun s => { s with pending := none }).windowCycle n hit
  (d6.afterPost now n m p.d.pred p.q.pred).nextPending now n m.cycle

/-- The cause of a misspeculation, none for a hit (R218 rule 3). -/
def PendingSet.cause (p : PendingSet) (dd dq : Int) : Option Nat :=
  let out := fun (lo hi x : Int) => x < lo || hi < x
  if !p.depends then none
  else if p.noSens then some 1
  else if out p.d.segLo p.d.segHi dd then some 2
  else if out p.q.segLo p.q.segHi dq then some 3
  else if out p.d.limLo p.d.limHi dd || out p.q.limLo p.q.limHi dq then some 4
  else if out p.d.boxLo p.d.boxHi dd || out p.q.boxLo p.q.boxHi dq then some 5
  else none

/-- A measurement meets a complete pending set (R215, R218, R220). [log 49: DEDUCED] -/
def Device.correct (d : Device) (now n : Nat) (p : PendingSet) (m : Meas) : Device :=
  match m.d, m.q with
  | some id, some iq =>
    let d1 := d.setPredRun n 0
    let dd := if d.brushed n then 0 else d.meanWith n id (d.sc n).lastD - p.d.pred
    let dq := d.meanWith n iq (d.sc n).lastQ - p.q.pred
    match p.cause dd dq with
    | none => d1.postCorrected now n p m dd dq true
    | some k =>
      let d2 := ((d1.incA Ix.AX_SC_MISS_CAUSE n k).incA Ix.AX_SC_COUNT n 2).wrBitA Ix.AX_SC_STATUS n 0 1 true
      (((d2.dropPending n p k true).traceStop n).windowCycle n false).startFull n p m true
  | _, _ =>
    let run := d.predRun n + 1
    let d1 := d.setPredRun n run
    let lim := d.rdA Ix.AX_SC_PRED_LIMIT n
    if !p.depends then d.postCorrected now n p m 0 0 true
    else if lim != 0 && run ≤ lim then d1.postCorrected now n p m 0 0 false
    else ((d1.dropPending n p 0 false).windowCycle n false).unposted now n m p.d.pred p.q.pred

/-- A measurement arrives while the pair is busy: the first waits for the pending set, a further one is not computed (R201, R203, R217). The period it was for repeats, which is the miss (R202); step 2 of R226 waits for the result before it. -/
def Device.tooEarly (d : Device) (n : Nat) (m : Meas) : Device :=
  ((d.pairSlots n).foldl (fun e x => e.slotSlack n x lo32) d).onSc n fun s => { s with passed := s.passed ++ [m] }

/-- The result of a cycle reaches the pair (R209 items 3 and 4, R217). A result without a pending set has one started first. [log 49: DEDUCED] -/
def Device.pairResult (d : Device) (now n : Nat) (m : Meas) : Device :=
  if (d.sc n).full.isSome then d.tooEarly n m
  else
    let d1 := if (d.sc n).pending.isSome then d else d.startPending now n m.cycle.count m.cycle.seq
    match (d1.sc n).pending with
    | none => d1
    | some p =>
      if m.cycle.count == 0 || (d.sc n).pending.isNone then d1.firstCycle now n p m
      else if p.done then d1.correct now n p m
      else if (d1.sc n).waiting.isSome then d1.tooEarly n m
      else (d1.incA Ix.AX_SC_COUNT n 4).onSc n fun s => { s with waiting := some m }

/-- PENDING_COMPUTATION_DONE (R209, R217); the datapath then goes on with the slots (R204). -/
def Device.pendingDone (d : Device) (now n : Nat) : Device :=
  match (d.sc n).pending with
  | none => d
  | some p =>
    if p.done then d
    else
      let p1 := { p with done := true, time := now * 32 % 2 ^ 32 }
      let d1 := d.onSc n fun s => { s with pending := some p1, waiting := none }
      match (d.sc n).waiting with
      | some m => d1.correct now n p1 m
      | none => d1.startNext now n

/-- HIT_RATE_UPDATE (R224): the rate in permille, rounded under R29, of a full window. [log 49: DEDUCED] -/
def Device.hitRate (d : Device) (now n : Nat) : Device :=
  match (d.sc n).full1k with
  | none => d
  | some h =>
    let rate := (divRne ((h : Int) * 1000) 1024).toNat
    let d1 := (d.wrA Ix.AX_SC_HIT_RATE n 0 rate).onSc n fun s => { s with full1k := none }
    let low := d.rdA Ix.AX_SC_RATE_MIN n
    if low != 0 && rate < low && !d.bitOfA Ix.AX_SC_STATUS n 4 then
      (d1.wrBitA Ix.AX_SC_STATUS n 0 4 true).post now (srcByte 8 n) 0x40 rate
    else d1

/-- The correction unit at an enable, a disable or a safe state: a pending set is dropped with its record, and the views read what was posted last (R221, R222); the trace ring stays. -/
def Device.scRest (d : Device) (n : Nat) : Device :=
  let d1 := match (d.sc n).pending with
    | some p => d.tracePending n p 2 0 false
    | none => d
  ((d1.onSc n fun s => { Sc.rest with trace := s.trace, left := s.left, posted := s.posted }).showPosted n).setPredRun n 0

/-! ### Meanings -/

/-- PERIOD_DECIDED (R142, R143): a repeat is a miss of slots 0 and 1 (R202), and the post-by time of the period after it is fixed. -/
def execPeriodDecided (n : Fin 8) (s : State) : Host.Outcome State Fault Refusal :=
  s.onRunning fun now d =>
    let d1 := if d.willRepeat n then d.missPair now n else d
    (d1.decidePeriod now n).earlyPosts n

/-- PENDING_COMPUTATION_DONE (R209). -/
def execPendingComputationDone (n : Fin 8) (s : State) : Host.Outcome State Fault Refusal :=
  s.onRunning fun now d => d.pendingDone now n

/-- FULL_COMPUTATION_DONE (R219). -/
def execFullComputationDone (n : Fin 8) (s : State) : Host.Outcome State Fault Refusal :=
  s.onRunning fun now d => d.fullDone now n

/-- HIT_RATE_UPDATE (R224). -/
def execHitRateUpdate (n : Fin 8) (s : State) : Host.Outcome State Fault Refusal :=
  s.onRunning fun now d => d.hitRate now n

end Sys2Proof.Machine
end

