-- ==== Sys2Proof/Machine/Rein.lean ====
section
/-! DEFINITION. The rein inputs (R314 to R316): measurement of a duty, a frequency or a voltage, the bands that map x to y, the fail-safe, and the commit rule. -/

namespace Sys2Proof.Machine

/-- A field of `REIN_CFG_r`. -/
def Device.reinCfg (d : Device) (r sub : Nat) : Nat := d.rd (Ix.REIN_CFG + r) sub
/-- A FRAC16 field of `REIN_CFG_r`. -/
def Device.reinLim (d : Device) (r sub : Nat) : Int := d.rdS 16 (Ix.REIN_CFG + r) sub
/-- The running values of rein `r`. -/
def Device.reinOfPin (d : Device) (r : Nat) : Rein := d.rein.toList.getD r Rein.rest
/-- Change them. -/
def Device.onRein (d : Device) (r : Nat) (f : Rein → Rein) : Device := 
  if h : r < 8 then { d with rein := d.rein.set r (f (d.rein[r])) } else d

/-- x of rein `r`. -/
def Device.reinX (d : Device) (r : Nat) : Int := d.rdS 16 (Ix.REIN_VALUE + r) 1
/-- STATE of rein `r`. -/
def Device.reinState (d : Device) (r : Nat) : Nat := d.rd (Ix.REIN_VALUE + r) 3

/-- K of R315. -/
def Device.reinK (d : Device) (r : Nat) : Int :=
  let w := d.reinLim r 7 - d.reinLim r 6
  if w ≤ 0 then 0 else divRne (4096 * (d.reinLim r 10 - d.reinLim r 9)) w

/-- x lies in a fail-safe band: 4 low, 5 high (Table 15.5c). -/
def Device.reinBad (d : Device) (r : Nat) : Option Nat :=
  if d.reinX r < d.reinLim r 5 then some 4 else if d.reinLim r 8 < d.reinX r then some 5 else none

/-- y and STATE of a rein. [log 64: DEDUCED] -/
def Device.showRein (d : Device) (r : Nat) (y : Int) (st : Nat) : Device :=
  (d.wrI (Ix.REIN_VALUE + r) 2 y).wr (Ix.REIN_VALUE + r) 3 st

/-- The bands of Table 15.5c on the present x. In a fail-safe band y and STATE hold until it is qualified, and after qualification until the input leaves the fail-safe. -/
def Device.mapRein (d : Device) (r : Nat) : Device :=
  let x := d.reinX r
  if d.reinCfg r 1 == 0 then d.showRein r 0 0
  else if (d.reinOfPin r).safe || (d.reinBad r).isSome then d
  else if x < d.reinLim r 6 then d.showRein r 0 1
  else if x ≤ d.reinLim r 7 then d.showRein r (store (d.reinLim r 9 * 4096 + d.reinK r * (x - d.reinLim r 6)) 12 lo16 hi16).val 2
  else d.showRein r (d.reinLim r 10) 3

/-- A measurement gives x, limited to 0 to 0x7FFF without SAT (R314). -/
def Device.setRein (d : Device) (r : Nat) (x : Int) : Device := (d.wrI (Ix.REIN_VALUE + r) 1 (clampI 0 hi16 x)).mapRein r

/-- A completed monitor conversion of an analog rein (R314 mode 1, R177): the result is per unit of the range. -/
def Device.analogRein (d : Device) (r : Nat) : Device :=
  if d.reinCfg r 1 == 1 then d.setRein r (d.cnv.monitor.getD (r + 8) Mon.rest).value else d

/-- 50 µs in ticks. -/
def reinShortest : Nat := 8000

/-- REIN_EDGE (R314 modes 2 and 3): the filtered pin takes a level at Pacer count `t`. [log 64: DEDUCED] -/
def Device.reinEdge (d : Device) (r : Nat) (level : Bool) (t : Nat) : Device :=
  let mode := d.reinCfg r 1
  let p := d.reinOfPin r
  if mode != 2 && mode != 3 then d.onRein r fun p => { p with level := level }
  else if level == (d.reinCfg r 4 == 1) then d.onRein r fun p => { p with level := level, inactive := some t }
  else
    let d1 := d.onRein r fun p => { p with level := level, active := some t, inactive := none }
    match p.active with
    | none => d1
    | some t0 =>
      let period : Int := (t : Int) - t0
      if period < reinShortest then d1
      else if mode == 3 then d1.setRein r (divRne (32768 * 160000000) (period * max 1 (d.reinCfg r 13)))
      else
        let on : Int := (p.inactive.getD t : Int) - t0
        d1.setRein r (divRne (on * 32768) period)

/-- REIN_TIMEOUT (R314): no active edge for TIMEOUT. [log 64: DEDUCED] -/
def Device.reinTimeout (d : Device) (r : Nat) : Device :=
  let mode := d.reinCfg r 1
  let activeNow := (d.reinOfPin r).level == (d.reinCfg r 4 == 0)
  if mode == 3 then d.setRein r 0
  else if mode == 2 then d.setRein r (if activeNow then hi16 else 0)
  else d

/-- REIN_FAILSAFE (R315): x has stayed in its fail-safe band for FS_TIME. [log 64: DEDUCED] -/
def Device.reinQualified (d : Device) (now r : Nat) : Device :=
  match d.reinBad r with
  | none => d
  | some st =>
    if d.reinCfg r 1 == 0 || ((d.reinOfPin r).safe && d.reinState r == st) then d
    else
      (((d.onRein r fun p => { p with safe := true }).showRein r (d.reinLim r 11) st)).post now (srcByte 6 8) 0x41
        (r + if st == 5 then 256 else 0)

/-- REIN_FAILSAFE_EXIT (R315): x has stayed within FS_LO to FS_HI for FS_TIME. [log 64: DEDUCED] -/
def Device.reinLeaves (d : Device) (r : Nat) : Device :=
  if (d.reinOfPin r).safe && (d.reinBad r).isNone then (d.onRein r fun p => { p with safe := false }).mapRein r else d

/-- The conditions of R316, in order. Condition 1 restates the ranges that each staged write met. -/
def reinConds (d m : Device) : List Bool :=
  let rs := List.range 8
  let named := (rs.map fun r => m.reinCfg r 3).filter (· != 0xFF)
  let free := fun (e : Device) (r : Nat) => 8 ≤ e.reinCfg r 3 || !d.countsEnabled (e.reinCfg r 3)
  [ true,
    rs.all fun r => decide (m.reinLim r 5 ≤ m.reinLim r 6) && m.reinLim r 6 < m.reinLim r 7 && m.reinLim r 7 ≤ m.reinLim r 8
      && lo16 ≤ m.reinK r && m.reinK r ≤ hi16,
    named.Nodup,
    rs.all fun r => (d.reinCfg r 1 == m.reinCfg r 1 && d.reinCfg r 3 == m.reinCfg r 3) || (free d r && free m r) ]

/-- `REIN_VALUE` .04 shows K, and the bands act on the present x; a rein without a mode reads 0. -/
def Device.applyRein (d : Device) : Device :=
  (List.range 8).foldl (fun e r =>
    let e1 := e.wrI (Ix.REIN_VALUE + r) 4 (clampI lo16 hi16 (e.reinK r))
    if e1.reinCfg r 1 == 0 then (e1.onRein r fun p => { Rein.rest with level := p.level }).mapRein r else e1.mapRein r) d

/-! ### Meanings -/

/-- REIN_EDGE (R314): pin `r` takes `level`, time-stamped `ago` ticks before now. [log 3: DESIGN CHOICE] -/
def execReinEdge (r : Fin 8) (level : Bool) (ago : Nat) (s : State) : Host.Outcome State Fault Refusal :=
  s.onRunning fun now d => d.reinEdge r level (now - ago)

/-- REIN_TIMEOUT (R314). -/
def execReinTimeout (r : Fin 8) (s : State) : Host.Outcome State Fault Refusal := s.onRunning fun _ d => d.reinTimeout r

/-- REIN_FAILSAFE (R315). -/
def execReinFailsafe (r : Fin 8) (s : State) : Host.Outcome State Fault Refusal := s.onRunning fun now d => d.reinQualified now r

/-- REIN_FAILSAFE_EXIT (R315). -/
def execReinFailsafeExit (r : Fin 8) (s : State) : Host.Outcome State Fault Refusal := s.onRunning fun _ d => d.reinLeaves r

end Sys2Proof.Machine
end

