-- ==== Sys2Proof/Machine/Chain.lean ====
section
/-! DEFINITION. What runs from an event of the carrier to the engines: event channels and their destinations (R153), the start of a computation cycle (R185), and delivered result sets on their way to the engines (R170, R226). -/

namespace Sys2Proof.Machine

/-! ### Result sets reach the engines -/

/-- The newest value of each input, as slots 4 and 5 read it (Table 10.2). [log 44: DEDUCED] -/
def Device.takeLast (d : Device) (n : Nat) (r : ResultSet) : Device :=
  d.onCe n fun c =>
    { c with last := (r.codes.zip (r.values.zip r.flags)).foldl (fun xs (k, v) => cellPut xs k v) c.last }

/-- A result set with at least two phase voltages is a hold of CATCH on a sensorless axis (R258). -/
def Device.takeCatch (d : Device) (now n : Nat) (r : ResultSet) : Device :=
  if d.threePhase n && d.catching n && !d.sensored n then
    match fillPhases (d.legVoltages n r) with
    | some (u, v, w) => d.catchHold now n u v w
    | none => d
  else d

/-- The cycle that a result set belongs to: the one of its hold, whose list it holds. -/
def Device.cycleOf (d : Device) (n : Nat) (r : ResultSet) : Option Cycle :=
  (d.sc n).cycles.find? fun c => c.time == r.time && c.codes.all fun k => r.codes.contains k

/-- One delivered result set (R170, R209 item 3, R226). -/
def Device.takeResult (d : Device) (now : Nat) (r : ResultSet) : Device :=
  let n := r.group
  let d1 := (d.takeLast n r).takeCatch now n r
  match d1.cycleOf n r with
  | none => d1
  | some c =>
    let d2 := d1.onSc n fun s => { s with cycles := s.cycles.filter fun x => c.time < x.time }
    let (m, d3) := (d2.takeLink n r).measure n c r
    d3.pairResult now n m

/-- Every delivered result set goes to its engines, in order of delivery. -/
def Device.takeDelivered (d : Device) (now : Nat) : Device :=
  let rs := d.cnv.delivered
  rs.foldl (fun e r => e.takeResult now r) { d with cnv := { d.cnv with delivered := [] } }

/-! ### Computation cycles -/

/-- θ_use and ω_use of a hold, where a tracker did not predict them: a stepper's generator (R278), the forced angle of a procedure, a sensor (R245, R246). -/
def Device.holdAngle (d : Device) (n t : Nat) : Device :=
  if d.stepper n then d.takeGenerator n
  else match d.feState n with
    | 1 => let (th, w) := d.forcedAngle n; d.onFe n fun f => { f with theta := th, omega := w }
    | 6 | 7 => let a := d.sensorAngle n (t / 32); d.onFe n fun f => { f with theta := a * 65536, omega := f.sensor.omega }
    | _ => d

/-- The period that the set of a cycle is for: the one after the period that runs (R137 rule 5). -/
def Device.setSeq (d : Device) (n : Nat) : Nat := (d.rdA Ix.AX_EDP_PERIOD_SEQ n + 1) % 2 ^ 32

/-- The engine's channel fires at fine step `t`: a computation cycle of axis `n` begins (R185, R210); at the first one after an enable its pending computation begins (R209 item 1). In manual edge mode the pair has no part in it (R155). A channel without a hold gives a cycle whose currents are missing (R220). [log 41: DEDUCED] -/
def Device.cycleBegins (d : Device) (now n t c : Nat) : Device :=
  let d0 := d.beginCycle now n
  let d1 := ((if d0.bankNo n == d.bankNo n then d0 else d0.rederive n).torqueStep n).setCurrent n
  let d2 := if d1.threePhase n then d1.procedureCycle n else d1
  if d2.manual n then d2.takeFe n
  else
    let seq := d2.setSeq n
    let codes := if d2.evtDest n c 24 then d2.holdList n c else []
    let cy : Cycle := ⟨(d.ce n).cycles, t, codes, seq⟩
    let d3 := if cy.count == 0 then (d2.holdAngle n t).startPending now n 0 seq else d2.holdAngle n t
    if codes.isEmpty then
      let (m, d4) := d3.measure n cy ⟨n, t, [], [], []⟩
      d4.pairResult now n m
    else d3.onSc n fun s => { s with cycles := s.cycles ++ [cy] }

/-! ### Event channels (R152, R153) -/

/-- The channels that fire when events with these source codes occur together; each counts its source's occurrences, and fires at the first and then at every Nth. [log 40: DEDUCED] -/
def Device.firing (d : Device) (n : Nat) (sources : List Nat) : List Nat × Device :=
  let hits := fun (c : Nat) => if d.evtSource n c == 0 then 0 else (sources.filter fun s => s == d.evtSource n c).length
  let count := fun (c : Nat) => (d.edpOf n).occurs.getD (c - 1) 0
  let fires := [1, 2, 3, 4].filter fun c => (List.range (hits c)).any fun j => (count c + j) % d.evtN n c == 0
  (fires, d.onEdp n fun e => { e with occurs := [1, 2, 3, 4].map fun c => count c + hits c })

/-- The trace and the Teamster hear of a channel's firing (R153): a MARKER record of Table 11.3 with the period's sequence number and the instant, and a notification. [log 50: DEDUCED] -/
def Device.tellFiring (d : Device) (n t c : Nat) : Device :=
  let d1 := if d.evtDest n c 26 then d.onEdp n fun e => { e with notified := withBit e.notified (c - 1) true } else d
  if d1.evtDest n c 27 then
    let d2 := d1.onEdp n fun e => { e with marks := withBit e.marks (c - 1) true }
    d2.traceAdd n false (traceBytes (d2.rdA Ix.AX_EDP_PERIOD_SEQ n) 3 0 (t % 2 ^ 32) (0, 0) (0, 0) (0, 0) 0)
  else d1

/-- Events of axis `n` occur at fine step `t`; the channels that fire go to their destinations: a burst armed on them, the control engine, the capture group, the Teamster and the trace (R153). -/
def Device.fire (d : Device) (now n t : Nat) (sources : List Nat) : Device :=
  if !(d.edpOf n).running then d
  else
    let (cs, d1) := d.firing n sources
    let d2 := cs.foldl (fun e c => e.burstTrigger n c t) d1
    let d3 := match d2.engineChannel n with
      | some c => if cs.contains c then d2.cycleBegins now n t c else d2
      | none => d2
    let d4 := d3.capture now n t (cs.filter fun c => d3.evtDest n c 24)
    (cs.foldl (fun e c => e.tellFiring n t c) d4).takeDelivered now

/-- EVENT_FIRE: the events of axis `n` that occur at fine step `fine` of the present tick (R152). With its ZERO a period begins; what its settings derive follows where they are new (R138). [log 40: DEDUCED] -/
def Device.eventFire (d : Device) (now n fine : Nat) : Device :=
  let t := now * 32 + fine
  match d.eventsAt n t with
  | ([], none) => d
  | (old, none) => (d.onEdp n fun e => { e with fired := e.fired ++ old }).fire now n t old
  | (old, some new) =>
    let fresh := d.freshPeriod n ((d.rdA Ix.AX_EDP_PERIOD_SEQ n + 1) % 2 ^ 32)
    let d1 := d.periodBegins n (new.filter (· != 1))
    (if fresh then (d1.rebase n).rederive n else d1).fire now n t (old ++ new)

/-- FIRST_PERIOD_START (R154): the first period starts, with its ZERO and what else occurs at its start. -/
def Device.firstPeriod (d : Device) (now n : Nat) : Device :=
  let d1 := d.startFirst now n
  if (d1.edpOf n).running && !(d.edpOf n).running then
    let e := d1.edpOf n
    let start := e.nextStart - e.length * e.unit
    let events := (d1.eventsAt n start).1
    (d1.onEdp n fun e => { e with fired := events }).fire now n start (1 :: events)
  else d1

/-! ### Meanings -/

/-- EVENT_FIRE (R152, R153): the events of axis `n` at fine step 8 × `quarter` + `eighth` of the present tick, whichever the edge placer places there. -/
def execEventFire (n : Fin 8) (quarter : Fin 4) (eighth : Fin 8) (s : State) : Host.Outcome State Fault Refusal :=
  s.onRunning fun now d => d.eventFire now n (8 * quarter + eighth)

/-- FIRST_PERIOD_START (R154). [log 40: DEDUCED] -/
def execFirstPeriodStart (n : Fin 8) (s : State) : Host.Outcome State Fault Refusal :=
  s.onRunning fun now d => d.firstPeriod now n

/-- SLICE_CONVERSION_DONE (R168, R170): a slice completes a conversion, with a raw code, its parity, and for a supply the reading in mV. [log 3: DESIGN CHOICE, 77: DESIGN CHOICE] -/
def execSliceConversionDone (done : SliceEnd) (raw : Int) (parityOk : Bool) (mv : Nat) (s : State) : Host.Outcome State Fault Refusal :=
  s.onRunning fun now d =>
    let job := (d.cnv.slices.getD done.slice ⟨false, .idle, 0, false⟩).job
    let d1 := (d.sliceDone now (now * 32 + done.fine) done.slice raw parityOk mv).takeDelivered now
    match job with
    | .monitor code => if 0x60 ≤ code && code ≤ 0x67 && parityOk then d1.analogRein (code - 0x60) else d1
    | _ => d1

/-- DROPPED (R169 rule 2). -/
def execDropped (n : Fin 8) (s : State) : Host.Outcome State Fault Refusal :=
  s.onRunning fun now d => (d.dropWaiting now n).takeDelivered now

end Sys2Proof.Machine
end

