-- ==== Sys2Proof/Machine/Pace.lean ====
section
/-! DEFINITION. The Pacer's reference, delay lines and strobe (R9 rule 6, R20), and the pace modes (R16, R18, R83 to R85). -/

namespace Sys2Proof.Machine

/-! ### Pace -/

/-- `SUP_PACE_ACTIVE` reads the mode in force, or 3 while a change is in progress (R83). -/
def Device.showPace (d : Device) : Device :=
  (d.wr Ix.SUP_PACE_ACTIVE 0 (if d.supply.paceTarget.isSome then 3 else d.supply.pace)).wrBit Ix.SUP_STATUS 0 9 d.supply.paceTarget.isSome

/-- An enabled axis has a current-loop rate above 50 kHz (R18 rule 1). -/
def Device.tooFastForWalk (d : Device) : Bool := axes.any fun n => d.countsEnabled n && d.rateAbove50k n

/-- A change to a mode starts; a request for the mode in force changes nothing (R18). -/
def Device.startPace (d : Device) (mode : Nat) : Device :=
  if mode == d.supply.pace then d.showPace
  else ({ d with supply := { d.supply with paceTarget := some mode } }).showPace

/-- An accepted request for a mode: taken up now, or kept while a change is in progress, the latest one only (R18 rule 4). -/
def Device.requestPace (d : Device) (mode : Nat) : Device :=
  let d1 := d.wr Ix.SUP_PACE_REQ 0 mode
  if d1.supply.paceTarget.isSome then { d1 with supply := { d1.supply with paceKept := some mode } } else d1.startPace mode

/-- A kept request is taken up under the test of R18 rule 1; one that fails is reported and recorded as a RANGE answer. [log 15: DESIGN CHOICE] -/
def Device.takeKept (d : Device) (now : Nat) : Device :=
  match d.supply.paceKept with
  | none => d
  | some mode =>
    let d1 := { d with supply := { d.supply with paceKept := none } }
    if mode == 0 && d1.tooFastForWalk then
      ((d1.post now 0x10 0x0A Ix.SUP_PACE_REQ).lastReject Ix.SUP_PACE_REQ 0 0 4 0).wr Ix.SUP_PACE_REQ 0 d1.supply.pace
    else d1.startPace mode

/-- PACE_CHANGE_DONE (R18 rules 3 and 4). [log 15: DESIGN CHOICE] -/
def Device.paceDone (d : Device) (now : Nat) : Device :=
  match d.supply.paceTarget with
  | none => d
  | some mode => (({ d with supply := { d.supply with pace := mode, paceTarget := none } }).showPace.inc Ix.SUP_PACE_CHANGES).takeKept now

/-- PACE_FAIL (R85): the previous mode stays in force, and `SUP_PACE_REQ` reads it. [log 15: DESIGN CHOICE] -/
def Device.paceFail (d : Device) (now : Nat) : Device :=
  match d.supply.paceTarget with
  | none => d
  | some mode =>
    let d1 := { d with supply := { d.supply with paceTarget := none, paceKept := none } }
    (d1.showPace.wr Ix.SUP_PACE_REQ 0 d1.supply.pace).post now 0x10 0x48 mode

/-! ### The Pacer -/

/-- A write of `PAC_SOURCE` takes effect at the next tick boundary (R20): the reference in use is the one written. -/
def Device.pacSource (d : Device) : Device :=
  ({ d with supply := { d.supply with xtalLost := false } }).wr Ix.PAC_SOURCE_ACTIVE 0 (d.rd Ix.PAC_SOURCE)

/-- XTAL_LOST (R20 rules 1 and 2, R69): the selected crystal stopped, or never ran. No table gives the detail of kind 0x40, so it is a free value (log entry 15). [log 15: DESIGN CHOICE] -/
def Device.xtalGone (d : Device) (now : Nat) : Device :=
  if d.rd Ix.PAC_SOURCE == 0 && !d.supply.xtalLost then
    (({ d with supply := { d.supply with xtalLost := true, xtalStable := false } }).drawn.wr Ix.PAC_SOURCE_ACTIVE 0 1).post now 0x20 0x40 (d.peekFree 16)
  else { d with supply := { d.supply with xtalStable := false } }

/-! ### Meanings -/

/-- PACER_STROBE (R9 rule 6): at a Pacer count that is a multiple of 256. -/
def execPacerStrobe (s : State) : Host.Outcome State Fault Refusal :=
  s.onRunning fun now d => if now % 256 == 0 then { d with girth := { d.girth with lastStrobe := now } } else d

/-- STROBE_LOST (R9 rule 6, Table 7.5 source 6): every leg latches, and PAC kind 0x42 is posted; while the device is held in reset the source is remembered for boot step 5. -/
def execStrobeLost (s : State) : Host.Outcome State Fault Refusal :=
  s.onDev fun now d =>
    (if d.isRunning then d.wrBit Ix.GTH_STATUS 0 3 true else d).tripOrKeep now ⟨6, 0, 0x20, 0x42, 0⟩

/-- DELAY_LINE_SWAP (R20): the calibrated line takes over where its calibration fitted 32 steps into a tick; `taps` is in Q8.8. No table gives the detail of kind 0x41, so it is a free value (log entry 15). [log 15: DESIGN CHOICE] -/
def execDelayLineSwap (taps : Nat) (fits : Bool) (s : State) : Host.Outcome State Fault Refusal :=
  s.onRunning fun now d =>
    if fits then
      (({ d with supply := { d.supply with delayLine := if d.supply.delayLine == 0 then 1 else 0 } }).wr Ix.PAC_DL_STEPS 0 taps).inc Ix.PAC_DL_CAL_COUNT
    else d.drawn.post now 0x20 0x41 (d.peekFree 16)

/-- XTAL_LOST (R20). -/
def execXtalLost (s : State) : Host.Outcome State Fault Refusal := s.onRunning fun now d => d.xtalGone now

/-- PACE_CHANGE_DONE (R18). -/
def execPaceChangeDone (s : State) : Host.Outcome State Fault Refusal := s.onRunning fun now d => d.paceDone now

/-- PACE_FAIL (R85). -/
def execPaceFail (s : State) : Host.Outcome State Fault Refusal := s.onRunning fun now d => d.paceFail now

end Sys2Proof.Machine
end

