-- ==== Sys2Proof/Machine/Thermal.lean ====
section
/-! DEFINITION. The thermal manager (R319 to R330): readings, broken sensors, thresholds, derating, the rate of rise, the pace step-down, and the commit rule. -/

namespace Sys2Proof.Machine

/-- The 18 sensors. -/
def sensors : List Nat := List.range 18

/-- Sensor `k`. -/
def Device.therm (d : Device) (k : Nat) : Therm := d.thm.toList.getD k Therm.rest
/-- Change it. -/
def Device.onTherm (d : Device) (k : Nat) (f : Therm → Therm) : Device := 
  if h : k < 18 then { d with thm := d.thm.set k (f (d.thm[k])) } else d

/-- ROLE of an external sensor, sensor number 10 to 17. -/
def Device.extRole (d : Device) (k : Nat) : Nat := d.rd Ix.THM_EXT_CFG (k - 9) % 4
/-- AUX of an external sensor. -/
def Device.extAux (d : Device) (k : Nat) : Nat := field (d.rd Ix.THM_EXT_CFG (k - 9)) 18 16
/-- AXES of an external sensor. -/
def Device.extAxes (d : Device) (k : Nat) : Nat := field (d.rd Ix.THM_EXT_CFG (k - 9)) 31 24

/-- The sensor is in service: on-die, or external with a role (R319). -/
def Device.inService (d : Device) (k : Nat) : Bool := k < 10 || d.extRole k != 0

/-- The sensor protects: it counts in the maximum and acts at T_SHUT (R319, Table 16.2). -/
def Device.protects (d : Device) (k : Nat) : Bool := k < 10 || d.extRole k == 1

/-- The axes associated with a sensor (Table 16.1). -/
def Device.sensorAxes (d : Device) (k : Nat) : List Nat :=
  if k < 4 then []
  else if k < 10 then axes.filter fun n => (d.axisLegs n).any fun l => l / 4 == k - 4
  else if d.extRole k == 1 then maskList 8 (d.extAxes k)
  else []

/-- A field of a sensor's thresholds: 1 T_WARN, 2 T_LIMIT, 3 T_SHUT, 4 HYST, 5 RATE_MAX, 6 DERATE_MIN, 7 DERATE_RATE (R324). -/
def Device.thmLim (d : Device) (k sub : Nat) : Int :=
  if k < 4 then d.rdS 16 Ix.THM_CLASS_RIDER sub
  else if k < 10 then d.rdS 16 Ix.THM_CLASS_SADDLE sub
  else d.rdS 16 (Ix.THM_EXT_LIM + (k - 10)) sub

/-- One bit of `THM_STATE`: 0 WARN, 1 LIMIT, 2 SHUT, 3 RATE, 4 BROKEN, 5 FAST (Table 16.8). -/
def Device.thmBit (d : Device) (k b : Nat) : Bool := bit (d.rd Ix.THM_STATE (k + 1)) b
/-- Set it. -/
def Device.setThmBit (d : Device) (k b : Nat) (v : Bool) : Device := d.wrBit Ix.THM_STATE (k + 1) b v
/-- The reading of a sensor. -/
def Device.temp (d : Device) (k : Nat) : Int := d.rdS 16 Ix.THM_READING (k + 1)

/-- Source byte of a sensor: THM instance 0 for Rider sensors, 1 for the others (R329). -/
def thmSource (k : Nat) : Nat := srcByte 0xC (if k < 4 then 0 else 1)

/-! ### Derating and what is shown (R323, R325) -/

/-- k_s of a sensor's reading (R325): thresholds act from the next reading on (R327). [log 63: DEDUCED] -/
def Device.newFactor (d : Device) (k : Nat) : Device :=
  let dmin := d.thmLim k 6
  let l := d.thmLim k 2
  let f := if d.thmBit k 1 then clampI dmin hi16 (hi16 - divRne ((hi16 - dmin) * (d.temp k - l)) (max 1 (d.thmLim k 3 - l))) else hi16
  d.onTherm k fun t => { t with factor := f }

/-- k_s of a sensor: with a rate excess at most DERATE_RATE (R325). [log 63: DEDUCED] -/
def Device.sensorFactor (d : Device) (k : Nat) : Int :=
  if d.thmBit k 3 then min (d.therm k).factor (d.thmLim k 7) else (d.therm k).factor

/-- `THM_DERATE`, `THM_AXIS_TEMP`, `THM_MAX`, `THM_MAX_SRC` and `THM_STATUS` follow the sensors. -/
def Device.showThermal (d : Device) : Device :=
  let live := sensors.filter d.inService
  let d1 := axes.foldl (fun e n =>
    let ks := live.filter fun k => (d.sensorAxes k).contains n
    let f := ks.foldl (fun m k => min m (d.sensorFactor k)) hi16
    let e1 := e.wrI Ix.THM_DERATE (n + 1) f
    match ks with
    | [] => e1
    | k0 :: rest => e1.wrI Ix.THM_AXIS_TEMP (n + 1) (rest.foldl (fun m k => max m (d.temp k)) (d.temp k0))) d
  let top := (live.filter d.protects).foldl (fun m k => if d.temp m < d.temp k then k else m) 0
  let any := fun (b : Nat) => live.any fun k => d.thmBit k b
  let shut := live.any fun k => d.protects k && d.thmBit k 2
  let st := bitIf (any 0) 0 + bitIf (any 1) 1 + bitIf shut 2 + bitIf (any 3) 3 + bitIf (any 4) 4 + bitIf (any 5) 5 + bitIf (d1.bitOf Ix.THM_STATUS 6) 6
  ((d1.wrI Ix.THM_MAX 0 (d.temp top)).wr Ix.THM_MAX_SRC 0 top).wr Ix.THM_STATUS 0 st

/-! ### Thresholds (R324, R326) -/

/-- One threshold of a sensor: its bit sets at the threshold, with its kind at the onset, and clears below the threshold minus HYST (R324). [log 63: DEDUCED] -/
def Device.threshold (d : Device) (now k b kind : Nat) (posts : Bool) : Device :=
  let t := d.temp k
  let lim := d.thmLim k (b + 1)
  if lim ≤ t && !d.thmBit k b then (d.setThmBit k b true).postIf posts now (thmSource k) kind k
  else if t < lim - d.thmLim k 4 && d.thmBit k b then d.setThmBit k b false
  else d

/-- A Rider sensor at T_LIMIT in Gallop: Groom requests Trot (R326). -/
def Device.paceStepDown (d : Device) (now k : Nat) (was : Bool) : Device :=
  if k < 4 && d.thmBit k 1 && !was && d.supply.pace == 2 then
    ((d.requestPace 1).wrBit Ix.THM_STATUS 0 6 true).post now (srcByte 0xC 0) 0x43 k
  else d

/-- A Rider sensor has LIMIT set, so a request for Gallop is answered UNAVAILABLE (R326). -/
def Device.gallopBarred (d : Device) : Bool := [0, 1, 2, 3].any fun k => d.thmBit k 1

/-- A reading takes effect: `THM_READING`, `THM_PEAK`, the thresholds of Table 16.2, fast sampling, derating. -/
def Device.applyReading (d : Device) (now k : Nat) (t : Int) : Device :=
  let d1 := d.wrI Ix.THM_READING (k + 1) t
  let d2 := if d1.rdS 16 Ix.THM_PEAK (k + 1) < t then d1.wrI Ix.THM_PEAK (k + 1) t else d1
  let d3 := d2.threshold now k 0 0x40 true
  let d4 := if d3.thmLim k 1 ≤ t then d3.setThmBit k 5 true else d3
  let d5 := (d4.threshold now k 1 0x41 true).threshold now k 2 0x08 (d4.protects k)
  ((d5.newFactor k).paceStepDown now k (d4.thmBit k 1)).showThermal

/-! ### Readings (R320 to R322) -/

/-- The temperature of an external sensor's AUX result by its curve (R321). -/
def Device.curveTemp (d : Device) (k : Nat) (x : Int) : Int :=
  let p := x.toNat
  let e := fun (i : Nat) => d.tabI 16 (Ix.THM_EXT_CURVE + (k - 10)) 0 i
  e (p / 256) + divRne ((e (p / 256 + 1) - e (p / 256)) * (p % 256 : Nat)) 256

/-- −60 °C and +200 °C as TEMP16. -/
def tempFloor : Int := -7680
/-- +200 °C. -/
def tempCeil : Int := 25600

/-- A sensor becomes broken: its reading is its T_SHUT, and a kind is posted by its role (R322). [log 63: DEDUCED] -/
def Device.breakSensor (d : Device) (now k : Nat) : Device :=
  let d1 := if d.thmBit k 4 then d
    else (d.setThmBit k 4 true).post now (thmSource k) (if 10 ≤ k && d.extRole k == 2 then 0x45 else 0x44) k
  d1.applyReading now k (d1.thmLim k 3)

/-- What the end of a reading interval brings: no reading, a conversion MISSING or CLIP, or a value — a TEMP16 number, or the x of an external sensor — and whether the Rider readout passed its self-test. CLIP breaks an external sensor at once, else the third such conversion in a row does (R322). [log 63: DEDUCED] -/
def Device.thermalReading (d : Device) (now k : Nat) (made selfTestOk : Bool) (m : Mon) : Device :=
  if !d.inService k then d
  else if !made then
    let d1 := d.onTherm k fun t => { t with silent := t.silent + 1, valid := false }
    if 4 ≤ (d1.therm k).silent then d1.breakSensor now k else d1
  else if m.clip || m.missing then
    let d1 := d.onTherm k fun t => { t with bad := t.bad + 1, silent := 0, valid := false }
    if (10 ≤ k && m.clip) || 3 ≤ (d1.therm k).bad then d1.breakSensor now k else d1
  else
    let x := clampI 0 hi16 m.value
    let wrong := if k < 10 then m.value < tempFloor || tempCeil < m.value || !selfTestOk
      else x < d.rdS 16 (Ix.THM_EXT_LIM + (k - 10)) 8 || d.rdS 16 (Ix.THM_EXT_LIM + (k - 10)) 9 < x
    let t := if k < 10 then m.value else d.curveTemp k x
    let d1 := d.onTherm k fun h => { h with value := t, valid := !wrong, bad := 0, silent := 0 }
    if wrong then d1.breakSensor now k
    else if d1.thmBit k 4 then d1.applyReading now k (d1.thmLim k 3)
    else d1.applyReading now k t

/-- SENSOR_RECOVERED: 1 s of valid readings; the sensor returns to service with its last reading (R322). -/
def Device.sensorRecovered (d : Device) (now k : Nat) : Device :=
  if d.thmBit k 4 && (d.therm k).valid then (d.setThmBit k 4 false).applyReading now k (d.therm k).value else d

/-! ### The rate of rise (R325) and fast sampling (R320) -/

/-- One sensor's update: R over the last 100 ms once it is known, and the rate excess after two successive updates on one side. [log 63: DEDUCED] -/
def Device.rateUpdate (d : Device) (now k : Nat) : Device :=
  let h := (d.therm k).history
  let t := d.temp k
  let push := fun (beyond : Bool) (e : Device) => e.onTherm k fun x => { x with history := (t :: x.history).take 10, beyond := beyond }
  match h[9]? with
  | none => push false d
  | some old =>
    let r := (limit16 ((t - old) * 10)).val
    let above := d.thmLim k 5 < r
    let d1 := push above (d.wrI Ix.THM_RATE (k + 1) r)
    if above == (d.therm k).beyond && above != d.thmBit k 3 then
      let d2 := d1.setThmBit k 3 above
      if above then (d2.setThmBit k 5 true).post now (thmSource k) 0x42 k else d2
    else d1

/-- RISE_RATE_UPDATE, every 10 ms. -/
def Device.rateUpdates (d : Device) (now : Nat) : Device :=
  ((sensors.filter d.inService).foldl (fun e k => e.rateUpdate now k) d).showThermal

/-- FAST_SAMPLING_EXIT: 100 ms below T_WARN − HYST without rate excess. -/
def Device.fastExit (d : Device) (k : Nat) : Device :=
  if d.thmBit k 5 && !d.thmBit k 3 && d.temp k < d.thmLim k 1 - d.thmLim k 4 then (d.setThmBit k 5 false).showThermal else d

/-! ### Enable check, service readings, commit -/

/-- The first sensor associated with axis `n` that has LIMIT set: it refuses an enable (R324). -/
def Device.hotSensor (d : Device) (n : Nat) : Option Nat :=
  sensors.find? fun k => d.inService k && (d.sensorAxes k).contains n && d.thmBit k 1

/-- The conditions of R327, in order. Condition 1 restates the ranges that each staged write met. -/
def thmConds (d m : Device) : List Bool :=
  let exts := (List.range 8).map (· + 10)
  let used := exts.filter fun k => m.extRole k == 1 || m.extRole k == 2
  let steps := fun (k : Nat) =>
    let lo := m.rd (Ix.THM_EXT_LIM + (k - 10)) 8 / 256
    let hi := m.rd (Ix.THM_EXT_LIM + (k - 10)) 9 / 256 + 1
    (List.range (hi - lo)).map fun i =>
      m.tabI 16 (Ix.THM_EXT_CURVE + (k - 10)) 0 (lo + i + 1) - m.tabI 16 (Ix.THM_EXT_CURVE + (k - 10)) 0 (lo + i)
  let same := fun (k : Nat) =>
    d.rd Ix.THM_EXT_CFG (k - 9) == m.rd Ix.THM_EXT_CFG (k - 9) && d.tab (Ix.THM_EXT_CURVE + (k - 10)) == m.tab (Ix.THM_EXT_CURVE + (k - 10))
  [ true,
    ([0, 4] ++ exts).all fun k =>
      decide (m.thmLim k 1 < m.thmLim k 2) && m.thmLim k 2 < m.thmLim k 3 && -7040 < m.thmLim k 1 - m.thmLim k 4,
    ([4] ++ exts).all fun k => decide (m.thmLim k 6 ≤ m.thmLim k 7),
    used.all fun k =>
      bit (m.rd Ix.CNV_MON_AUX) (m.extAux k) && (used.all fun j => j == k || m.extAux j != m.extAux k)
        && m.rdS 16 (Ix.THM_EXT_LIM + (k - 10)) 8 < m.rdS 16 (Ix.THM_EXT_LIM + (k - 10)) 9
        && ((steps k).all (fun x => decide (0 < x)) || (steps k).all fun x => decide (x < 0)),
    exts.all fun k => m.extRole k != 2 || m.extAxes k == 0,
    exts.all fun k => same k || (d.sensorAxes k ++ m.sensorAxes k).all fun n => !d.countsEnabled n ]

/-- The settings apply: a sensor without a role leaves its states, and derating follows; thresholds act at each sensor's next reading (R327). -/
def Device.applyThm (d : Device) : Device :=
  (sensors.foldl (fun e k =>
    if e.inService k then e else (e.onTherm k fun _ => Therm.rest).wr Ix.THM_STATE (k + 1) 0) d).showThermal

/-! ### Meanings -/

/-- The place of a monitor-path sensor among the latest monitor conversions (Table 16.1). -/
def Device.thmPlace (d : Device) (k : Nat) : Nat := if k < 10 then k + 12 else d.extAux k

/-- THERMAL_READING (R320): what the interval brought for `sensor`. A Rider sensor's readout is the operands'; the reading of every other sensor is the latest conversion of the monitor path, with its CLIP or MISSING (R177). [log 3: DESIGN CHOICE, 63: DEDUCED] -/
def execThermalReading (sensor : Fin 18) (made clip selfTestOk : Bool) (value : Int) (s : State) : Host.Outcome State Fault Refusal :=
  s.onRunning fun now d =>
    d.thermalReading now sensor made (selfTestOk || 4 ≤ sensor.val)
      (if sensor.val < 4 then ⟨value, clip, false⟩ else d.cnv.monitor.getD (d.thmPlace sensor) Mon.rest)

/-- RISE_RATE_UPDATE (R325). -/
def execRiseRateUpdate (s : State) : Host.Outcome State Fault Refusal := s.onRunning fun now d => d.rateUpdates now

/-- FAST_SAMPLING_EXIT (R320). -/
def execFastSamplingExit (sensor : Fin 18) (s : State) : Host.Outcome State Fault Refusal := s.onRunning fun _ d => d.fastExit sensor

/-- SENSOR_RECOVERED (R322). -/
def execSensorRecovered (sensor : Fin 18) (s : State) : Host.Outcome State Fault Refusal :=
  s.onRunning fun now d => d.sensorRecovered now sensor

end Sys2Proof.Machine
end

