-- ==== Sys2Proof/Machine/Session.lean ====
section
/-! DEFINITION. The end of sessions (R45 rules 4 and 5), what else ends with one, and random bytes of the Vault's DRBG. -/

namespace Sys2Proof.Machine

/-- The staged sets and transfers of an owner are gone (R45 rule 5). [log 32: DEDUCED] -/
def Device.dropOwner (d : Device) (o : Owner) : Device :=
  { d with server := { d.server with
      staged := d.server.staged.filter fun s => s.owner != o
      transfers := d.server.transfers.filter fun t => t.owner != o
      timedOut := d.server.timedOut.filter fun x => x != o } }

/-- `DEV_SESSIONS_OPEN` follows the sessions. -/
def Device.showSessions (d : Device) : Device := d.wr Ix.DEV_SESSIONS_OPEN 0 d.server.sessions.length

/-- An update ends without activation (R408 rule 5): `DEV_STATE` goes back to READY, but stays UPDATE where the boot ROM serves it. -/
def Device.updAbort (d : Device) : Device :=
  if d.state != devUpdate then d
  else
    let d1 := ({ d with vault := { d.vault with updater := none } }).wr Ix.VLT_UPD_STATUS 0 5
    if d1.vault.romUpdate then d1 else d1.wr Ix.DEV_STATE 0 (if d1.bitOf Ix.TLY_STATUS 6 then devSafe else devReady)

/-- A session ends: its staged sets, its transfer, its key and its update with it. -/
def Device.endSession (d : Device) (n : Nat) : Device :=
  let d1 := (d.dropOwner (.session n)).showSessions
  let d2 := ({ d1 with server := { d1.server with sessions := d1.server.sessions.filter fun s => s.number != n } }).showSessions
  if d2.vault.updater == some (.session n) then d2.updAbort else d2

/-- Every session ends. -/
def Device.endSessions (d : Device) : Device := d.server.sessions.foldl (fun e s => e.endSession s.number) d

/-- `k` random bytes (R392): free values. [log 5: DESIGN CHOICE] -/
def Device.randomBytes (d : Device) (k : Nat) : List Nat × Device :=
  ((List.range k).map fun i => (Config.random d.fresh).getD i 0 % 256, d.drawn)

end Sys2Proof.Machine
end

