-- ==== Sys2Proof/Machine/Reaction.lean ====
section
/-! DEFINITION. The Tally (R331 to R350): the class and the scope of a message, intake, the first-fault latch, pending entries, the safe states of axes and of the device, the enable and disable of an axis, ERRN and the event log. -/

namespace Sys2Proof.Machine

/-! ### Messages (R331 to R335) -/

/-- SUBSYSTEM of a message. -/
def msgSub (m : Message) : Nat := m / 2 ^ 28 % 16
/-- INSTANCE. -/
def msgInst (m : Message) : Nat := m / 2 ^ 24 % 16
/-- KIND. -/
def msgKind (m : Message) : Nat := m / 2 ^ 16 % 256
/-- DETAIL. -/
def msgDetail (m : Message) : Nat := m % 2 ^ 16

/-- The kinds of one source that act as Immediate and as Handle; every other kind acts as Note. -/
structure ClassSet where
  immediate : List Nat
  handle    : List Nat

/-- The reaction classes of a source (R333, Table 17.3 and the tables it names). -/
def classSet (sub inst : Nat) : ClassSet :=
  match sub with
  | 0 =>
    if inst == 1 then ⟨[0x40], []⟩
    else if inst < 3 then ⟨[], [0x03]⟩
    else if inst == 8 then ⟨[], [0x40]⟩
    else if inst == 9 then ⟨[], [0x42, 0x48]⟩
    else if inst == 10 then ⟨[], [0x44]⟩
    else if inst == 11 then ⟨[], [0x47]⟩
    else if inst == 12 then ⟨[], [0x48]⟩
    else ⟨[], []⟩
  | 1 => ⟨[0x41, 0x42, 0x43, 0x44], [0x48]⟩
  | 2 => ⟨[0x42], [0x40, 0x41]⟩
  | 3 => ⟨[0x42, 0x04], []⟩
  | 4 => ⟨[0x07, 0x40, 0x41, 0x42, 0x45], [0x44]⟩
  | 5 => ⟨[0x03, 0x09], []⟩
  | 6 => ⟨[], [0x40]⟩
  | 7 => ⟨if inst < 8 then [0x03] else [], [0x03, 0x06, 0x45]⟩
  | 8 => ⟨[0x02, 0x03], [0x05, 0x09]⟩
  | 9 => ⟨if inst < 8 then [0x02, 0x03, 0x44, 0x45] else [0x02], [0x03, 0x40, 0x41, 0x42, 0x46]⟩
  | 10 => ⟨if inst < 8 then [0x03] else [], [0x03, 0x41, 0x42, 0x43]⟩
  | 11 => ⟨[], [0x03, 0x40, 0x41]⟩
  | 12 => ⟨[0x08], [0x03, 0x42, 0x44]⟩
  | 13 => ⟨[], [0x03, 0x40, 0x45]⟩
  | 15 => ⟨[0x42, 0x43], [0x41]⟩
  | _ => ⟨[], []⟩

/-- The class of a message: 0 Note, 1 Handle, 2 Immediate (R335). A handshake stall (kind 0x03) of a channel outside an axis acts as Handle, whatever its source (R14). [log 65: DEDUCED] -/
def classOf (m : Message) : Nat :=
  let c := classSet (msgSub m) (msgInst m)
  if c.immediate.contains (msgKind m) then 2 else if msgKind m == 0x03 || c.handle.contains (msgKind m) then 1 else 0

/-- The axes that own one of these legs, as a mask. -/
def Device.ownersOf (d : Device) (ls : List Nat) : Nat := maskOf (axes.filter fun n => ls.any fun l => d.legOwner l == n)

/-- The axes whose Fan or Thermal loop names a temperature source (Table 17.4). -/
def Device.tsrcAxes (d : Device) (src : Nat) : Nat :=
  maskOf (axes.filter fun n =>
    (d.rd Ix.SVC_KIND (n + 1) == 2 && d.rd (Ix.SVC_FAN + n) 3 == src)
      || (d.rd (Ix.SVC_THERM + n) 1 == 1 && d.rd (Ix.SVC_THERM + n) 3 == src))

/-- The scope of a message (Table 17.4): a mask of axes, `none` for the device. -/
def Device.scopeOf (d : Device) (m : Message) : Option Nat :=
  let inst := msgInst m
  let kind := msgKind m
  let detail := msgDetail m
  let one := fun (n : Nat) => if n < 8 then some (2 ^ n) else some 0
  let every := some (maskOf (axes.filter d.countsEnabled))
  match msgSub m with
  | 0 =>
    if inst == 1 then every
    else if 8 ≤ inst && inst ≤ 12 then (if kind == 0x48 then some (d.tsrcAxes detail) else one (detail % 256))
    else none
  | 4 =>
    if inst < 6 then
      let l := detail % 256
      match kind with
      | 0x07 => some (d.ownersOf (d.tripLegs 4 l))
      | 0x40 => some (d.ownersOf (d.tripLegs 2 l))
      | 0x41 => some (d.ownersOf (d.tripLegs 3 l))
      | 0x45 => some (d.ownersOf (d.tripLegs 7 l))
      | _ => some (d.ownersOf [l])
    else if inst == 7 && kind == 0x42 then some (d.ownersOf (d.tripLegs detail 0))
    else none
  | 5 | 8 => if inst < 8 then one inst else none
  | 6 =>
    if inst < 6 then some (d.ownersOf [detail % 256])
    else if inst == 8 then one (d.reinCfg (detail % 8) 3)
    else none
  | 7 => if inst < 8 then one inst else none
  | 9 => if inst < 8 then one inst else if inst == 8 then every else none
  | 10 => if inst < 8 then one inst else if inst == 8 then some (d.rd Ix.INT_GROUP) else none
  | 12 => if inst == 1 then some (maskOf (d.sensorAxes detail)) else none
  | _ => none

/-! ### The event log (R346) -/

/-- A record for Groom: it joins the queue of 64, or counts as lost. [log 66: DEDUCED] -/
def Device.logPut (d : Device) (r : LogRecord) : Device :=
  if d.tally.logQueue.length < 64 then { d with tally := { d.tally with logQueue := d.tally.logQueue ++ [r] } }
  else d.inc Ix.TLY_LOG_LOST

/-- AXES of a scope: 0xFF for the device. -/
def scopeMask : Option Nat → Nat
  | none => 0xFF
  | some m => m

/-- The record of an entry's escalation (bit 3) or acknowledgement (bit 4). -/
def Device.logEntry (d : Device) (now k : Nat) (e : PendingEntry) : Device :=
  d.logPut ⟨e.message, now, e.cls + 2 ^ k + bitIf e.device 6, e.axes⟩

/-- Groom writes the oldest queued record to the ring, or the write fails and logging stops (R346, R347). [log 66: DEDUCED] -/
def Device.logWritten (d : Device) (ok : Bool) : Device :=
  match d.tally.logQueue with
  | [] => d
  | r :: rest =>
    if d.tally.logStop then d
    else if ok then
      let serial := d.rd Ix.TLY_LOG_HEAD
      ({ d with tally := { d.tally with logQueue := rest, log := ((serial, r) :: d.tally.log).take 16384 } }).wr Ix.TLY_LOG_HEAD 0 (serial + 1)
    else { (d.wrBit Ix.TLY_HEALTH 0 0 true) with tally := { d.tally with logStop := true } }

/-- A log record as 16 bytes (Table 17.7). -/
def LogRecord.bytes (r : LogRecord) : List Nat := leBytes 4 r.message ++ leBytes 8 r.time ++ [r.flags % 256, r.axes % 256, 0, 0]

/-- `TLY_LOG`: 512 records from `TLY_LOG_SEL`; an overwritten or unwritten one reads as 0. [log 66: DEDUCED] -/
def Device.logWindow (d : Device) : List Nat :=
  let from_ := d.rd Ix.TLY_LOG_SEL
  (List.range 512).flatMap fun i =>
    match d.tally.log.find? fun (x : Nat × LogRecord) => x.1 == (from_ + i) % 2 ^ 32 with
    | some x => x.2.bytes
    | none => List.replicate 16 0

/-! ### The safe state of an axis (R342) -/

/-- The engines of an axis stop and its gate command wires go low (R154, R341). -/
def Device.stopAxis (d : Device) (now n : Nat) (failed : Bool) : Device :=
  ((((((d.edpStop n).rebase n).ceStop n).scRest n).feStop n).stStop n failed).prfStop now n false

/-- BRAKE: every low side of the axis on under the guard, every high side off (Table 17.6). A leg of `highs`, whose high side was on, waits for the guard; whether another leg's high side has been off for tGUARD is a free value. [log 18: DEDUCED] -/
def Device.brakeAxis (d : Device) (n : Nat) (highs : List Nat) : Device :=
  (d.axisLegs n).foldl (fun e l =>
    if highs.contains l then e.gateCommand l false true false else e.drawn.gateCommand l false true (e.peekFree 1 == 1)) d

/-- A message that can take or keep HOLD: one from PRF or CPX (R342). The cause 0 of the Tally's own findings (R347) is no message: the Tally has no source code (R4, R334). [log 65: DEDUCED] -/
def holdsSource (m : Message) : Bool := m != 0 && (msgSub m == 0 || msgSub m == 10)

/-- An axis in SAFE is in HOLD: its edge placer still runs. -/
def Device.held (d : Device) (n : Nat) : Bool := (d.edpOf n).running || (d.edpOf n).armed.isSome

/-- An ENABLED axis enters SAFE; one in HOLD goes to COAST for a message from another source than PRF and CPX (R342). -/
def Device.safeAxis (d : Device) (now : Nat) (m : Message) (n : Nat) : Device :=
  if d.axisState n == 1 then
    let code := d.rdA Ix.AX_SAFE_STATE n
    let d1 :=
      if code == 2 && d.stepper n && holdsSource m then (d.prfStop now n true).feEnter n 0
      else
        let e := d.stopAxis now n (d.stState n == 12)
        if code == 1 then e.brakeAxis n ((d.axisLegs n).filter fun l => (d.leg l).high) else e
    (d1.wrA Ix.AX_SAFE_CAUSE n 0 m).wrA Ix.AX_STATE n 0 2
  else if d.axisState n == 2 && d.held n && !holdsSource m then
    (d.stopAxis now n false).wrA Ix.AX_SAFE_CAUSE n 0 m
  else d

/-! ### The device safe state (R343) -/

/-- The device safe state: the Hobble command wire, every ENABLED axis, the cause, and `DEV_STATE`. -/
def Device.deviceSafe (d : Device) (now : Nat) (m : Message) : Device :=
  let was := d.hobbleWire
  let d1 := ({ d with gda := { d.gda with hobbleSafe := true } }).hobbleRise now was
  let d2 := axes.foldl (fun e n => e.safeAxis now m n) d1
  let d3 := (d2.wr Ix.TLY_SAFE_CAUSE 0 m).wrBit Ix.TLY_STATUS 0 6 true
  if d3.state == devReady || d3.state == devRun then d3.wr Ix.DEV_STATE 0 devSafe else d3

/-- DEVICE_SAFE. -/
def Device.inDeviceSafe (d : Device) : Bool := d.bitOf Ix.TLY_STATUS 6

/-- The safe state of a scope is taken. [log 11: DEDUCED, 65: DEDUCED] -/
def Device.takeSafe (d : Device) (now : Nat) (m : Message) (scope : Option Nat) : Device :=
  match scope with
  | none => if d.inDeviceSafe then d else d.deviceSafe now m
  | some mask => (maskList 8 mask).foldl (fun e n => e.safeAxis now m n) d

/-! ### Intake (R336 to R338) -/

/-- The first-fault latch (R337). The Bool says whether this message was latched. -/
def Device.latchFirst (d : Device) (now : Nat) (m : Message) (cls : Nat) : Bool × Device :=
  if d.bitOf Ix.TLY_STATUS 0 then (false, (d.wrBit Ix.TLY_STATUS 0 1 true).inc Ix.TLY_OVERFLOW_COUNT)
  else (true, (((d.wr Ix.TLY_FIRST 1 m).wr Ix.TLY_FIRST 2 now).wr Ix.TLY_FIRST 3 cls).wrBit Ix.TLY_STATUS 0 0 true)

/-- A Handle or Immediate message acts (R335, R338, R343). [log 65: DEDUCED] -/
def Device.react (d : Device) (now : Nat) (m : Message) (cls : Nat) (scope : Option Nat) : Device :=
  let d1 := { d with tally := { d.tally with errnLow := true, errTiming := true }, net := { d.net with faults := d.net.faults ++ [⟨now, m, false⟩] } }
  let noAxis := match scope with
    | none => false
    | some mask => !(maskList 8 mask).any d.countsEnabled
  if noAxis || (scope.isNone && d1.inDeviceSafe) then d1
  else
    let d2 := if cls == 2 then d1.takeSafe now m scope else d1
    if d2.tally.entries.any fun e => e.message == m then d2
    else if 32 ≤ d2.tally.entries.length then
      let d3 := d2.wrBit Ix.TLY_STATUS 0 3 true
      if d3.inDeviceSafe then d3 else d3.deviceSafe now m
    else
      let e : PendingEntry :=
        ⟨m, now, if cls == 2 then 0xFFFF else d.rd Ix.TLY_HANDLE_TIME, cls, false, scope.isNone, scopeMask scope⟩
      { d2 with tally := { d2.tally with entries := d2.tally.entries ++ [e] } }

/-- A service that has a recovery for a kind notices the message (R307, R309). -/
def Device.notice (d : Device) (m : Message) : Device :=
  let n := msgInst m
  let k := msgKind m
  let fan := msgSub m == 9 && 0x44 ≤ k && k ≤ 0x46 && d.rd Ix.SVC_KIND (n + 1) == 2
  let flap := msgSub m == 10 && (k == 0x41 || k == 0x42) && d.rd Ix.SVC_KIND (n + 1) == 3
  if fan || flap then d.onSvc n fun s => { s with noticed := k } else d

/-- An uncorrectable word of engine table RAM stands until the next disable of its axis (R207). -/
def Device.badWord (d : Device) (m : Message) : Device :=
  if msgSub m == 8 && msgKind m == 0x02 then d.onCe (msgInst m) fun c => { c with bad := (c.bad.filter (· != msgDetail m)) ++ [msgDetail m] } else d

/-- One message is taken and acted on in full (R336). -/
def Device.intake (d : Device) (now : Nat) (p : Posted) : Device :=
  let m := p.message
  let cls := classOf m
  let scope := d.scopeOf m
  let (latched, d1) := d.latchFirst now m cls
  let d2 := d1.inc Ix.TLY_COUNT (cls + 1)
  let d3 := d2.logPut ⟨m, now, cls + bitIf latched 2 + bitIf p.injected 5 + bitIf scope.isNone 6, scopeMask scope⟩
  let d4 := if cls == 0 then d3 else d3.react now m cls scope
  (if p.injected then d4 else d4.badWord m).notice m

/-- The order of R336: the earlier tick, then Immediate before Handle before Note, then ascending source, kind and detail. -/
def Posted.before (x y : Posted) : Bool :=
  if x.tick != y.tick then x.tick < y.tick
  else if classOf x.message != classOf y.message then classOf y.message < classOf x.message
  else x.message ≤ y.message

/-- The message to take next, and those that stay. [log 65: DEDUCED] -/
def takeNext : List Posted → Option (Posted × List Posted)
  | [] => none
  | p :: ps =>
    match takeNext ps with
    | none => some (p, [])
    | some (q, rest) => if p.before q then some (p, q :: rest) else some (q, p :: rest)

/-- A finding of the Tally in itself that takes the device safe state with cause 0 and holds ERRN low (R345, R347). [log 65: DEDUCED] -/
def Device.ownFault (d : Device) (now : Nat) : Device :=
  let d1 := { d with tally := { d.tally with errnLow := true } }
  if d1.inDeviceSafe then d1 else d1.deviceSafe now 0

/-- The Tally's own checks of its store and channels (R347): bits of `TLY_HEALTH` newly set; 3 and 4 take the device safe state. -/
def Device.healthSet (d : Device) (now bits : Nat) : Device :=
  let d1 := (maskList 5 bits).foldl (fun e k => e.wrBit Ix.TLY_HEALTH 0 k true) d
  if bit bits 3 || bit bits 4 then d1.ownFault now else d1

/-- FAULT_INTAKE: `arriving` are messages of detections that have no row of their own, `health` the findings of R347 in the Tally's store (2 and 3) and channels (4). [log 65: DEDUCED] -/
def Device.faultIntake (d : Device) (now : Nat) (arriving : List Nat) (health : Nat) : Device :=
  let d1 := d.healthSet now (health % 32 / 4 * 4)
  let box := d1.tally.inbox ++ arriving.map fun m => ⟨now, m % 2 ^ 32, false⟩
  match takeNext box with
  | none => d1
  | some (p, rest) => ({ d1 with tally := { d1.tally with inbox := rest } }).intake now p

/-- Every message waiting is taken. -/
def Device.drainFrom : Nat → Nat → Device → Device
  | 0, _, d => d
  | k + 1, now, d => Device.drainFrom k now (d.faultIntake now [] 0)

/-- Every message waiting is taken, in the order of R336. -/
def Device.drain (d : Device) (now : Nat) : Device := Device.drainFrom d.tally.inbox.length now d

/-! ### Escalation and acknowledgement (R339, R340) -/

/-- A Handle entry reaches its intake time plus tHANDLE unacknowledged. [log 65: DEDUCED] -/
def Device.escalate (d : Device) (now : Nat) (m : Message) : Device :=
  match d.tally.entries.find? fun e => e.message == m && e.cls == 1 && !e.escalated with
  | none => d
  | some e =>
    let d1 := d.takeSafe now m (if e.device then none else some e.axes)
    let mark := d1.tally.entries.map fun (x : PendingEntry) => if x.message == m then { x with escalated := true } else x
    (({ d1 with tally := { d1.tally with entries := mark } }).inc Ix.TLY_COUNT 4).logEntry now 3 e

/-- The entries that `p` picks are acknowledged and logged; the number is returned. -/
def Device.acknowledge (d : Device) (now : Nat) (p : PendingEntry → Bool) : Nat × Device :=
  let gone := d.tally.entries.filter p
  let d1 := { d with tally := { d.tally with entries := d.tally.entries.filter fun e => !p e } }
  (gone.length, gone.foldl (fun e x => e.logEntry now 4 x) d1)

/-- A write of `TLY_ACK` (R340). -/
def Device.ackWrite (d : Device) (now v : Nat) : Device :=
  let (k, d1) := d.acknowledge now fun e => v == 0xFFFF_FFFF || e.message == v
  d1.wr Ix.TLY_ACK 0 k

/-! ### Enable and disable (R341) -/

/-- Uncorrectable words of engine table RAM are reloaded from the active bank at a disable of the axis (R207). -/
def Device.reloadTables (d : Device) (n : Nat) : Device := d.onCe n fun c => { c with bad := [] }

/-- An axis enters DISABLED: the engines stop, and BRAKE and HOLD end. -/
def Device.axisOff (d : Device) (now n : Nat) : Device :=
  (if d.countsEnabled n then (d.stopAxis now n false).wrA Ix.AX_STATE n 0 0 else d).reloadTables n

/-- DISABLE: the axis enters DISABLED, and the entries of this axis alone are acknowledged (R340). -/
def Device.disableAxis (d : Device) (now n : Nat) : Device :=
  ((d.axisOff now n).acknowledge now fun e => !e.device && e.axes == 2 ^ n).2

/-- The enable checks of Table 17.4a in order: whether each is met, its source and its detail. -/
def Device.enableChecks (d : Device) (n : Nat) : List (Bool × Nat × Nat) :=
  let ix := axIx Ix.AX_CMD n
  let used := d.modeOf n 0 != 0 || d.modeOf n 1 != 0
  let inBank := d.withBank n (d.bank n)
  [ (d.axisType n != 0, 0x47, ix),
    (d.rdA Ix.AX_SAFE_STATE n != 2 || d.axisType n == 2, 0x01, ix),
    (d.captureOk n, srcByte 7 n, ix),
    (!d.brushed n || d.modeOf n 0 == 0, srcByte 8 n, ix),
    (!used || (d.engineChannel n).isSome, srcByte 8 n, ix),
    (!(d.walking && d.rateAbove50k n), srcByte 8 n, ix),
    (!(d.rdA Ix.AX_SC_PREDICT n == 1 && used) || inBank.modelUsable n, srcByte 8 n, ix),
    (d.stepperOk n, srcByte 0xA n, ix),
    (d.fieldOk n, srcByte 9 n, ix),
    (d.catchOk n, srcByte 9 n, ix),
    ((d.hotSensor n).isNone, 0xC1, (d.hotSensor n).getD 0) ]

/-- An axis enters ENABLED from DISABLED: its engines start. -/
def Device.startAxis (d : Device) (now n : Nat) : Device :=
  let d1 := ((d.wrA Ix.AX_STATE n 0 1).scRest n).ceEnable n
  let d2 := d1.feEnable now n
  let d3 := if d2.threePhase n then d2.stEnable n else d2
  (d3.prfEnable now n).edpEnable now n

/-- ENABLE: its answer and what it does (R341). -/
def Device.enableAxis (d : Device) (now n session : Nat) : Nat × Device :=
  if d.enabled n then (0, d)
  else if d.tally.entries.any fun e => e.device || bit e.axes n then (0x0F, d)
  else if (d.axisLegs n).any (fun l => (d.leg l).latched) || d.state == devSafe then (0x0F, d)
  else
    let checks := d.enableChecks n
    match checks.findIdx? fun c => !c.1 with
    | some i =>
      let c := checks.getD i (true, 0, 0)
      (0x08, (d.lastReject (axIx Ix.AX_CMD n) 0 (i + 1) 0x08 session).post now c.2.1 0x0A c.2.2)
    | none =>
      let d1 := if d.axisState n == 2 then (d.stopAxis now n false).reloadTables n else d
      (0, d1.startAxis now n)

/-! ### Release (R344, R345) and health (R347) -/

/-- A release of the device safe state is refused (R344). -/
def Device.safeRefused (d : Device) : Bool :=
  d.tally.entries.any (·.device) || d.bitOf Ix.SUP_STATUS 2 || !d.bitOf Ix.SUP_STATUS 3 || !d.bitOf Ix.SUP_STATUS 4
    || !d.bitOf Ix.GTH_STATUS 0 || d.bitOf Ix.GTH_STATUS 3 || [0, 1, 2, 3].any (fun k => d.thmBit k 1) || d.healthHolds

/-- The device safe state ends (R344). -/
def Device.safeRelease (d : Device) : Device :=
  let d1 := ({ d with gda := { d.gda with hobbleSafe := false } }).wrBit Ix.TLY_STATUS 0 6 false
  if d1.state == devSafe then d1.wr Ix.DEV_STATE 0 devReady else d1

/-- The latch is cleared (R337). [log 65: DEDUCED] -/
def Device.firstClear (d : Device) : Device :=
  (([1, 2, 3].foldl (fun e k => e.wr Ix.TLY_FIRST k 0) d).wrBit Ix.TLY_STATUS 0 0 false).wrBit Ix.TLY_STATUS 0 1 false

/-- A Handle timer failed its self-check (R347). -/
def Device.timerFault (d : Device) (now : Nat) : Device := (d.wrBit Ix.TLY_HEALTH 0 1 true).ownFault now

/-- A pending entry as 16 bytes, at Pacer count `now` (Table 17.5). -/
def PendingEntry.bytes (e : PendingEntry) (now : Nat) : List Nat :=
  let passed := now - e.posted
  let left := if e.handleMs == 0xFFFF then 0xFFFF
    else if e.escalated then 0
    else ceilDiv (e.handleMs * 160000 - passed) 160000
  leBytes 4 e.message ++ leBytes 8 e.posted ++ leBytes 2 left ++ [e.cls + bitIf e.escalated 6 + bitIf e.device 7, e.axes % 256]

/-! ### The Teamster lockstep restart (R13) -/

/-- LOCKSTEP: the pair restarts, which ends every session (R45), and every enabled axis takes its safe state. -/
def Device.lockstep (d : Device) (now : Nat) : Device :=
  let d0 := (d.endSessions).dropOwner .hostSpi
  let d1 := { d0 with server := { d0.server with teamster := false } }
  (d1.post now 0x01 0x40 0).drain now

/-! ### Meanings -/

/-- HANDLE_ESCALATION (R339) of the entry of a message. -/
def execHandleEscalation (message : Nat) (s : State) : Host.Outcome State Fault Refusal :=
  s.onRunning fun now d => d.escalate now message

/-- ERR_TIME_EXPIRE (R345). [log 66: DEDUCED] -/
def execErrTimeExpire (s : State) : Host.Outcome State Fault Refusal :=
  s.onRunning fun _ d => { d with tally := { d.tally with errTiming := false } }

/-- LOG_RECORD_WRITTEN (R346). -/
def execLogRecordWritten (ok : Bool) (s : State) : Host.Outcome State Fault Refusal := s.onRunning fun _ d => d.logWritten ok

/-- TIMER_SELF_CHECK (R347). -/
def execTimerSelfCheck (ok : Bool) (s : State) : Host.Outcome State Fault Refusal :=
  s.onRunning fun now d => if ok then d else d.timerFault now

end Sys2Proof.Machine
end

