-- ==== Sys2Proof/Machine/Services.lean ====
section
/-! DEFINITION. The application services (R299 to R313): binding, states and ownership, the Pump, the Fan, the Flap, the Seat and the Thermal loop. -/

namespace Sys2Proof.Machine

/-! ### Bindings, states and time (R299, R301, R303) -/

/-- `SVC_KIND` of axis `n`: 1 Pump, 2 Fan, 3 Flap/Valve, 4 Seat member. -/
def Device.svcKind (d : Device) (n : Nat) : Nat := d.rd Ix.SVC_KIND (n + 1)
/-- `SVC_STATE`: 0 UNBOUND, 1 IDLE, 2 STARTING, 3 RUNNING, 4 RECOVERING, 5 STOPPING, 6 FAULT. -/
def Device.svcState (d : Device) (n : Nat) : Nat := d.rd Ix.SVC_STATE (n + 1)
/-- Set it. -/
def Device.setSvc (d : Device) (n st : Nat) : Device := d.wr Ix.SVC_STATE (n + 1) st
/-- The service owns its axis (R302). -/
def Device.svcOwner (d : Device) (n : Nat) : Bool := 2 ≤ d.svcState n && d.svcState n ≤ 5
/-- The Thermal loop of axis `n` is enabled. -/
def Device.thermal (d : Device) (n : Nat) : Bool := d.rd (Ix.SVC_THERM + n) 1 == 1
/-- Milliseconds in a service tick (Table 15.3). -/
def Device.tickMs (d : Device) : Nat := if d.supply.pace == 0 then 2 else 1
/-- A service time in whole ticks, rounded up (R303). -/
def Device.inTicks (d : Device) (ms : Nat) : Nat := ceilDiv ms d.tickMs
/-- CPX source byte by kind: 8 Pump, 9 Fan, 10 Flap/Valve, 11 Seat (R317). -/
def svcSource (kind : Nat) : Nat := srcByte 0 (7 + kind)
/-- Set or clear a bit of `SVC_STATUS`. -/
def Device.svcBit (d : Device) (n k : Nat) (b : Bool) : Device := d.wrBit Ix.SVC_STATUS (n + 1) k b

/-- The axes of one instance: every member of the Seat, else the axis. -/
def Device.svcAxes (d : Device) (n : Nat) : List Nat := if d.svcKind n == 4 then d.seatMembers else [n]

/-- FAULT with a kind. -/
def Device.svcFault (d : Device) (now n kind detail : Nat) : Device :=
  ((d.svcAxes n).foldl (fun e k => (e.setSvc k 6).onSvc k fun s => { s with recovery := .none, noticed := 0 }) d).post now (svcSource (d.svcKind n)) kind detail

/-! ### Writes of a service (R302) -/

/-- Write a slot's manual value, as `AXn_CE_MANUAL` takes it (R195). -/
def Device.manualWrite (d : Device) (n s : Nat) (v : Int) : Device :=
  (d.wrAI Ix.AX_CE_MANUAL n (s + 1) v).onSlot n s fun x => { x with written := true }

/-- Set a slot to MANUAL at a value, to be set back later. -/
def Device.toManual (d : Device) (n s : Nat) (v : Int) : Device :=
  ((d.wrA Ix.AX_CE_MODE n (s + 1) 1).manualWrite n s v).onSvc n fun x => { x with held := x.held.filter (· != s) ++ [s] }

/-- Set a slot back to AUTO. -/
def Device.toAuto (d : Device) (n s : Nat) : Device := d.wrA Ix.AX_CE_MODE n (s + 1) 2

/-- The sources of slot `s` by the bank in force: reference and feedback (R199, R300). -/
def Device.srcNow (d : Device) (n s : Nat) : Nat × Nat :=
  let v := (d.bank n).rd Ix.AX_CE_SRC n (s + 1)
  (v / 256, v % 256)

/-- The slot whose output slot 2 of a pump takes: 4 or 5, none for its own reference (R305). -/
def Device.pumpFeeder (d : Device) (n : Nat) : Option Nat :=
  if (d.srcNow n 2).1 == 5 then some 4 else if (d.srcNow n 2).1 == 6 then some 5 else none

/-- Slot 5 at its OUT_MAX: a pump at full demand (R313). -/
def Device.fullDemand (d : Device) (n : Nat) : Device := d.toManual n 5 ((d.bank n).coef n 5).outMax

/-- The slots that the service holds in MANUAL go back to AUTO; slot 5 stays at full demand while its temperature source is lost (R305, R313). [log 61: DEDUCED] -/
def Device.unimpose (d : Device) (n : Nat) : Device :=
  (d.svcOf n).held.foldl (fun e s =>
    if s == 5 && (e.svcOf n).lost then e.fullDemand n
    else (e.toAuto n s).onSvc n fun x => { x with held := x.held.filter (· != s) }) d

/-- A recovery imposes a speed on slot 2 (R305). -/
def Device.impose (d : Device) (n : Nat) (v : Int) : Device :=
  match d.pumpFeeder n with
  | none => d.wrAI Ix.AX_CE_REF n 3 v
  | some s => d.toManual n s v

/-- A pump's STOP: a zero reference to slot 2, or to slot 4 in MODE 1 and 2; under a Thermal loop slot 5 is held at zero as well. -/
def Device.pumpZero (d : Device) (n : Nat) : Device :=
  let d1 := d.wrAI Ix.AX_CE_REF n (if d.rd (Ix.SVC_PUMP + n) 1 == 0 then 3 else 5) 0
  if d.thermal n then d1.toManual n 5 0 else d1

/-! ### Temperatures (R306, R313) -/

/-- The temperature source `t` is neither broken nor stale. [log 63: DEDUCED] -/
def Device.tempOk (d : Device) (t : Nat) : Bool :=
  if t < 8 then !d.thmBit (10 + t) 4
  else d.extAge.toList.getD (t - 16) 0 < d.rd Ix.SVC_TEMP_EXT_TMO

/-- Its TEMP16 number. -/
def Device.tempOfSource (d : Device) (t : Nat) : Int :=
  if t < 8 then d.temp (10 + t) else d.rdS 16 Ix.SVC_TEMP_EXT (t - 16 + 1)

/-- The temperature source that a service reads, where it reads one. -/
def Device.svcTsrc (d : Device) (n : Nat) : Option Nat :=
  if d.svcKind n == 1 && d.thermal n then some (d.rd (Ix.SVC_THERM + n) 3)
  else if d.svcKind n == 2 && d.rd (Ix.SVC_FAN + n) 1 == 0 then some (d.rd (Ix.SVC_FAN + n) 3)
  else none

/-! ### RUN and STOP (R301) -/

/-- A group command of the Seat: its own FLUSH (R310). -/
def Device.seatFlush (d : Device) (now : Nat) : Device :=
  ({ d with seat := { d.seat with push := none } }).groupFlush now false

/-- The answer to RUN (Table 15.2). -/
def Device.runStatus (d : Device) (n : Nat) : Nat :=
  match d.svcState n with
  | 0 | 6 => 0x0F
  | 1 => if (d.svcAxes n).any d.countsEnabled then 0x07 else 0
  | 5 => 0x0A
  | _ => 0

/-- An entry to STARTING: the service enables the axis (R301). -/
def Device.svcStart (d : Device) (now n : Nat) : Device :=
  let d1 := ((d.unimpose n).inc Ix.SVC_STARTS (n + 1)).setSvc n 2
  (d1.enableAxis now n 0).2.onSvc n fun s =>
    { s with recovery := .none, ticks := 0, dry := 0, aired := false, demanded := false, pushed := none, cause := 0, noticed := 0, spell := 0 }

/-- RUN at the Seat: known positions are preset, unknown ones reported (R312). -/
def Device.seatRun (d : Device) (now : Nat) : Device :=
  let ms := d.seatMembers
  let d1 := (ms.zipIdx).foldl (fun e (n, k) =>
    if e.bitOf Ix.SVC_SEAT_KNOWN k then e.onFe n fun f => { f with preset := some (d.rdA Ix.AX_FE_POSITION n) } else e) d
  let unknown := maskOf ((ms.zipIdx).filterMap fun (_, k) => if d.bitOf Ix.SVC_SEAT_KNOWN k then none else some k)
  let d2 := d1.postIf (unknown != 0) now (svcSource 4) 0x46 unknown
  { d2 with seat := Seat.rest }

/-- RUN of the instance of axis `n`. [log 61: DEDUCED] -/
def Device.svcRun (d : Device) (now n : Nat) : Device :=
  if d.runStatus n != 0 || d.svcState n != 1 then d
  else
    let d1 := (d.svcAxes n).foldl (fun e k => (e.onSvc k fun s => { s with retries := 0 }).svcStart now k) d
    if d.svcKind n == 4 then d1.seatRun now else d1

/-- STOP of a service that owns its axis: what it writes first (R304 to R310). -/
def Device.stopWrites (d : Device) (now n : Nat) : Device :=
  match d.svcKind n with
  | 1 => (if d.svcState n == 4 then d.unimpose n else d).pumpZero n
  | 2 => d.wrAI Ix.AX_CE_REF n 3 0
  | 3 => if d.prfState n == 5 then d.quickStop now n else d.flush now n
  | _ => d

/-- IDLE: the slots that the service held go back to AUTO. -/
def Device.toIdle (d : Device) (n : Nat) : Device := (d.unimpose n).setSvc n 1

/-- STOP of the instance of axis `n`. [log 61: DEDUCED] -/
def Device.svcStop (d : Device) (now n : Nat) : Device :=
  if d.svcState n == 6 then (d.svcAxes n).foldl (fun e k => e.toIdle k) d
  else if 2 ≤ d.svcState n && d.svcState n ≤ 4 then
    let d1 := (d.svcAxes n).foldl (fun e k => ((e.stopWrites now k).setSvc k 5).onSvc k fun s => { s with recovery := .none }) d
    if d.svcKind n == 4 then { (d1.seatFlush now) with seat := { (d1.seatFlush now).seat with next := none } } else d1
  else d

/-- STOPPING ends: the axis at rest is disabled (R301). -/
def Device.stopped (d : Device) (now n : Nat) : Device :=
  (d.disableAxis now n).toIdle n

/-! ### Pump (R304, R305, R313) -/

/-- The Thermal loop's two writes. -/
def Device.thermalWrites (d : Device) (n : Nat) : Device :=
  let t := d.rd (Ix.SVC_THERM + n) 3
  let per := fun (x : Int) => (limit16 (divRne (-(x * 256)) (max 1 (d.rd (Ix.SVC_THERM + n) 4)))).val
  let d1 := d.wrAI Ix.AX_CE_REF n 6 (per (d.rdS 16 (Ix.SVC_THERM + n) 2))
  if d.tempOk t then d1.wrAI Ix.AX_CE_FB_EXT n 6 (per (d.tempOfSource t)) else d1

/-- A tick is dry (R305). -/
def Device.dryTick (d : Device) (n : Nat) : Bool :=
  let p := fun (s : Nat) => d.rdS 16 (Ix.SVC_PUMP + n) s
  let w := speedFrac (d.rdAS 32 Ix.AX_FE_SPEED n)
  let iq := d.rdAS 16 Ix.AX_FE_IDQ n 2
  let iexp := (frac16Of (mulFF (p 4) (frac16Of (mulFF w w)).val)).val
  p 6 ≤ w.natAbs && iq.natAbs < (frac16Of (mulFF (p 5) iexp)).val

/-- A Pump's tick. -/
def Device.pumpTick (d : Device) (now n : Nat) : Device :=
  let s := d.svcOf n
  let mode := d.rd (Ix.SVC_PUMP + n) 1
  let target := d.rdS 16 (Ix.SVC_PUMP + n) 2
  let st := d.svcState n
  let d1 := if mode == 0 then d else d.wrAI Ix.AX_CE_FB_EXT n 5 (d.cnv.monitor.getD (d.rd (Ix.SVC_PUMP + n) 3) Mon.rest).value
  let d2 := if d.thermal n then d1.thermalWrites n
    else if st == 5 then d1
    else if mode != 0 then d1.wrAI Ix.AX_CE_REF n 5 target
    else if st == 4 then d1
    else d1.wrAI Ix.AX_CE_REF n 3 target
  if st == 2 then
    if d.stState n == 8 then (d2.setSvc n 3).onSvc n fun x => { x with ticks := 0, dry := 0, aired := false, spell := 0 } else d2
  else if st == 3 then
    let dry := if d.dryTick n then s.dry + 1 else 0
    let spell := s.spell + 1
    d2.onSvc n fun x => { x with ticks := x.ticks + 1, dry := dry, spell := spell, retries := if 60000 ≤ spell * d.tickMs then 0 else x.retries }
  else if st == 4 && s.recovery == .dryStop && d.stState n == 9 then
    (d2.disableAxis now n).onSvc n fun x => { x with recovery := .dryWait }
  else if st == 5 && d.stState n == 9 then d2.stopped now n
  else d2

/-- DRY_DETECTED (R305). [log 61: DEDUCED] -/
def Device.dryDetected (d : Device) (now n : Nat) : Device :=
  let p := fun (s : Nat) => d.rd (Ix.SVC_PUMP + n) s
  let s := d.svcOf n
  if d.svcKind n != 1 || d.svcState n != 3 || s.dry < d.inTicks (p 7) then d
  else
    let d1 := d.onSvc n fun x => { x with dry := 0, spell := 0 }
    if p 10 != 0 && s.ticks ≤ d.inTicks (p 10) && !s.aired then
      let d2 := (d1.setSvc n 4).onSvc n fun x => { x with recovery := .airLock 0, aired := true }
      ((d2.impose n (d.rdS 16 (Ix.SVC_PUMP + n) 12)).svcBit n 2 true).post now (svcSource 1) 0x41 n
    else if p 9 ≤ s.retries then (d1.pumpZero n).svcFault now n 0x40 n
    else ((d1.pumpZero n).impose n 0 |>.setSvc n 4).onSvc n fun x => { x with recovery := .dryStop }

/-- AIRLOCK_PHASE_END (R305): the next phase, or RUNNING. [log 61: DEDUCED] -/
def Device.airlockPhase (d : Device) (n : Nat) : Device :=
  let p := fun (s : Nat) => d.rd (Ix.SVC_PUMP + n) s
  match (d.svcOf n).recovery with
  | .airLock k =>
    if d.svcState n != 4 then d
    else if 2 * p 11 ≤ k + 1 then ((d.unimpose n).setSvc n 3).onSvc n fun x => { x with recovery := .none, dry := 0, spell := 0 }
    else (d.impose n (d.rdS 16 (Ix.SVC_PUMP + n) (if k % 2 == 0 then 6 else 12))).onSvc n fun x => { x with recovery := .airLock (k + 1) }
  | _ => d

/-- DRY_WAIT_END (R305): the pump restarts. -/
def Device.dryWaitEnd (d : Device) (now n : Nat) : Device :=
  if d.svcState n == 4 && (d.svcOf n).recovery == .dryWait then
    let k := (d.svcOf n).retries
    (d.svcStart now n).onSvc n fun x => { x with retries := k + 1 }
  else d

/-! ### Fan (R306, R307) -/

/-- Curve point `i`: its temperature and its speed. -/
def Device.curvePoint (d : Device) (n i : Nat) : Int × Int :=
  let v := d.rd (Ix.SVC_FAN + n) (4 + i)
  (sgn 16 (v / 65536), sgn 16 v)

/-- The speed of the curve at a temperature. -/
def Device.curveSpeed (d : Device) (n : Nat) (t : Int) : Int :=
  let pts := (List.range 8).map (d.curvePoint n)
  let at_ := fun (i : Nat) => pts.getD i (0, 0)
  if t < (at_ 0).1 then (at_ 0).2
  else match (List.range 7).find? fun i => (at_ i).1 ≤ t && t < (at_ (i + 1)).1 with
    | some i =>
      let a := at_ i
      let b := at_ (i + 1)
      let span := max 1 (b.1 - a.1)
      (limit16 (divRne (a.2 * span + (b.2 - a.2) * (t - a.1)) span)).val
    | none => (at_ 7).2

/-- The rein input of a fan with SOURCE 1. -/
def Device.fanRein (d : Device) (n : Nat) : Option Nat :=
  (List.range 8).find? fun r => d.reinCfg r 3 == n && d.reinCfg r 1 != 0

/-- The fan's demand d (R306). -/
def Device.fanDemand (d : Device) (n : Nat) : Int :=
  match d.rd (Ix.SVC_FAN + n) 1 with
  | 0 =>
    let t := d.rd (Ix.SVC_FAN + n) 3
    if d.tempOk t then d.curveSpeed n (d.tempOfSource t) else (d.curvePoint n 7).2
  | 1 => match d.fanRein n with
    | some r => d.rdS 16 (Ix.REIN_VALUE + r) 2
    | none => 0
  | _ => d.rdS 16 (Ix.SVC_FAN + n) 2

/-- A fan's motor is stopped. -/
def Device.fanStopped (d : Device) (n : Nat) : Bool := d.stState n == 9 || d.stState n == 0

/-- A Fan's fault with a recovery (R307). [log 61: DEDUCED] -/
def Device.fanFault (d : Device) (now n kind : Nat) : Device :=
  let s := d.svcOf n
  if d.rd (Ix.SVC_FAN + n) 14 ≤ s.retries then
    d.svcFault now n 0x42 (n + 256 * (if s.retries == 0 then kind else s.cause))
  else
    ((d.disableAxis now n).setSvc n 4).onSvc n fun x =>
      { x with recovery := .blockWait, retries := x.retries + 1, cause := kind, noticed := 0, spell := 0 }

/-- A Fan's tick: a fault in STOPPING begins a recovery that the STOP abandons (R307, Table 15.2). [log 61: DEDUCED] -/
def Device.fanTick (d : Device) (now n : Nat) : Device :=
  let s := d.svcOf n
  let st := d.svcState n
  if (st == 2 || st == 3) && s.noticed != 0 then d.fanFault now n s.noticed
  else if st == 5 && s.noticed != 0 then d.stopped now n
  else
    let dem := d.fanDemand n
    let wOn := d.rdS 16 (Ix.SVC_FAN + n) 12
    let wOff := d.rdS 16 (Ix.SVC_FAN + n) 13
    let still := d.fanStopped n
    let on := if s.demanded then still || wOff ≤ dem else still && wOn ≤ dem
    let inSafe := d.rd (Ix.SVC_FAN + n) 1 == 1 && (d.fanRein n).any fun r => (d.reinOfPin r).safe
    let d1 := (d.svcBit n 5 inSafe).onSvc n fun x => { x with demanded := on, noticed := 0 }
    if st == 2 || st == 3 then
      let spell := s.spell + 1
      ((d1.wrAI Ix.AX_CE_REF n 3 (if on then dem else 0)).setSvc n 3).onSvc n fun x =>
        { x with ticks := x.ticks + 1, spell := spell, retries := if 60000 ≤ spell * d.tickMs then 0 else x.retries }
    else if st == 5 && d.stState n == 9 then d1.stopped now n
    else d1

/-- BLOCK_WAIT_END (R307): the fan is enabled again and runs. -/
def Device.blockWaitEnd (d : Device) (now n : Nat) : Device :=
  if d.svcState n == 4 && (d.svcOf n).recovery == .blockWait then
    (((d.enableAxis now n 0).2).setSvc n 3).onSvc n fun x => { x with recovery := .none, demanded := false, noticed := 0, spell := 0 }
  else d

/-! ### Flap/Valve (R308, R309) -/

/-- A push of a service that its block answers RANGE is reported under R53, with the Operator's object that carries the command (R33, R302). [log 61: DEDUCED] -/
def Device.pushRefused (d : Device) (now status index source : Nat) : Device :=
  if status == 0x04 then (d.lastReject index 0 0 status 0).post now source 0x0A index else d

/-- The flap pushes TARGET, if the generator takes it; one that it answers RANGE counts as the last push. -/
def Device.flapPush (d : Device) (now n : Nat) : Device :=
  let f := fun (s : Nat) => d.rd (Ix.SVC_FLAP + n) s
  let vals := [0, f 1, f 4, f 5, f 5, 0, 0, 0]
  let d1 := vals.zipIdx.foldl (fun e (v, i) => e.wrA Ix.AX_PRF_MOVE n (i + 1) v) d
  let t : Int := sgn 32 (f 1)
  let st := d1.pushStatus n
  if st != 0 && st != 0x04 then d1
  else (if st == 0 then d1.push n else d1.pushRefused now st (axIx Ix.AX_PRF_CMD n) (srcByte 0xA n)).onSvc n fun s => { s with pushed := some t, retries := if s.pushed == some t then s.retries else 0 }

/-- POS_KNOWN. -/
def Device.posKnown (d : Device) (n : Nat) : Bool := d.bitOfA Ix.AX_PRF_STATUS n 3

/-- A Flap/Valve's tick. [log 61: DEDUCED] -/
def Device.flapTick (d : Device) (now n : Nat) : Device :=
  let s := d.svcOf n
  let st := d.svcState n
  let ps := d.prfState n
  let target : Int := d.rdS 32 (Ix.SVC_FLAP + n) 1
  if (st == 2 || st == 4) && s.noticed == 0x42 then d.svcFault now n 0x44 (n + 256)
  else if st == 2 then
    if ps == 1 && d.posKnown n then (d.setSvc n 3).flapPush now n else d
  else if st == 3 then
    if !d.posKnown n then
      if d.rd (Ix.SVC_FLAP + n) 6 ≤ s.retries then d.svcFault now n 0x44 n
      else
        let d1 := ((d.setSvc n 4).onSvc n fun x => { x with recovery := .recal, retries := x.retries + 1, noticed := 0, cause := if d.enabled n then 0 else 0x41 }).svcBit n 3 true
        let d2 := d1.post now (svcSource 3) 0x43 n
        if d2.homeStatus n == 0 then d2.homeStart now n true else d2
    else if s.pushed == some target then
      if ps == 1 && d.rdAS 32 Ix.AX_PRF_POS n == target then d.onSvc n fun x => { x with retries := 0 } else d
    else if ps == 1 then d.flapPush now n
    else if ps == 2 then d.flush now n
    else d
  else if st == 4 then
    if ps == 1 && d.posKnown n then ((d.setSvc n 3).onSvc n fun x => { x with recovery := .none, noticed := 0, cause := 0 }).flapPush now n
    else if ps == 1 && d.homeStatus n == 0 then d.homeStart now n true
    else d
  else if st == 5 && ((ps == 1 && !(d.prf n).waits) || (s.noticed == 0x41 && !d.enabled n)) then d.stopped now n
  else d

/-! ### Seat (R310 to R312) -/

/-- The members with their places. -/
def Device.seatPlaces (d : Device) : List (Nat × Nat) := d.seatMembers.zipIdx

/-- A member's position clamped to its soft limits. [log 62: DEDUCED] -/
def Device.softClamp (d : Device) (k : Nat) (p : Int) : Int :=
  clampI (d.rdS 32 Ix.SVC_SEAT_SOFT_MIN (k + 1)) (d.rdS 32 Ix.SVC_SEAT_SOFT_MAX (k + 1)) p

/-- The position of an axis as a number. -/
def Device.seatPos (d : Device) (n : Nat) : Int := d.rdAS 32 Ix.AX_FE_POSITION n

/-- Every member stands still and no group move runs. -/
def Device.seatStill (d : Device) : Bool :=
  d.interp.move.isNone && d.interp.queue.isEmpty && d.seatMembers.all fun n => d.prfState n ≤ 1

/-- Every member's position is known. -/
def Device.seatAllKnown (d : Device) : Bool := d.seatPlaces.all fun (_, k) => d.bitOf Ix.SVC_SEAT_KNOWN k

/-- The signed distance of member `k` on axis `n` in a motion. -/
def Device.seatDist (d : Device) (op : SeatOp) (n k : Nat) : Int :=
  let p := d.seatPos n
  match op with
  | .jog j up => if j == k then (if up then d.rdS 32 Ix.SVC_SEAT_SOFT_MAX (k + 1) else d.rdS 32 Ix.SVC_SEAT_SOFT_MIN (k + 1)) - p else 0
  | .recall m => d.softClamp k (d.rdS 32 Ix.SVC_SEAT_MEM (4 * m + k + 1)) - p
  | .calibrate j => if j == k then -(d.rd Ix.SVC_SEAT 12 : Int) else 0
  | .reverse j => if j == k then d.softClamp k (p - d.seat.dirs.getD k 1 * (d.rd Ix.SVC_SEAT 9 : Int)) - p else 0

/-- The motion calibrates. -/
def SeatOp.isCal : SeatOp → Bool
  | .calibrate _ => true
  | _ => false

/-- The group move of a motion: ABS for RECALL, else REL; SOFT_DEC where an end lies within SOFT_ZONE of a soft limit (R310). -/
def Device.seatMove (d : Device) (op : SeatOp) : GroupMove :=
  let dist := d.seatPlaces.map fun (n, k) => d.seatDist op n k
  let ends := d.seatPlaces.map fun (n, k) => (k, d.seatPos n + d.seatDist op n k)
  let zone : Int := d.rd Ix.SVC_SEAT 1
  let near := ends.any fun (k, e) =>
    ((d.rdS 32 Ix.SVC_SEAT_SOFT_MIN (k + 1) - e).natAbs : Int) ≤ zone || ((d.rdS 32 Ix.SVC_SEAT_SOFT_MAX (k + 1) - e).natAbs : Int) ≤ zone
  let abs := match op with
    | .recall _ => true
    | _ => false
  let targets := if abs then ends.map (·.2) else dist
  let acc := d.rd Ix.SVC_SEAT 3
  ⟨if abs then 0 else 1, (targets ++ List.replicate 4 0).take 4 |>.map (pat 32),
    d.rd Ix.SVC_SEAT (if op.isCal then 5 else 4), acc, if near then d.rd Ix.SVC_SEAT 2 else acc, 0⟩

/-- The service asks for the checkpoint before a push (R312). [log 62: DEDUCED] -/
def Device.seatPrepare (d : Device) (now : Nat) (op : SeatOp) : Device :=
  ({ d with seat := { d.seat with push := some op, next := none } }).checkpoint now false

/-- A distance of a motion is more than 2^31 − 1: the interpolator rejects it (R33, R293). -/
def Device.seatTooFar (d : Device) (op : SeatOp) : Bool := d.seatPlaces.any fun (n, k) => 2147483647 < (d.seatDist op n k).natAbs

/-- The push, once its checkpoint has completed. One that is answered RANGE is reported and moves nothing; the standstill is checkpointed again. [log 62: DEDUCED] -/
def Device.seatPush (d : Device) (now : Nat) (op : SeatOp) : Device :=
  let g := d.seatMove op
  let vals := [g.kind] ++ g.targets ++ [g.vMax, g.acc, g.dec, g.jerk]
  let d1 := vals.zipIdx.foldl (fun e (v, i) => e.wr Ix.INT_MOVE (i + 1) v) d
  let dirs := d.seatPlaces.map fun (n, k) => if d.seatDist op n k == 0 then d.seat.dirs.getD k 1 else sgnOf (d.seatDist op n k)
  let d2 := { d1 with seat := { d1.seat with push := none, current := some op, ticks := 0, base := none, beyond := [0, 0, 0, 0], atEnd := 0, dirs := dirs } }
  let st := if d2.seatTooFar op then 0x04 else d2.groupStatus g
  let d3 := if st == 0 then d2.groupPush g
    else ({ d2 with seat := { d2.seat with current := none } }.pushRefused now st Ix.INT_CMD 0xA8).checkpoint now false
  match op with
  | .calibrate k => if st != 0 then d3 else d3.wrBit Ix.SVC_SEAT_KNOWN 0 k false
  | .reverse k => match d.seatMembers[k]? with
    | some n => (d3.svcBit n 4 true).post now (svcSource 4) 0x45 n
    | none => d3
  | _ => d3

/-- A motion command: at once at standstill, else FLUSH and the push at standstill (R310). [log 62: DEDUCED] -/
def Device.seatBegin (d : Device) (now : Nat) (op : SeatOp) : Device :=
  if d.seatStill && d.seat.push.isNone then d.seatPrepare now op
  else
    let d1 := d.seatFlush now
    { d1 with seat := { d1.seat with next := some op } }

/-- A pinch reversal is under way. -/
def Device.reversalRuns (d : Device) : Bool :=
  let is := fun (o : Option SeatOp) => match o with
    | some (.reverse _) => true
    | _ => false
  is d.seat.current || is d.seat.next || is d.seat.push

/-- The answer to a seat command (Table 15.5b): the Seat runs, the member exists, no reversal is under way. -/
def Device.seatStatus (d : Device) (op k : Nat) : Nat :=
  let ms := d.seatMembers
  let runs := ms.any fun n => d.svcState n == 3
  if !runs || d.reversalRuns then 0x0F
  else if (op == 1 || op == 5) && ms.length ≤ k then 0x0F
  else if op == 3 && !d.seatAllKnown then 0x0F
  else if op == 4 && !(d.seatStill && d.seat.push.isNone && d.seatAllKnown) then 0x0F
  else 0

/-- STORE: the present positions go to memory `m`. [log 62: DEDUCED] -/
def Device.seatStore (d : Device) (m : Nat) : Device :=
  d.seatPlaces.foldl (fun e (n, k) => e.wr Ix.SVC_SEAT_MEM (4 * m + k + 1) (d.rdA Ix.AX_FE_POSITION n)) d

/-- A seat command acts (R310): `op`, its member or memory, its direction. -/
def Device.seatCommand (d : Device) (now op k : Nat) (positive : Bool) : Device :=
  match op with
  | 1 => d.seatBegin now (.jog k positive)
  | 2 =>
    let d1 := d.seatFlush now
    { d1 with seat := { d1.seat with next := none } }
  | 3 => d.seatBegin now (.recall k)
  | 4 => d.seatStore k
  | _ => d.seatBegin now (.calibrate k)

/-- Mean of the latest eight |i_q| of each member (R311). -/
def seatMean (xs : List Int) : Int := divRne ((xs.take 8).foldl (· + ·) 0) 8

/-- The currents of the members, and the pinch and end tests, at a tick. [log 62: DEDUCED] -/
def Device.seatMeasure (d : Device) : Device :=
  let s := d.seat
  let iq := d.seatMembers.map fun n => ((d.rdAS 16 Ix.AX_FE_IDQ n 2).natAbs : Int)
  let recent := s.recent.zipIdx.map fun (xs, k) => ((iq.getD k 0) :: xs).take 8
  let moving := d.interp.move.isSome
  let ticks := if moving then s.ticks + 1 else s.ticks
  let blank := d.inTicks (d.rd Ix.SVC_SEAT 8)
  let base := if moving && s.base.isNone && blank ≤ ticks then some (recent.map seatMean) else s.base
  let cal := s.current.any SeatOp.isCal
  let limit := d.rdS 16 Ix.SVC_SEAT 6
  let beyond := match s.base with
    | some b => if moving && !cal then s.beyond.zipIdx.map fun (c, k) => if limit ≤ iq.getD k 0 - b.getD k 0 then c + 1 else 0 else [0, 0, 0, 0]
    | none => [0, 0, 0, 0]
  let atEnd := match s.current with
    | some (.calibrate k) => if moving && d.rdS 16 Ix.SVC_SEAT 10 ≤ iq.getD k 0 then s.atEnd + 1 else 0
    | _ => 0
  { d with seat := { s with recent := recent, ticks := ticks, base := base, beyond := beyond, atEnd := atEnd } }

/-- A motion of the Seat has ended at standstill: the checkpoint, and a CALIBRATE without its end stop fails (R312). -/
def Device.seatEnded (d : Device) (now : Nat) (op : SeatOp) : Device :=
  let e := ({ d with seat := { d.seat with current := none } }).checkpoint now false
  match op with
  | .calibrate k => if e.bitOf Ix.SVC_SEAT_KNOWN k then e else e.post now (svcSource 4) 0x47 (d.seatMembers.getD k 0)
  | _ => e

/-- The Seat at standstill in RUNNING: the move is over, and the next is prepared (R310 to R312). -/
def Device.seatAtRest (d : Device) (now : Nat) : Device :=
  let d1 := match d.seat.current with
    | none => d
    | some op => d.seatEnded now op
  match d1.seat.next with
  | some op => d1.seatPrepare now op
  | none => d1

/-- The Seat's tick. -/
def Device.seatTick (d : Device) (now : Nat) : Device :=
  let ms := d.seatMembers
  match ms with
  | [] => d
  | n0 :: _ =>
    let st := d.svcState n0
    let d1 := d.seatMeasure
    if st == 2 then ms.foldl (fun e n => e.setSvc n 3) d1
    else if st == 3 then (if d1.seatStill && d1.seat.push.isNone then d1.seatAtRest now else d1)
    else if st == 5 && d1.seatStill then
      let d2 := match d1.seat.current with
        | some op => d1.seatEnded now op
        | none => d1.checkpoint now false
      ms.foldl (fun e n => e.stopped now n) d2
    else d1

/-- PINCH (R311): member `k`'s rise has lasted PINCH_T. [log 62: DEDUCED] -/
def Device.pinch (d : Device) (now k : Nat) : Device :=
  let ms := d.seatMembers
  if !(ms.any fun n => d.svcState n == 3) || d.seat.beyond.getD k 0 < max 1 (d.inTicks (d.rd Ix.SVC_SEAT 7)) then d
  else
    let d1 := d.groupFlush now true
    { d1 with seat := { d1.seat with next := some (.reverse k), beyond := [0, 0, 0, 0] } }

/-- SEAT_END_STOP (R312): the calibrating member has met its end. [log 62: DEDUCED] -/
def Device.seatEndStop (d : Device) (now : Nat) : Device :=
  match d.seat.current with
  | some (.calibrate k) =>
    if d.seat.atEnd < max 1 (d.inTicks (d.rd Ix.SVC_SEAT 11)) then d
    else match d.seatMembers[k]? with
      | some n =>
        let d1 := ((d.groupFlush now true).wrA Ix.AX_FE_POSITION n 0 0).onFe n fun f => { f with preset := some 0 }
        let d2 := d1.wrBit Ix.SVC_SEAT_KNOWN 0 k true
        { d2 with seat := { d2.seat with atEnd := 0 } }
      | none => d
  | _ => d

/-! ### The tick (R303) -/

/-- A fault kind for which R307 or R309 gives the service a recovery took the axis: START_FAILED, ROTOR_LOST or LOCKED_ROTOR of a Fan, STALL of a Flap/Valve (R301). [log 61: DEDUCED] -/
def Device.hasRecovery (d : Device) (n : Nat) : Bool :=
  let s := d.svcOf n
  (d.svcKind n == 2 && s.noticed != 0) || (d.svcKind n == 3 && (s.noticed == 0x41 || s.cause == 0x41))

/-- An instance has lost its axis: not enabled though no wait of a recovery has it disabled (R301). -/
def Device.lostAxis (d : Device) (n : Nat) : Bool :=
  let s := d.svcOf n
  let waits := s.recovery == .dryWait || s.recovery == .blockWait
  d.svcOwner n && !d.enabled n && !(waits && !d.countsEnabled n) && !d.hasRecovery n && !(d.svcState n == 5 && !d.countsEnabled n)

/-- Bits 0 and 1 of `SVC_STATUS`, and the seconds of run time. -/
def Device.svcShow (d : Device) (n : Nat) : Device :=
  let s := d.svcOf n
  let on := d.svcKind n != 0 && d.enabled n && (if d.threePhase n && d.svcKind n != 4 then !d.fanStopped n && d.stState n != 12 else 2 ≤ d.prfState n)
  let d1 := (d.svcBit n 0 on).svcBit n 1 (s.recovery == .dryWait || s.recovery == .blockWait)
  if d.svcOwner n && d.enabled n then
    let ms := s.runMs + d.tickMs
    if 1000 ≤ ms then (d1.inc Ix.SVC_RUN_TIME (n + 1)).onSvc n fun x => { x with runMs := ms - 1000 }
    else d1.onSvc n fun x => { x with runMs := ms }
  else d1

/-- One instance's tick, but for the Seat's. -/
def Device.svcTickOf (d : Device) (now n : Nat) : Device :=
  if d.lostAxis n then (d.unimpose n).svcFault now n 0x49 n
  else if !d.svcOwner n then d
  else if d.svcState n == 5 && !d.countsEnabled n then d.toIdle n
  else match d.svcKind n with
    | 1 => d.pumpTick now n
    | 2 => d.fanTick now n
    | 3 => d.flapTick now n
    | _ => d

/-- SERVICE_TICK (R303). -/
def Device.serviceTick (d : Device) (now : Nat) : Device :=
  let d0 := { d with extAge := d.extAge.map fun a => min 65535 (a + d.tickMs) }
  let d1 := axes.foldl (fun e n => e.svcTickOf now n) d0
  let d2 := if (d1.seatMembers).any fun n => d1.svcOwner n then d1.seatTick now else d1
  axes.foldl (fun e n => e.svcShow n) d2

/-! ### Temperature loss (R306, R313) -/

/-- TEMP_SOURCE_LOST. [log 61: DEDUCED] -/
def Device.tempLost (d : Device) (now n : Nat) : Device :=
  match d.svcTsrc n with
  | none => d
  | some t =>
    if !d.svcOwner n || (d.svcOf n).lost || d.tempOk t then d
    else
      let d1 := (d.onSvc n fun s => { s with lost := true }).svcBit n 6 true
      if d.svcKind n == 1 then (if (d.svcOf n).held.contains 5 then d1 else d1.fullDemand n).post now (srcByte 0 12) 0x48 t
      else d1.post now (svcSource 2) 0x48 t

/-- TEMP_SOURCE_VALID: the source has been valid for 1 s. A slot 5 that a stop or a recovery holds goes back when that ends. [log 61: DEDUCED] -/
def Device.tempValid (d : Device) (n : Nat) : Device :=
  match d.svcTsrc n with
  | none => d
  | some t =>
    if !(d.svcOf n).lost || !d.tempOk t then d
    else
      let d1 := d.onSvc n fun s => { s with lost := false }
      let st := d.svcState n
      let imposed := st == 5 || (st == 4 && (d.pumpFeeder n == some 5 || (d.svcOf n).recovery == .dryStop || (d.svcOf n).recovery == .dryWait))
      if d.svcKind n == 1 && d.svcOwner n && !imposed then (d1.toAuto n 5).onSvc n fun x => { x with held := x.held.filter (· != 5) } else d1

/-! ### Ownership (R302) and commit (R300) -/

/-- A running service owns an object: writes of other requesters are answered UNAVAILABLE. -/
def Device.ownedByService (d : Device) (key : ObjKey) : Bool :=
  let ix := keyIndex key
  let mine := [Ix.AX_CMD, Ix.AX_CE_MODE, Ix.AX_CE_REF, Ix.AX_CE_MANUAL, Ix.AX_CE_FB_EXT, Ix.AX_ST_CMD, Ix.AX_PRF_CMD, Ix.AX_PRF_MOVE]
  axes.any (fun n => d.svcOwner n && mine.any fun i => axIx i n == ix)
    || ((ix == Ix.INT_CMD || ix == Ix.INT_MOVE) && d.seatMembers.any d.svcOwner)

/-- The Staged parameters of the instance of axis `n` differ. -/
def svcDiffers (d m : Device) (n : Nat) : Bool :=
  let dif := fun (ix : Nat) (subs : List Nat) => subs.any fun s => d.rd ix s != m.rd ix s
  let up := fun (k : Nat) => (List.range k).map (· + 1)
  let own := dif Ix.SVC_KIND [n + 1] || dif Ix.SVC_AUTORUN [n + 1] || dif (Ix.SVC_PUMP + n) (up 13) || dif (Ix.SVC_FAN + n) (up 15)
    || dif (Ix.SVC_FLAP + n) (up 6) || dif (Ix.SVC_THERM + n) (up 4)
  let seat := (d.svcKind n == 4 || m.svcKind n == 4)
    && (dif Ix.SVC_SEAT (up 12) || dif Ix.SVC_SEAT_SOFT_MIN (up 4) || dif Ix.SVC_SEAT_SOFT_MAX (up 4) || d.seatMembers != m.seatMembers)
  own || seat

/-- The conditions of R300, in order: condition 1 tests V_MAX of every Flap/Valve record; the engine settings are those in force. -/
def svcConds (d m : Device) : List Bool :=
  let ofKind := fun (k : Nat) => axes.filter fun n => m.svcKind n == k
  let p := fun (n s : Nat) => m.rd (Ix.SVC_PUMP + n) s
  let bound := fun (n : Nat) => match m.svcKind n with
    | 0 => true
    | 1 => m.axisType n == 1 && bit (m.scfg n Ix.AX_ST_FLAGS 0) 1
    | 2 => m.axisType n == 1 && !bit (m.scfg n Ix.AX_ST_FLAGS 0) 1 && (m.srcNow n 2).1 == 0
    | 3 => m.axisType n == 2 && 1 ≤ m.pcfg n Ix.AX_PRF_HOME 1 && bit (m.pcfg n Ix.AX_PRF_CFG 4) 0
    | _ => m.axisType n == 1 && m.rdA Ix.AX_FE_ANGLE_SRC n != 0 && (m.srcNow n 3).1 == 0x10 && m.member n
  let pump := fun (n : Nat) =>
    if p n 1 == 0 then (m.srcNow n 2).1 == 0 || ((m.srcNow n 2).1 == 6 && m.thermal n)
    else p n 3 < 8 && m.bitOf Ix.CNV_MON_AUX (p n 3) && (m.srcNow n 2).1 == 5 && (m.srcNow n 4).2 == 0
  let therm := fun (n : Nat) =>
    !m.thermal n || (m.svcKind n == 1 && (m.srcNow n 5).2 == 0 && (m.srcNow n (if p n 1 == 0 then 2 else 4)).1 == 6)
  let fan := fun (n : Nat) =>
    let f := fun (s : Nat) => m.rdS 16 (Ix.SVC_FAN + n) s
    (m.rd (Ix.SVC_FAN + n) 1 != 1 || ((List.range 8).filter fun r => m.reinCfg r 3 == n && m.reinCfg r 1 != 0).length == 1)
      && decide (m.rdAS 16 Ix.AX_FE_HANDOVER n 1 ≤ f 13) && decide (f 13 < f 12)
      && (List.range 7).all fun i => decide ((m.curvePoint n i).1 < (m.curvePoint n (i + 1)).1)
  let vRange := fun (n : Nat) => m.pcfg n Ix.AX_PRF_CFG 1 ≤ m.rd (Ix.SVC_FLAP + n) 4 && m.rd (Ix.SVC_FLAP + n) 4 ≤ m.pcfg n Ix.AX_PRF_CFG 2
  [ axes.all vRange,
    axes.all fun n => !svcDiffers d m n || d.svcState n ≤ 1,
    axes.all bound,
    maskOf (ofKind 4) == m.rd Ix.INT_GROUP,
    (ofKind 1).all pump,
    axes.all therm,
    (ofKind 2).all fan,
    (ofKind 3).all (fun n => decide (m.rdS 32 (Ix.SVC_FLAP + n) 2 < m.rdS 32 (Ix.SVC_FLAP + n) 3))
      && (List.range (ofKind 4).length).all fun k => decide (m.rdS 32 Ix.SVC_SEAT_SOFT_MIN (k + 1) < m.rdS 32 Ix.SVC_SEAT_SOFT_MAX (k + 1)) ]

/-- Bound instances become IDLE, unbound ones UNBOUND; `was` is the device before the commit. -/
def Device.applySvc (d was : Device) : Device :=
  let d1 := axes.foldl (fun e n =>
    if e.svcKind n == 0 then (e.setSvc n 0).onSvc n fun _ => Svc.rest
    else if was.svcKind n != e.svcKind n then (e.setSvc n 1).onSvc n fun _ => Svc.rest
    else e) d
  if was.seatMembers == d1.seatMembers then d1 else d1.wr Ix.SVC_SEAT_KNOWN 0 0

/-- At network-ready, TARGET of each flap reads the restored position, or HOME_POS; instances stand IDLE; AUTORUN acts as RUN (R301, R308). -/
def Device.svcBoot (d : Device) (now : Nat) : Device :=
  let d1 := axes.foldl (fun e n =>
    let e1 := if e.svcKind n == 0 then e else e.setSvc n 1
    if e1.svcKind n == 3 then e1.wr (Ix.SVC_FLAP + n) 1 (if e1.posKnown n then e1.rdA Ix.AX_PRF_POS n else e1.rdA Ix.AX_PRF_HOME n 7) else e1) d
  axes.foldl (fun e n => if e.rd Ix.SVC_AUTORUN (n + 1) == 1 then e.svcRun now n else e) d1

/-- TEAMSTER_RESTARTED (R13): requests are served again, and every axis is disabled; nothing is acknowledged (R338). An instance that owns its axes and is not stopping has lost them (R301), so none enables an axis again without an Operator. [log 61: DEDUCED] -/
def Device.teamsterBack (d : Device) (now : Nat) : Device :=
  if d.server.teamster then d
  else
    let d1 := axes.foldl (fun e n => e.axisOff now n) { d with server := { d.server with teamster := true } }
    axes.foldl (fun e n => if e.svcOwner n && e.svcState n != 5 then (e.unimpose n).svcFault now n 0x49 n else e) d1

/-! ### Meanings -/

/-- An effect of the services, which run on the Teamster pair: none while the pair restarts (R13, Table 1.7). -/
def State.onServices (s : State) (f : Nat → Device → Device) : Host.Outcome State Fault Refusal :=
  s.onRunning fun now d => if d.server.teamster then f now d else d

/-- STANDSTILL_CHECKPOINT_DONE (R290, R312): the checkpoint before the first microstep, or before a push of the Seat, has completed. -/
def execStandstillCheckpointDone (n : Fin 8) (s : State) : Host.Outcome State Fault Refusal :=
  s.onRunning fun now d =>
    match d.seat.push with
    | some op => if d.svcKind n == 4 && d.svcState n == 3 then d.seatPush now op else d.leaveCheckpoint n
    | none => d.leaveCheckpoint n

/-- SERVICE_TICK (R303). [log 2: DESIGN CHOICE] -/
def execServiceTick (s : State) : Host.Outcome State Fault Refusal := s.onServices fun now d => d.serviceTick now

/-- DRY_DETECTED (R305). -/
def execDryDetected (n : Fin 8) (s : State) : Host.Outcome State Fault Refusal := s.onServices fun now d => d.dryDetected now n

/-- AIRLOCK_PHASE_END (R305). -/
def execAirlockPhaseEnd (n : Fin 8) (s : State) : Host.Outcome State Fault Refusal := s.onServices fun _ d => d.airlockPhase n

/-- DRY_WAIT_END (R305). -/
def execDryWaitEnd (n : Fin 8) (s : State) : Host.Outcome State Fault Refusal := s.onServices fun now d => d.dryWaitEnd now n

/-- BLOCK_WAIT_END (R307). -/
def execBlockWaitEnd (n : Fin 8) (s : State) : Host.Outcome State Fault Refusal := s.onServices fun now d => d.blockWaitEnd now n

/-- PINCH (R311) of member `k`. -/
def execPinch (k : Fin 4) (s : State) : Host.Outcome State Fault Refusal := s.onServices fun now d => d.pinch now k

/-- SEAT_END_STOP (R312). -/
def execSeatEndStop (s : State) : Host.Outcome State Fault Refusal := s.onServices fun now d => d.seatEndStop now

/-- TEMP_SOURCE_LOST (R313). -/
def execTempSourceLost (n : Fin 8) (s : State) : Host.Outcome State Fault Refusal := s.onServices fun now d => d.tempLost now n

/-- TEMP_SOURCE_VALID (R313). -/
def execTempSourceValid (n : Fin 8) (s : State) : Host.Outcome State Fault Refusal := s.onServices fun _ d => d.tempValid n

/-- TEAMSTER_RESTARTED (R13). -/
def execTeamsterRestarted (s : State) : Host.Outcome State Fault Refusal := s.onRunning fun now d => d.teamsterBack now

end Sys2Proof.Machine
end

