-- ==== Sys2Proof/Machine/Assay.lean ====
section
/-! DEFINITION. The assay units (R351 to R367): the parameters and the running value of unit 3, feeding, the scan spaces and scans, the self-test with the spare, and the firmware scan. -/

namespace Sys2Proof.Machine

/-! ### Unit 3 (R351, R356, R367) -/

/-- The parameters in the objects. -/
def Device.asyParams (d : Device) : CrcParams :=
  ⟨d.rd Ix.ASY_WIDTH, d.rd Ix.ASY_POLY, d.rd Ix.ASY_INIT, d.rd Ix.ASY_REFLECT == 1, d.rd Ix.ASY_XOROUT⟩

/-- RUNNING is set, and `ASY_RESULT` follows. -/
def Device.setRunning (d : Device) (v : Nat) : Device := (d.wr Ix.ASY_RUNNING 0 v).wr Ix.ASY_RESULT 0 (v ^^^ d.rd Ix.ASY_XOROUT)

/-- RUNNING is set to INIT. -/
def Device.asyRestart (d : Device) : Device := d.setRunning (d.rd Ix.ASY_INIT)

/-- Bytes are fed into RUNNING (R354). [log 67: DEDUCED] -/
def Device.asyFeed (d : Device) (bytes : List Nat) : Device := d.setRunning (d.asyParams.feed (d.rd Ix.ASY_RUNNING) bytes)

/-- A write of `ASY_PRESET`: 1 to 4 load the parameters and restart. -/
def Device.asyPreset (d : Device) (code : Nat) : Device :=
  let d1 := d.wr Ix.ASY_PRESET 0 code
  if code == 0 then d1
  else
    let p := crcPreset code
    let d2 := ((d1.wr Ix.ASY_WIDTH 0 p.width).wr Ix.ASY_POLY 0 p.poly).wr Ix.ASY_INIT 0 p.init
    ((d2.wr Ix.ASY_REFLECT 0 (if p.reflect then 1 else 0)).wr Ix.ASY_XOROUT 0 p.xorout).asyRestart

/-- A custom parameter is written: `ASY_PRESET` reads 0 and RUNNING is INIT. -/
def Device.asyParam (d : Device) (index v : Nat) : Device := ((d.wr index 0 v).wr Ix.ASY_PRESET 0 0).asyRestart

/-- A parameter or RUNNING fits the width: no bits above W, POLY with bit 0; a new width fits the parameters that stand. -/
def Device.asyFits (d : Device) (index v : Nat) : Bool :=
  if index == Ix.ASY_WIDTH then
    (v == 8 || v == 16 || v == 32) && [Ix.ASY_POLY, Ix.ASY_INIT, Ix.ASY_XOROUT].all fun i => decide (d.rd i < 2 ^ v)
  else if index == Ix.ASY_POLY then v < 2 ^ d.rd Ix.ASY_WIDTH && v % 2 == 1
  else if index == Ix.ASY_INIT || index == Ix.ASY_XOROUT || index == Ix.ASY_RUNNING then v < 2 ^ d.rd Ix.ASY_WIDTH
  else true

/-- The objects of unit 3, 0x0A10 to 0x0A25. -/
def asyObject (index : Nat) : Bool := 0x0A10 ≤ index && index ≤ 0x0A25

/-! ### The scan spaces (Table 18.5) -/

/-- A head copy as bytes (Table 6.6). -/
def LedgerHead.bytes (h : LedgerHead) : List Nat :=
  let body := leBytes 4 h.serial ++ [h.slot, 0] ++ leBytes 2 h.count ++ leBytes 4 h.length ++ [0, 0, 0, 0]
  body ++ leBytes 4 (crc32c body)

/-- A checkpoint slot as bytes (Table 6.7). -/
def Checkpoint.bytes (c : Checkpoint) : List Nat :=
  let body := leBytes 4 c.serial ++ [bitIf c.loss 0 + bitIf c.brownOut 1, 0, 0, 0] ++ leBytes 8 c.time
    ++ (c.counters.take 120).flatMap (leBytes 4) ++ List.replicate 12 0
  body ++ leBytes 4 (crc32c body)

/-- The written stretches of the Ledger by offset within it (Table 6.4). [log 67: DEDUCED] -/
def Ledger.stretches (l : Ledger) : List (Nat × List Nat) :=
  let head := fun (off : Nat) (h : Option LedgerHead) => match h with
    | some x => [(off, x.bytes)]
    | none => []
  let area := fun (off : Nat) (rs : List LedgerRecord) => (off, rs.flatMap LedgerRecord.bytes)
  head 0 l.head1 ++ head 0x400 l.head2 ++ head 0x800 l.head3
    ++ l.ring.map (fun c => (0x1000 + 512 * (c.serial % 56), c.bytes))
    ++ [area 0x8000 l.slot0.copyA, area 0x1C000 l.slot1.copyA, area 0x30000 l.slot0.copyB, area 0x44000 l.slot1.copyB,
        area 0x58000 l.slot0.copyC, area 0x6C000 l.slot1.copyC]

/-- The written stretches of the event log by offset within it: record `k` of the ring at 16·(serial mod 16,384). -/
def Tally.stretches (t : Tally) : List (Nat × List Nat) := t.log.map fun (serial, r) => (16 * (serial % 16384), r.bytes)

/-- The byte at an offset of stretches, 0xFF where nothing is written. -/
def byteIn (ss : List (Nat × List Nat)) (off : Nat) : Nat :=
  match ss.find? fun (x : Nat × List Nat) => x.1 ≤ off && off < x.1 + x.2.length with
  | some x => x.2.getD (off - x.1) 0xFF
  | none => 0xFF

/-- A byte of a firmware bank. [log 10: DESIGN CHOICE] -/
def FwBank.byte (b : FwBank) (off : Nat) : Nat :=
  match cellGet b.image off with
  | some v => v
  | none => if b.factory then Config.factoryImage off % 256 else 0xFF

/-- The byte of a scan space at an offset; none where the spec does not state the contents: engine table RAM, and the trace part of MRAM. [log 67: DEDUCED] -/
def Device.spaceByte (d : Device) (space off : Nat) : Option Nat :=
  if space == 2 then some (Config.romByte off % 256)
  else if space == 1 then none
  else if off < 0x18_0000 then some (d.boot.bankA.byte off)
  else if off < 0x30_0000 then some (d.boot.bankB.byte (off - 0x18_0000))
  else if off < 0x38_0000 then some (byteIn d.ledger.stretches (off - 0x30_0000))
  else if off < 0x3C_0000 then some (byteIn d.tally.stretches (off - 0x38_0000))
  else none

/-- The size of a scan space. -/
def spaceSize (space : Nat) : Nat := if space == 0 then 0x40_0000 else 0x2_0000

/-- The bytes of the range set, where the spec states them all. [log 67: DEDUCED] -/
def Device.scanBytes (d : Device) : Option (List Nat) :=
  let start := d.rd Ix.ASY_SCAN_START
  (List.range (d.rd Ix.ASY_SCAN_LEN)).mapM fun i => d.spaceByte (d.rd Ix.ASY_SCAN_SPACE) (start + i)

/-! ### Scans (R362, R363) -/

/-- The answer to a scan command: 1 SCAN, 2 CONTINUE, 3 SCAN_COMPARE, 4 ABORT. -/
def Device.scanStatus (d : Device) (cmd : Nat) : Nat :=
  if cmd == 4 then 0
  else if d.scanning then 0x0A
  else if d.rd Ix.ASY_SCAN_LEN == 0 || spaceSize (d.rd Ix.ASY_SCAN_SPACE) < d.rd Ix.ASY_SCAN_START + d.rd Ix.ASY_SCAN_LEN then 0x04
  else if d.scanHitsLedger && d.ledger.post.isSome then 0x0A
  else 0

/-- A scan starts, from INIT or from the present RUNNING; ABORT ends the one that runs. -/
def Device.scanCommand (d : Device) (cmd : Nat) : Device :=
  if cmd == 4 then d.endScan 5
  else
    let d1 := if cmd == 2 then d else d.wr Ix.ASY_RUNNING 0 (d.rd Ix.ASY_INIT)
    ({ d1 with asy := { d1.asy with compare := cmd == 3 } }.wr Ix.ASY_SCAN_STATUS 0 1).showAsy

/-- SCAN_DONE: the result, and the compare. Where a byte of the range is not stated, the running value is a free value. [log 67: DEDUCED] -/
def Device.scanDone (d : Device) (now : Nat) : Device :=
  if !d.scanning then d
  else
    let w := d.rd Ix.ASY_WIDTH
    let (v, d0) := match d.scanBytes with
      | some bs => (d.asyParams.feed (d.rd Ix.ASY_RUNNING) bs, d)
      | none => d.free w
    let d1 := d0.setRunning v
    if d1.asy.compare then
      if d1.rd Ix.ASY_RESULT == d1.rd Ix.ASY_SCAN_EXPECT then (d1.wr Ix.ASY_SCAN_STATUS 0 3).showAsy
      else (((d1.wr Ix.ASY_SCAN_STATUS 0 4).wrBit Ix.ASY_STATUS 0 8 true).showAsy).post now (srcByte 0xB 3) 0x40 3
    else (d1.wr Ix.ASY_SCAN_STATUS 0 2).showAsy

/-! ### Self-test and firmware scan (R364, R365) -/

/-- A unit fails its second successive test: it is withdrawn for unit 3 where that can serve, and its message is posted either way. -/
def Device.unitFails (d : Device) (now u : Nat) : Device :=
  let st := d.rd Ix.ASY_STATUS
  let spareFree := !bit d.asy.failed 3 && !bit st 9
  let d1 := { d with asy := { d.asy with failed := withBit d.asy.failed u true } }
  let d2 :=
    if u != 3 && spareFree then
      let e := (d1.wrBit Ix.ASY_STATUS 0 u true).wrBit Ix.ASY_STATUS 0 9 true
      (e.endScan 5).showAsy
    else d1
  d2.post now (srcByte 0xB u) 0x41 u

/-- ASSAY_SELF_TEST (R365): `wrong` is the mask of the units that gave a wrong check value. [log 67: DEDUCED] -/
def Device.selfTest (d : Device) (now wrong : Nat) : Device :=
  [0, 1, 2, 3].foldl (fun e u =>
    if bit (e.rd Ix.ASY_STATUS) u then e
    else
      let k := if bit wrong u then e.asy.fails.getD u 0 + 1 else 0
      let e1 := { e with asy := { e.asy with fails := e.asy.fails.set u k } }
      let e2 := if bit wrong u then e1.inc Ix.ASY_SELFTEST_FAIL (u + 1) else e1
      if k == 2 then e2.unitFails now u else e2) d

/-- The running bank. -/
def Device.runningBank (d : Device) : FwBank := if d.rd Ix.DEV_FW_BANK == 1 then d.boot.bankB else d.boot.bankA

/-- CRC-32C of a bank's image, the bytes after its 128-byte header, over the length in the header (R364, R407). -/
def FwBank.crc (b : FwBank) : Nat := crc32c ((List.range b.length).map fun i => b.byte (128 + i))

/-- FW_SCAN_TIMER (R364). -/
def Device.fwScan (d : Device) (now : Nat) : Device :=
  if d.runningBank.crc == d.rd Ix.ASY_FW_CRC then d
  else (d.wrBit Ix.ASY_STATUS 0 8 true).post now (srcByte 0xB 1) 0x40 1

/-! ### Meanings -/

/-- SCAN_DONE (R362). -/
def execScanDone (s : State) : Host.Outcome State Fault Refusal := s.onRunning fun now d => d.scanDone now

/-- ASSAY_SELF_TEST (R365). -/
def execAssaySelfTest (wrong : Fin 16) (s : State) : Host.Outcome State Fault Refusal := s.onRunning fun now d => d.selfTest now wrong

/-- FW_SCAN_TIMER (R364). -/
def execFwScanTimer (s : State) : Host.Outcome State Fault Refusal := s.onRunning fun now d => d.fwScan now

end Sys2Proof.Machine
end

