-- ==== Sys2Proof/Machine/Vault.lean ====
section
/-! DEFINITION. The Vault (R391 to R417) but for the resets it asks for: key slots, measurement registers, the lifecycle, tamper alarms, the erase, key import, receipts, Farrier tokens and firmware banks. -/

namespace Sys2Proof.Machine

/-! ### Keys and slots (R400) -/

/-- The bytes of words 0 to 7 of an OTP bank. -/
def Device.bankBytes (d : Device) (b : Nat) : List Nat := (List.range 8).flatMap fun i => leBytes 4 (d.otpWord (16 * b + i)).2

/-- The one-step KDF of R400, R401 and R403: SHA-256 of 0x0000_0001, a secret, and what follows it. -/
def kdf (secret rest : List Nat) : List Nat := Config.sha256 ([0, 0, 0, 1] ++ secret ++ rest)

/-- K_store (R400). -/
def Device.storeKey (d : Device) : List Nat := kdf (d.bankBytes 6) [8]

/-- Slots 1 to 15 read VOID: bank 5 or 6 is VOID, or the device is Retired (R396, R399). -/
def Device.slotsVoid (d : Device) : Bool := d.bankState 5 == 2 || d.bankState 6 == 2 || d.lifecycle == 3

/-- Slot 1: the Integrator root public key, where one is loaded. -/
def Device.rootSlot (d : Device) : KeySlot :=
  let k := d.tab Ix.VLT_ROOT_KEY
  if k.length == 64 then ⟨4, 3, 1, 0, k, false⟩ else KeySlot.empty

/-- Key slot `k`, 1 to 15, with VOID as it stands. -/
def Device.keySlot (d : Device) (k : Nat) : KeySlot :=
  let s := if k == 1 then d.rootSlot else if k == 0 then ⟨3, 0, 0, 0, Config.deviceKey, d.bankState 4 == 2⟩ else d.vault.slots.toList.getD (k - 2) KeySlot.empty
  if k == 0 then s else { s with void := s.void || d.slotsVoid }

/-- The `VLT_SLOT_INFO` word of a slot (Table 20.12). -/
def Device.slotInfo (d : Device) (k : Nat) : Nat :=
  let s := d.keySlot k
  s.keyId * 65536 + s.type * 4096 + s.maxRole * 1024 + (if bit s.usage 1 then 512 else 0) + (if bit s.usage 0 then 256 else 0)
    + bitIf (k == 0) 7 + bitIf s.void 6

/-- The key store as it is posted: each slot that holds a key, wrapped under K_store. [log 72: DEDUCED] -/
def Device.storeBlob (d : Device) : List Nat :=
  let one := fun (s : KeySlot) (k : Nat) =>
    let w := Config.keyWrap d.storeKey s.key
    if s.type == 0 then [] else [k, s.type, s.maxRole, s.usage] ++ leBytes 2 s.keyId ++ leBytes 2 w.length ++ w
  (d.vault.slots.toList.zipIdx).flatMap fun (s, i) => one s (i + 2)

/-- The key store object follows the slots. -/
def Device.keepStore (d : Device) : Device := d.setTab 0x04C0 0 d.storeBlob

/-- The entries of a key store, read with a bound on their number. [log 72: DEDUCED] -/
def storeEntries : Nat → List Nat → List (Nat × KeySlot)
  | 0, _ => []
  | n + 1, bs =>
    if bs.length < 8 then []
    else
      let len := bytesAt bs 6 2
      (bytesAt bs 0 1, ⟨bytesAt bs 1 1, bytesAt bs 2 1, bytesAt bs 3 1, bytesAt bs 4 2, (bs.drop 8).take len, false⟩)
        :: storeEntries n (bs.drop (8 + len))

/-- Boot step 7: each slot is unwrapped; one that fails its wrap check loads empty with VOID set. -/
def Device.loadSlots (d : Device) : Device :=
  let es := storeEntries 14 (d.tab 0x04C0)
  let load := fun (k : Nat) => match es.find? fun (e : Nat × KeySlot) => e.1 == k with
    | none => KeySlot.empty
    | some (_, s) => match Config.keyUnwrap d.storeKey s.key with
      | some key => { s with key := key }
      | none => { KeySlot.empty with void := true }
  { d with vault := { d.vault with slots := Vector.ofFn fun i : Fin 14 => load (i + 2) } }

/-! ### What the objects show -/

/-- The floor of a sensor by lifecycle state (Table 20.8a): 0 NOTE, 1 LOCK, 2 ERASE; Retired is NOTE throughout (Table 20.2). -/
def stateFloor (lifecycle sensor : Nat) : Nat :=
  let row := [[0, 0, 1], [0, 0, 1], [0, 1, 2], [0, 1, 2], [0, 0, 1], [0, 1, 1]].getD sensor []
  row.getD lifecycle 0

/-- The floor in force (R410): the higher of the state's and that of OTP bank 7 word 0. [log 72: DEDUCED] -/
def Device.tamperFloor (d : Device) (s : Nat) : Nat :=
  let otp := if d.bankInForce 7 then min 2 (field (d.otpWord 112).2 (2 * s + 1) (2 * s)) else 0
  max (stateFloor d.lifecycle s) otp

/-- The level a sensor acts at (R410, R412). -/
def Device.tamperLevel (d : Device) (s : Nat) : Nat :=
  if d.vault.farrier then 0 else max (d.rd Ix.VLT_TAMPER_LEVEL (s + 1)) (d.tamperFloor s)

/-- The six tamper sensors. -/
def tamperSensors : List Nat := [0, 1, 2, 3, 4, 5]

/-- Approved mode (R393). -/
def Device.approved (d : Device) : Bool :=
  (d.lifecycle == 1 || d.lifecycle == 2) && d.bitOf Ix.VLT_STATUS 1 && !d.vault.farrier && !d.bitOf Ix.VLT_STATUS 3

/-- The evaluated configuration (R394). -/
def Device.evaluated (d : Device) : Bool :=
  d.approved && d.lifecycle == 2 && !d.provisionedVoid && [4, 5, 6].all (fun b => d.bankState b == 3)
    && tamperSensors.all (fun s => stateFloor 2 s ≤ d.tamperLevel s) && Config.validated (d.rd Ix.DEV_FW_VERSION)

/-- The Vault's status objects as they stand (Tables 20.10 to 20.12); LOCKED, ERASED and SELFTEST_OK keep what set them. -/
def Device.showVault (d : Device) : Device :=
  let d1 := ((d.wr Ix.VLT_LIFECYCLE 0 d.lifecycle).wr Ix.VLT_ROLLBACK 0 d.rollback).wr Ix.STO_OTP_BANKS 0 d.bankMap
  let d2 := tamperSensors.foldl (fun e s => e.wr Ix.VLT_TAMPER_FLOOR (s + 1) (e.tamperFloor s)) d1
  let d3 := (List.range 16).foldl (fun e k => e.wr Ix.VLT_SLOT_INFO (k + 1) (e.slotInfo k)) d2
  let d4 := (d3.wrBit Ix.VLT_STATUS 0 0 (d3.rootSlot.type != 0)).wrBit Ix.VLT_STATUS 0 2 d3.provisionedVoid
  let d5 := (d4.wrBit Ix.VLT_STATUS 0 5 d4.vault.farrier).wrBit Ix.VLT_STATUS 0 6 d4.approved
  d5.wrBit Ix.VLT_STATUS 0 7 d5.evaluated

/-- The Vault's services are answered UNAVAILABLE: a LOCK is in force, or a self-test failed (R395, R411). -/
def Device.vaultShut (d : Device) : Bool := d.bitOf Ix.VLT_STATUS 3 || d.rd Ix.VLT_SELFTEST != 0

/-! ### Measurement (R405) -/

/-- MR `k`. -/
def Device.mr (d : Device) (k : Nat) : List Nat := d.tab Ix.VLT_MR (k + 1)

/-- Extend MR `k` with a digest. -/
def Device.extend (d : Device) (k : Nat) (digest : List Nat) : Device := d.setTab Ix.VLT_MR (k + 1) (Config.sha256 (d.mr k ++ digest))

/-- MR6 is extended with the SHA-256 of a one-byte event. -/
def Device.extendEvent (d : Device) (event : Nat) : Device := d.extend 6 (Config.sha256 [event])

/-- The SHA-256 of an entry's records in ascending order, without record 0x13. -/
def recordsDigest (rs : List LedgerRecord) : List Nat := Config.sha256 ((rs.filter fun r => r.id != 0x13).flatMap LedgerRecord.bytes)

/-- MR4 is extended with the entry of a completed post. -/
def Device.measurePost (d : Device) (rs : List LedgerRecord) : Device := d.extend 4 (recordsDigest rs)

/-- MR2 at boot step 4. -/
def Device.measureOtp (d : Device) : Device :=
  let words := [0, 1, 2, 3, 5, 7].flatMap fun b => (List.range 16).flatMap fun i => leBytes 4 (d.otpWord (16 * b + i)).2
  d.extend 2 (Config.sha256 (words ++ leBytes 4 d.bankMap ++ [d.rollback, d.lifecycle]))

/-! ### The erase and tamper alarms (R410 to R413) -/

/-- RETIRE_ON_ERASE: set by policy, or forced by OTP bank 7 word 1 bit 0. -/
def Device.retireOnErase (d : Device) : Bool :=
  d.bitOf Ix.VLT_POLICY 0 || (d.bankInForce 7 && bit (d.otpWord 113).2 0)

/-- The lifecycle fuses of a state, byte `k` of word 243, are blown (R97). -/
def Device.blowStage (d : Device) (k : Nat) : Device := d.blow 243 (0xFF * 256 ^ k)

/-- A slot's record copies without record 0x13. -/
def LedgerSlot.eraseStore (s : LedgerSlot) : LedgerSlot :=
  let f := fun (rs : List LedgerRecord) => rs.filter fun r => r.id != 0x13
  { s with copyA := f s.copyA, copyB := f s.copyB, copyC := f s.copyC }

/-- A Ledger post in progress is stopped and fails as POST_FAILED (R413 step 2). [log 73: DEDUCED] -/
def Device.stopPost (d : Device) (now : Nat) : Device :=
  if d.ledger.post.isNone then d
  else ({ d with ledger := { d.ledger with post := none } }.wr Ix.STO_POST 0 3).post now 0xE1 0x45 0x13

/-- The erase of R413. [log 73: DEDUCED] -/
def Device.runErase (d : Device) (now : Nat) : Device :=
  let d1 := d.stopPost now
  let d2 := { d1 with
    ledger := { d1.ledger with slot0 := d1.ledger.slot0.eraseStore, slot1 := d1.ledger.slot1.eraseStore }
    tabs := cellDrop d1.tabs keyStoreKey
    vault := { d1.vault with slots := Vector.replicate 14 KeySlot.empty, marker := false }
    server := { d1.server with sessions := d1.server.sessions.map fun (s : Session) => { s with key := ([] : List Nat) } } }
  let d3 := if d2.retireOnErase then d2.blowStage 2 else d2
  (d3.drawn.wrBit Ix.VLT_STATUS 0 4 true).showVault

/-- LOCK acts (R411): MR6, every session ends, and the Vault is shut until the next device reset. -/
def Device.lockVault (d : Device) : Device := ((d.extendEvent 5).endSessions.wrBit Ix.VLT_STATUS 0 3 true).showVault

/-- An alarm of sensor `s` (R411). [log 73: DEDUCED] -/
def Device.tamper (d : Device) (now s : Nat) : Device :=
  let d1 := d.inc Ix.VLT_TAMPER_COUNT (s + 1)
  let level := d1.tamperLevel s
  if level == 0 then d1.post now 0xF0 0x40 s
  else if level == 1 then (d1.post now 0xF0 0x41 s).lockVault
  else (((d1.post now 0xF0 0x42 s).lockVault).extendEvent 6).runErase now

/-- A self-test fails (R395): Vault services stop until reset. [log 73: DEDUCED] -/
def Device.selfTestFail (d : Device) (now code : Nat) : Device :=
  ((d.wr Ix.VLT_SELFTEST 0 code).wrBit Ix.VLT_STATUS 0 1 false).showVault.post now 0xF0 0x43 code

/-! ### Lifecycle (R397) -/

/-- The low 32 bits of `DEV_SERIAL` are written to `VLT_LIFECYCLE_CONFIRM`; another value confirms nothing. [log 26: DEDUCED] -/
def Device.confirm (d : Device) (now : Nat) (o : Owner) (v : Nat) : Device :=
  if v == d.rd Ix.DEV_SERIAL % 2 ^ 32 then { d with vault := { d.vault with confirm := some (o, now) } } else d

/-- The same requester confirmed within the last 10 s. -/
def Device.confirmed (d : Device) (now : Nat) (o : Owner) : Bool :=
  match d.vault.confirm with
  | some (w, t) => w == o && decide (now ≤ t + 1_600_000_000)
  | none => false

/-- The transition is allowed; a spoiled word of bank 6 leaves only RETIRE. -/
def Device.transitionOk (d : Device) (cmd : Nat) : Bool :=
  if cmd == 1 then
    d.lifecycle == 0 && d.bankState 4 == 3 && d.bankState 5 == 3 && d.bankInForce 5 && !d.otp.spoiled.any fun w => w / 16 == 6
  else if cmd == 2 then d.lifecycle == 1 && d.rootSlot.type != 0 && !d.provisionedVoid
  else cmd == 3 && d.lifecycle != 3

/-- The answer to a write of `VLT_LIFECYCLE_CMD` once role and class have passed: R397's steps 3 to 5. [log 73: DEDUCED] -/
def Device.lifecycleStatus (d : Device) (now : Nat) (o : Owner) (cmd : Nat) : Nat :=
  if d.vaultShut then 0x0F else if !d.confirmed now o then 0x04 else if !d.transitionOk cmd then 0x04 else d.otpGate

/-- Word `w` is programmed with a value, every fuse good. -/
def Device.burn (d : Device) (w v : Nat) : Device := d.blow w (encodeWord v)

/-- PROVISION: the BLANK words of bank 6 words 0 to 7 take random bits, then SEAL, LOCK, and the PROVISIONED fuses. [log 73: DEDUCED] -/
def Device.provision (d : Device) : Device :=
  let d1 := (List.range 8).foldl (fun (e : Device) i =>
    if (e.otpWord (96 + i)).1 != 0 then e
    else
      let (r, e1) := e.randomBytes 4
      e1.burn (96 + i) (leNat r)) d
  let d2 := if (d1.otpWord 111).1 == 0 then d1.burn 111 (d1.checkWord 6) else d1
  let d3 := if d2.bankLocked 6 then d2 else d2.blow 242 (3 * 4 ^ 6)
  (d3.blowStage 0).extendEvent 1

/-- What an accepted lifecycle command does before its device reset. -/
def Device.lifecycleAct (d : Device) (now cmd : Nat) : Device :=
  if cmd == 1 then d.provision
  else if cmd == 2 then (d.blowStage 1).extendEvent 2
  else ((d.runErase now).blowStage 2).extendEvent 3

/-! ### Root key, import, deletion, MR7 (R400, R401, R405) -/

/-- `VLT_ROOT_KEY` is accepted: 64 bytes whose SHA-256 is bank 5 words 0 to 7, bank 5 being in force (R102, R400). -/
def Device.rootKeyOk (d : Device) (bs : List Nat) : Bool := bs.length == 64 && d.bankInForce 5 && Config.sha256 bs == d.bankBytes 5

/-- Slot 1 is loaded. -/
def Device.storeRoot (d : Device) (bs : List Nat) : Device := (d.setTab Ix.VLT_ROOT_KEY 0 bs).showVault

/-- Sessions opened on a slot end. -/
def Device.endSlot (d : Device) (k : Nat) : Device :=
  (d.server.sessions.filter fun s => s.slot == k).foldl (fun e s => e.endSession s.number) d

/-- Length of the KEY field by TYPE (Table 20.3). -/
def importKeyLen (t : Nat) : Nat := if t == 1 then 24 else if t == 2 then 40 else 64

/-- Imports and deletions are answered UNAVAILABLE: outside Provisioned and Field, with bank 5 or 6 VOID, or with the Vault shut. -/
def Device.importShut (d : Device) : Bool := d.vaultShut || d.slotsVoid || !(d.lifecycle == 1 || d.lifecycle == 2)

/-- A field of an import is out of range, or its length does not fit TYPE. [log 72: DEDUCED] -/
def importBad (bs : List Nat) : Bool :=
  let t := bytesAt bs 3 1
  let role := bytesAt bs 4 1
  let usage := bytesAt bs 5 1
  !(bytesAt bs 0 2 == 1 && 2 ≤ bytesAt bs 2 1 && bytesAt bs 2 1 ≤ 15 && (t == 1 || t == 2 || t == 4) && 1 ≤ role && role ≤ 3
    && usage < (if t == 4 then 2 else 4) && bs.length == 148 + importKeyLen t && (t != 4 || ((bs.drop 20).take 64).all (· == 0)))

/-- The key of an import, unwrapped: none where its wrap check fails. -/
def Device.importKey (d : Device) (bs : List Nat) : Option (List Nat) :=
  let t := bytesAt bs 3 1
  let key := (bs.drop 84).take (importKeyLen t)
  if t == 4 then some key
  else
    let z := Config.ecdh (d.keySlot 0).key ((bs.drop 20).take 64)
    Config.keyUnwrap (kdf z ([7] ++ leBytes 8 (d.rd Ix.DEV_SERIAL))) key

/-- Serial, SEQ, signature and unwrap of an import hold. -/
def Device.importGenuine (d : Device) (bs : List Nat) : Bool :=
  let n := 84 + importKeyLen (bytesAt bs 3 1)
  bytesAt bs 8 8 == d.rd Ix.DEV_SERIAL && decide (d.vault.seq < bytesAt bs 16 4) && d.rootSlot.type != 0
    && Config.ecdsaVerify (d.keySlot 1).key (bs.take n) (bs.drop n) && (d.importKey bs).isSome

/-- A slot is replaced: its sessions end, MR5 is extended, and a post starts. [log 72: DEDUCED] -/
def Device.replaceSlot (d : Device) (k : Nat) (s : KeySlot) : Device :=
  let pub := if s.type == 4 then s.key else List.replicate 32 0
  let d1 := (d.endSlot k).extend 5 (Config.sha256 ([k, s.type] ++ leBytes 2 s.keyId ++ pub))
  let d2 := { d1 with vault := { d1.vault with slots := d1.vault.slots.setIfInBounds (k - 2) s } }
  d2.keepStore.showVault.postStart

/-- A write of `VLT_KEY_IMPORT` (R401). [log 72: DEDUCED] -/
def Device.keyImport (d : Device) (bs : List Nat) : Nat × Device :=
  if d.importShut then (0x0F, d)
  else if importBad bs then (0x04, d)
  else if !d.importGenuine bs then (0x05, d)
  else if d.postStatus != 0 then (0x0A, d)
  else
    let s : KeySlot := ⟨bytesAt bs 3 1, bytesAt bs 4 1, bytesAt bs 5 1, bytesAt bs 6 2, (d.importKey bs).getD [], false⟩
    let d1 := { d with vault := { d.vault with seq := bytesAt bs 16 4 } }
    (0, d1.replaceSlot (bytesAt bs 2 1) s)

/-- A write of `VLT_KEY_DELETE` (R401). [log 72: DEDUCED] -/
def Device.keyDelete (d : Device) (k : Nat) : Nat × Device :=
  if d.importShut then (0x0F, d) else if d.postStatus != 0 then (0x0A, d) else (0, d.replaceSlot k KeySlot.empty)

/-! ### Receipts (R406) -/

/-- RECEIPT may be served. -/
def Device.receiptOk (d : Device) : Bool := !d.vaultShut && d.bankInForce 4 && d.bankState 4 != 2

/-- The receipt of Table 20.6a. -/
def Device.receipt (d : Device) (now : Nat) (nonce : List Nat) (mask : Nat) : List Nat × Device :=
  let flags := bitIf d.approved 0 + bitIf d.vault.farrier 1 + bitIf (d.bitOf Ix.VLT_STATUS 3) 2 + bitIf d.provisionedVoid 3 + bitIf d.evaluated 4
  let body := leBytes 2 1 ++ [d.lifecycle, flags, mask, d.rollback, 0, 0] ++ leBytes 8 (d.rd Ix.DEV_SERIAL)
    ++ leBytes 4 (d.rd Ix.STO_LEDGER_HEAD) ++ leBytes 4 (d.rd Ix.DEV_FW_VERSION) ++ leBytes 4 d.bankMap ++ leBytes 8 now ++ nonce
    ++ (maskList 8 mask).flatMap d.mr
  (body ++ Config.ecdsaSign (d.keySlot 0).key body (Config.random d.fresh), d.drawn)

/-! ### Farrier tokens (R414) -/

/-- `VLT_FARRIER_NONCE` is renewed. -/
def Device.newNonce (d : Device) : Device :=
  let (n, d1) := d.randomBytes 16
  d1.setTab Ix.VLT_FARRIER_NONCE 0 n

/-- A token is refused. -/
def Device.tokenBad (d : Device) (bs : List Nat) : Bool :=
  2 ≤ d.lifecycle || bytesAt bs 2 8 != d.rd Ix.DEV_SERIAL || (bs.drop 10).take 16 != d.tab Ix.VLT_FARRIER_NONCE
    || !Config.ecdsaVerify Config.farrierKey (bs.take 26) (bs.drop 26)

/-- The accepted token's effect before the device reset. -/
def Device.farrierEntry (d : Device) : Device :=
  let d1 := { d with
    vault := { d.vault with slots := Vector.replicate 14 KeySlot.empty, farrier := true }
    server := { d.server with sessions := d.server.sessions.map fun (s : Session) => { s with key := ([] : List Nat) } } }
  (d1.extendEvent 4).newNonce

/-! ### Firmware banks (R81, R407, R408) -/

/-- Bank 0 A or 1 B. -/
def Device.fwBank (d : Device) (k : Nat) : FwBank := if k == 1 then d.boot.bankB else d.boot.bankA

/-- Change a bank. -/
def Device.onBank (d : Device) (k : Nat) (f : FwBank → FwBank) : Device :=
  if k == 1 then { d with boot := { d.boot with bankB := f d.boot.bankB } } else { d with boot := { d.boot with bankA := f d.boot.bankA } }

/-- The header of a bank, 128 bytes. -/
def FwBank.header (b : FwBank) : List Nat := (List.range 128).map b.byte

/-- What a bank's bytes say of its header and signature (R407). -/
def FwBank.refresh (b : FwBank) : FwBank :=
  let h := b.header
  let len := bytesAt h 8 4
  let intact := bytesAt h 0 4 == 0x5446_4C54 && bytesAt h 4 2 == 1 && bytesAt h 6 2 == 0x9648 && decide (len ≤ 1_572_736)
  let image := (List.range (min len 1_572_736)).map fun i => b.byte (128 + i)
  let genuine := intact && Config.ecdsaVerify Config.firmwareKey (h.take 64) (h.drop 64) && Config.sha256 image == (h.drop 32).take 32
  { b with headerIntact := intact, sigValid := genuine, version := bytesAt h 12 4, secVersion := bytesAt h 16 1, length := len }

/-- The header of a bank is erased. -/
def FwBank.eraseHeader (b : FwBank) : FwBank :=
  { b with headerIntact := false, sigValid := false
           image := (List.range 128).foldl (fun (im : List (Nat × Nat)) o => cellPut im o 0xFF) b.image }

/-- Bytes are stored in a bank. -/
def FwBank.write (b : FwBank) (off : Nat) (bs : List Nat) : FwBank :=
  { b with image := (bs.zipIdx).foldl (fun (im : List (Nat × Nat)) (v, i) => cellPut im (off + i) v) b.image }

/-- The target of the update. -/
def Device.updTarget (d : Device) : Nat := d.rd Ix.VLT_UPD_BANK

/-- START is answered (R408 rule 1): FROZEN with an axis enabled, BUSY during a post, UNAVAILABLE outside READY, SAFE and the boot ROM's UPDATE. -/
def Device.updStartStatus (d : Device) : Nat :=
  if !d.allDisabled then 0x07
  else if d.ledger.post.isSome then 0x0A
  else if d.state == devReady || d.state == devSafe || d.state == devUpdate then 0 else 0x0F

/-- START: the state is UPDATE, and the target's header is erased. -/
def Device.updStart (d : Device) (o : Owner) : Device :=
  let t := if d.vault.romUpdate then d.updTarget else 1 - min 1 (d.rd Ix.DEV_FW_BANK)
  let d1 := d.onBank t FwBank.eraseHeader
  ((({ d1 with vault := { d1.vault with updater := some o } }).wr Ix.VLT_UPD_BANK 0 t).wr Ix.VLT_UPD_STATUS 0 1).wr Ix.DEV_STATE 0 devUpdate

/-- An update that can take blocks and commands is in progress. -/
def Device.updating (d : Device) : Bool := d.state == devUpdate && d.vault.updater.isSome

/-- U64 words are stored at an offset of the target (R408 rule 2): the status, and the device. -/
def Device.updBlock (d : Device) (off : Nat) (words : List Nat) : Nat × Device :=
  if !d.updating then (0x0F, d)
  else if d.rd Ix.VLT_UPD_STATUS == 2 then (0x0A, d)
  else if off % 8 != 0 || 1_572_864 < off + 8 * words.length then (0x04, d)
  else (0, (d.onBank d.updTarget fun b => (b.write off (words.flatMap (leBytes 8))).refresh).wr Ix.VLT_UPD_STATUS 0 1)

/-- VERIFY starts. -/
def Device.updVerify (d : Device) : Nat × Device :=
  if !d.updating || d.vaultShut then (0x0F, d)
  else if d.rd Ix.VLT_UPD_STATUS == 2 then (0x0A, d)
  else (0, d.wr Ix.VLT_UPD_STATUS 0 2)

/-- VERIFY completes. -/
def Device.updVerified (d : Device) : Device :=
  if d.rd Ix.VLT_UPD_STATUS != 2 then d
  else
    let b := d.fwBank d.updTarget
    d.wr Ix.VLT_UPD_STATUS 0 (if b.headerIntact && b.sigValid && d.rollback ≤ b.secVersion then 3 else 4)

/-- ACTIVATE is answered: it is accepted only at status 3. -/
def Device.activateStatus (d : Device) : Nat := if !d.updating || d.vaultShut then 0x0F else if d.rd Ix.VLT_UPD_STATUS == 3 then 0 else 0x04

/-- ACTIVATE: the target is preferred, with TRIAL set and the trial count 0; the update has ended and the reset follows. [log 73: DEDUCED] -/
def Device.updActivate (d : Device) : Device :=
  { d with
    boot := { d.boot with preferred := if d.updTarget == 1 then 1 else 0, trial := true, trialCount := 0 }
    vault := { d.vault with updater := none } }

/-- A reset cuts off an update: the target fails header_intact (R408). [log 73: DEDUCED] -/
def Device.cutUpdate (d : Device) : Device := if d.updating then d.onBank d.updTarget FwBank.eraseHeader else d

/-! ### ROLLBACK (R409) -/

/-- The next rollback fuse is blown while the running bank is confirmed and above ROLLBACK, and no warning is active. -/
def Device.rollbackAdvance (d : Device) : Device :=
  let target := d.runningBank.secVersion
  if (d.boot.trial && d.boot.preferred.val == d.rd Ix.DEV_FW_BANK) || d.bitOf Ix.SUP_STATUS 1 || d.vault.romUpdate then d
  else
    ((List.range (min 64 target)).foldl (fun (e : Device) k =>
      if k < d.rollback then e else e.blow (240 + k / 32) (2 ^ (k % 32))) d).showVault

/-! ### Meanings -/

/-- TAMPER_ALARM (R411): the alarm of one sensor. [log 79: DESIGN CHOICE] -/
def execTamperAlarm (sensor : Fin 6) (s : State) : Host.Outcome State Fault Refusal := s.onRunning fun now d => d.tamper now sensor

/-- SELF_TEST_FAIL (R395): a continuous test fails, by its code of R416. -/
def execSelfTestFail (code : Nat) (s : State) : Host.Outcome State Fault Refusal := s.onRunning fun now d => d.selfTestFail now code

/-- VERIFY_DONE (R408). -/
def execVerifyDone (s : State) : Host.Outcome State Fault Refusal := s.onRunning fun _ d => d.updVerified

/-- UPDATE_TIMEOUT (R408 rule 5): 60 s without an update request. -/
def execUpdateTimeout (s : State) : Host.Outcome State Fault Refusal := s.onRunning fun _ d => if d.vault.updater.isSome then d.updAbort else d

/-- ROLLBACK_ADVANCE (R409). -/
def execRollbackAdvance (s : State) : Host.Outcome State Fault Refusal := s.onRunning fun _ d => d.rollbackAdvance

end Sys2Proof.Machine
end

