-- ==== Sys2Proof/Machine/Boot.lean ====
section
/-! DEFINITION. Supplies, resets, the boot sequence, Ledger service mode, Sleep and power loss (R62, R63, R72 to R94), and the commands of the Vault that end with a reset. -/

namespace Sys2Proof.Machine

/-! ### Resets (R76, R77) -/

/-- What a device reset keeps of the objects: the cause and count of resets, the Pacer's reference, the supply readings, the wake cause, and the serial of the log. [log 20: DEDUCED] -/
def keptObjects : List Nat :=
  [Ix.SUP_RESET_CAUSE, Ix.SUP_RESET_COUNT, Ix.PAC_SOURCE_ACTIVE, Ix.SUP_VBAT, Ix.SUP_VIO, Ix.SUP_VGD, Ix.SUP_VCC5, Ix.SUP_VHOLD,
   Ix.SUP_HOLD_CAP, Ix.SUP_WAKE_CAUSE, Ix.TLY_LOG_HEAD]

/-- An OTP command that a reset cuts off: which fuses of the pulse in progress were blown, and which were left marginal, are free values. A word that does not read CLEAN with the intended value is spoiled (R104). [log 21: DESIGN CHOICE] -/
def Device.cutJob (d : Device) : Device :=
  match d.otp.job with
  | none => d
  | some j =>
    let (r, d0) := d.free 39
    let (m, d1) := d0.free 39
    let f := fusesAt d1.otp.fuses j.word
    let blown := f.blown ||| (j.target &&& r)
    let g : Fuses := ⟨blown, (f.weak ||| (j.target &&& m)) &&& ((2 ^ 39 - 1) ^^^ blown)⟩
    { d1 with otp := { d1.otp with
        job := none, fuses := setFuses d1.otp.fuses j.word g
        spoiled := if 240 ≤ j.word || g.resolve == (1, j.target % 2 ^ 32) then d1.otp.spoiled else d1.otp.spoiled ++ [j.word] } }

/-- The bits of `SUP_STATUS` that no reset changes: VBAT_OK, VGD_OK, VCC5_OK, VIO_OK, VHOLD_READY; Table 5.9 gives the others a reset value of 0. [log 20: DEDUCED] -/
def supplyBits (v : Nat) : Nat := maskOf ((maskList 16 v).filter fun k => k == 0 || (3 ≤ k && k ≤ 6))

/-- Every state returns to its reset value but MRAM and OTP; `kept` objects stay, and the device is held in reset. [log 20: DEDUCED] -/
def Device.toReset (d : Device) (kept : List Nat) : Device :=
  let p := d.cutJob.interruptPost.cutUpdate
  let c := Device.cold p.boot { p.otp with shadow := [], inForce := 0 } p.ledger
  let c1 := { c with
    fresh := p.fresh
    tally := { c.tally with log := p.tally.log }
    vault := { c.vault with marker := p.vault.marker, seq := p.vault.seq }
    supply := { c.supply with vbatAbsent := p.supply.vbatAbsent } }
  (kept.foldl (fun (e : Device) i => e.wr i 0 (p.rd i)) c1).wr Ix.SUP_STATUS 0 (supplyBits (p.rd Ix.SUP_STATUS))

/-- A power-on reset (R76): POR, and the causes that MRAM or the always-on logic recorded; Farrier mode ends. -/
def Device.powerOn (d : Device) (extra : Nat) : Device :=
  let loss := match d.ledger.newest with
    | some c => c.loss
    | none => false
  let d1 := d.toReset [Ix.SUP_VBAT, Ix.SUP_VIO, Ix.SUP_VGD, Ix.SUP_VCC5, Ix.SUP_VHOLD, Ix.SUP_HOLD_CAP, Ix.TLY_LOG_HEAD]
  (d1.wr Ix.SUP_RESET_CAUSE 0 (1 + bitIf loss 5 + extra)).wr Ix.PAC_SOURCE_ACTIVE 0 1

/-- The service-exit reset (Table 5.3): as a power-on reset, with its own cause bit. [log 23: DEDUCED] -/
def Device.serviceExit (d : Device) : Device := (d.powerOn 0).wr Ix.SUP_RESET_CAUSE 0 0x200

/-- A device reset with a cause bit (R77). During the power-loss sequence it takes effect when that ends (R91). [log 22: DEDUCED] -/
def Device.deviceReset (d : Device) (cause : Nat) : Device :=
  if d.bitOf Ix.SUP_STATUS 7 then { d with supply := { d.supply with deferred := withBit d.supply.deferred cause true } }
  else
    let d1 := d.toReset keptObjects
    let d2 := { d1 with
      vault := { d1.vault with farrier := d.vault.farrier }
      supply := { d1.supply with xtalStable := d.supply.xtalStable, delayLine := d.supply.delayLine } }
    (d2.wrBit Ix.SUP_RESET_CAUSE 0 cause true).inc Ix.SUP_RESET_COUNT

/-! ### Boot (R80 to R82) -/

/-- The boot record is shown. -/
def Device.showBoot (d : Device) : Device :=
  (d.wr Ix.SUP_BOOT_BANK_PREF 0 d.boot.preferred).wr Ix.SUP_BOOT_TRIAL 0 (bitIf d.boot.trial 7 + d.boot.trialCount % 4)

/-- A bank passes the checks of R81. -/
def Device.bankOk (d : Device) (k : Nat) : Bool :=
  (d.fwBank k).headerIntact && (d.fwBank k).sigValid && decide (d.rollback ≤ (d.fwBank k).secVersion)

/-- The bank is chosen (R81): none where neither passes. The bank tried first stands in `VLT_UPD_BANK` in that case. [log 25: DEDUCED] -/
def Device.chooseBank (d : Device) (now : Nat) : Option Nat × Device :=
  let original : Nat := d.boot.preferred
  let spent := d.boot.trial && 3 ≤ d.boot.trialCount
  let first := if spent then 1 - original else original
  let d1 := if spent then { d with boot := { d.boot with preferred := if first == 1 then 1 else 0, trial := false } } else d
  let take := fun (k : Nat) =>
    let d2 := d1.postIf (k != first || first != original) now 0x10 0x46 k
    if k == first && d2.boot.trial then { d2 with boot := { d2.boot with trialCount := min 3 (d2.boot.trialCount + 1) } } else d2
  if d1.bankOk first then (some first, take first)
  else if d1.bankOk (1 - first) then (some (1 - first), take (1 - first))
  else (none, (d1.post now 0x10 0x47 0).wr Ix.VLT_UPD_BANK 0 first)

/-- Boot steps 1 to 3: Trot, OTP sensed, the Vault's self-tests with the code of the one that failed or 0, and MR0. A VOID key bank is posted. [log 12: DESIGN CHOICE] -/
def Device.bootSense (d : Device) (now selfTest : Nat) : Device :=
  let d1 := { d with supply := { d.supply with phase := .running, pace := 1, paceTarget := none, paceKept := none } }
  let d2 := (d1.senseOtp now).extend 0 (Config.sha256 ((List.range 0x2_0000).map Config.romByte ++ Config.vaultRom))
  let d3 := if selfTest == 0 then d2.wrBit Ix.VLT_STATUS 0 1 true else d2.selfTestFail now selfTest
  let void := maskOf ([4, 5, 6].filter fun b => d3.bankState b == 2)
  (d3.postIf (void != 0) now 0xF0 0x44 void).showVault

/-- Boot step 4 for a bank: MR1, MR2, and what the running firmware shows. -/
def Device.bootBank (d : Device) (k : Nat) : Device :=
  let b := d.fwBank k
  let d1 := (d.extend 1 (Config.sha256 b.header)).measureOtp
  let d2 := ((d1.wr Ix.DEV_FW_BANK 0 k).wr Ix.DEV_FW_VERSION 0 b.version).wr Ix.ASY_FW_CRC 0 b.crc
  { d2 with supply := { d2.supply with trialRunning := decide (d2.boot.trial ∧ d2.boot.preferred.val = k) } }

/-- Boot step 5: the link is up after its 32 restart frames, the Saddle is trimmed, and the sources remembered from reset trip and post; which of them are active stays (R11, R130, R133, R174). [log 12: DESIGN CHOICE, 25: DEDUCED] -/
def Device.bootSaddle (d : Device) (now : Nat) : Device :=
  let up : GirthEnd := { GirthEnd.rest with up := true, nextAlive := 32, rxAlive := 31, accepted := 32 }
  let early := d.gda.early
  let status := 1 + bitIf (early.any fun x => x.src == 6) 3 + 31 * 256
  let d1 := ({ d with girth := ⟨up, up, now⟩, gda := { d.gda with allOff := false, early := [] } }).wr Ix.GTH_STATUS 0 status
  let d2 := if d1.bankInForce 3 then d1 else (d1.wrBit Ix.CNV_STATUS 0 3 true).post now 0x78 0x44 0
  early.foldl (fun e x => (e.tripLatch now x.src x.leg).post now x.source x.kind x.detail) d2

/-- The records of the entry that was loaded. -/
def Device.loadedRecords (d : Device) : List LedgerRecord :=
  match d.ledger.chooseHead with
  | some (h, _) => (d.ledger.slotAt h.slot).ids.filterMap fun i => chooseRecord ((d.ledger.slotAt h.slot).intact h.serial i)
  | none => []

/-- The hitch map of the loaded set: a leg latched at step 5 stays latched. -/
def Device.bootHitch (d : Device) : Device :=
  (List.range 24).foldl (fun e l =>
    let g := e.leg l
    let e1 := e.rehitchLeg l
    let low := e1.rd Ix.GDA_TRIP_STATE (l + 1) == 1
    if g.latched then e1.onLeg l fun x => ({ x with forceOff := g.forceOff }).toTrip low (8 ≤ e1.legOwner l) e1.gda.allOff else e1) d

/-- A stored tamper level below its floor is raised to it (R410). -/
def Device.raiseLevels (d : Device) : Device :=
  tamperSensors.foldl (fun e s => e.wr Ix.VLT_TAMPER_LEVEL (s + 1) (max (e.rd Ix.VLT_TAMPER_LEVEL (s + 1)) (e.tamperFloor s))) d

/-- The objects that apply only at the next reset (R388): node, ports, addresses and bit rates, with the settings of Table 19.8 that name them. -/
def netResetObjects : List ObjKey :=
  [keyOf Ix.NET_NODE 0, keyOf Ix.NET_PORT_EN 0, keyOf Ix.NET_UDP_PORT 0, keyOf Ix.NET_LIN_NAD 0]
    ++ [(Ix.NET_T1S, 4), (Ix.NET_IP, 4), (Ix.NET_CAN, 2)].flatMap fun (i, n) => (List.range n).map fun k => keyOf i (k + 1)

/-- The network settings in force since this reset, the present PLCA ID, CAN_ON and TIME_MASTER (Table 19.9); the fault streams start here. -/
def Device.takeNet (d : Device) : Device :=
  let d1 := { d with net := { d.net with faults := [], inForce := netResetObjects.map fun k => (k, d.rd (keyIndex k) (keySub k)) } }
  let d2 := d1.wr Ix.NET_T1S 5 (d1.rd Ix.NET_T1S 2)
  (d2.wrBit Ix.NET_STATUS 0 2 (bit (d2.rd Ix.NET_PORT_EN) 1)).wrBit Ix.NET_STATUS 0 9 (bit (d2.rd Ix.NET_TIME 1) 2)

/-- Boot steps 6 and 7: the erase of a found marker, recovery, the key slots, MR3, and every engine's tables and settings. [log 12: DESIGN CHOICE] -/
def Device.bootLoad (d : Device) (now : Nat) : Device :=
  let d1 := if d.vault.marker then d.runErase now else d
  let d2 := ((d1.recover now).restoreCounters now).loadSlots
  let d3 := d2.extend 3 (recordsDigest d2.loadedRecords)
  let d4 := (d3.raiseLevels.setTab Ix.VLT_DEV_PUBKEY 0 (Config.p256Public (d3.keySlot 0).key)).bootHitch
  let d5 := d4.rebaseAll
  let d6 := axes.foldl (fun e n =>
    let b := e.ceSnapshot n
    (((e.onCe n fun c => { c with bankA := b, bankB := b }).showModelG n b).takeSt n).prfBoot now n) d5
  d6.rederiveAll.showOwners.applyRein.showThermal.applyInt.takeNet.showVault

/-- Boot steps 8 and 9 (R80): the pace of `SUP_PACE_BOOT`, the ports, ERRN by the faults posted so far, `DEV_STATE`, and the services' start; BOOT_LATE counts whole units of 100 µs. [log 12: DESIGN CHOICE, 25: DEDUCED, 80: DESIGN CHOICE] -/
def Device.bootEnd (d : Device) (now bootUs : Nat) : Device :=
  let d1 := { d with server := { d.server with teamster := true }, supply := { d.supply with transceivers := true } }
  let d2 := (d1.requestPace (d1.rd Ix.SUP_PACE_BOOT)).wr Ix.SUP_BOOT_TIME 0 bootUs
  let d3 := ((d2.postIf (45000 < bootUs) now 0x10 0x49 (min 0xFFFF (bootUs / 100))).newNonce).showBoot
  let d4 := (if d3.vault.farrier then d3.extendEvent 4 else d3).drain now
  let d5 := { d4 with tally := { d4.tally with errnLow := d4.tally.errTiming } }
  ((d5.wr Ix.DEV_STATE 0 (if d5.inDeviceSafe then devSafe else devReady)).svcBoot now).showAsy

/-- The reference of the Pacer at the end of boot (R20, R80): the crystal where it is selected and has become stable; a selected crystal that has not is reported as lost (R69). [log 15: DESIGN CHOICE] -/
def Device.bootPacer (d : Device) (now : Nat) : Device :=
  if d.rd Ix.PAC_SOURCE != 0 then d.wr Ix.PAC_SOURCE_ACTIVE 0 1
  else if d.supply.xtalStable then d.wr Ix.PAC_SOURCE_ACTIVE 0 0
  else d.xtalGone now

/-- The boot ROM's UPDATE (R81): only slot 1 is loaded, so that a Custodian can prove a session with it. -/
def Device.romUpdate (d : Device) (now : Nat) : Device :=
  let root := (d.loadedRecords.flatMap (·.items)).find? fun x => x.key == keyOf Ix.VLT_ROOT_KEY 0
  let d1 := match root with
    | some x => d.setTab Ix.VLT_ROOT_KEY 0 x.bytes
    | none => d
  let d2 := { d1 with
    vault := { d1.vault with romUpdate := true }
    server := { d1.server with teamster := true }
    supply := { d1.supply with transceivers := true } }
  let d3 := ((d2.wr Ix.DEV_STATE 0 devUpdate).takeNet.newNonce.showVault.showBoot).drain now
  { d3 with tally := { d3.tally with errnLow := d3.tally.errTiming } }

/-- The supplies at reset release, in mV. -/
structure Rails where
  vbat  : Nat
  vio   : Nat
  vgd   : Nat
  vcc5  : Nat
  vhold : Nat
  deriving DecidableEq, Repr

/-- The rails are shown as they are, all in order (R78). [log 20: DEDUCED, 25: DEDUCED] -/
def Device.showRails (d : Device) (r : Rails) : Device :=
  let d1 := (((d.wr Ix.SUP_VBAT 0 r.vbat).wr Ix.SUP_VIO 0 r.vio).wr Ix.SUP_VGD 0 r.vgd).wr Ix.SUP_VCC5 0 r.vcc5
  let d2 := [0, 3, 4, 5, 6].foldl (fun (e : Device) k => e.wrBit Ix.SUP_STATUS 0 k true) (d1.wr Ix.SUP_VHOLD 0 r.vhold)
  { d2 with supply := { d2.supply with vbatAbsent := false } }

/-- The release conditions of R78 beside NRST: VBAT counts as present, VHOLD reported ready and no retry of its charge is owed, and no rail reads below the least threshold of its monitor in Table 5.2. [log 81: DEDUCED] -/
def Device.releases (d : Device) (r : Rails) : Bool :=
  !d.supply.vbatAbsent && d.bitOf Ix.SUP_STATUS 6 && !d.supply.chargeRetry
    && decide (1570 ≤ r.vio) && decide (3800 ≤ r.vcc5) && decide (4400 ≤ r.vhold)

/-- RESET_RELEASE: the boot sequence runs to network-ready in `bootUs` µs (Table 5.4). [log 12: DESIGN CHOICE] -/
def Device.bootRun (d : Device) (now : Nat) (r : Rails) (bootUs selfTest : Nat) : Device :=
  let d1 := (d.showRails r).bootSense now selfTest
  match d1.chooseBank now with
  | (none, d2) => d2.romUpdate now
  | (some k, d2) => ((((d2.bootBank k).bootSaddle now).bootLoad now).bootPacer now).bootEnd now bootUs

/-! ### Ledger service mode (R79) -/

/-- SERVICE_MODE_ENTER: from reset, with VBAT below its absent threshold. [log 23: DEDUCED] -/
def Device.serviceMode (d : Device) (now vioMv : Nat) : Device :=
  if d.supply.phase != .held || !d.supply.vbatAbsent then d
  else
    let d1 := { d with
      supply := { d.supply with phase := .service, pace := 0, paceTarget := none, paceKept := none }
      server := { d.server with teamster := true } }
    let d2 := ((d1.wr Ix.SUP_VIO 0 vioMv).wrBit Ix.SUP_STATUS 0 5 true).wrBit Ix.SUP_STATUS 0 8 true
    let d3 := ((d2.senseOtp now).recover now).wr Ix.DEV_STATE 0 devService
    (d3.showPace.wr Ix.PAC_SOURCE_ACTIVE 0 1).showBoot

/-- SERVICE_EXIT: at once, or when the post in progress completes. The Bool says that the Pacer restarts. [log 23: DEDUCED] -/
def Device.leaveService (d : Device) : Bool × Device :=
  if d.supply.phase != .service then (false, d)
  else if d.ledger.post.isSome then (false, { d with supply := { d.supply with exitPending := true } })
  else (true, d.serviceExit)

/-- POST_COMPLETE with what follows it: MR4, and a service exit that waited. -/
def Device.postEnds (d : Device) (now micros : Nat) (failed : Option Nat) : Bool × Device :=
  match d.ledger.post with
  | none => (false, d)
  | some rs =>
    let d1 := d.postComplete now micros failed
    let d2 := if d1.rd Ix.STO_POST == 2 then d1.measurePost rs else d1
    if d2.supply.exitPending then d2.leaveService else (false, d2)

/-! ### Sleep (R86 to R88) -/

/-- The wake sources that are armed. [log 24: DEDUCED] -/
def Device.armed (d : Device) : Nat :=
  let en := d.rd Ix.SUP_WAKE_EN
  if d.rd Ix.SUP_WAKE_TIMER == 0 then withBit en 4 false else en

/-- A write of 1 to `SUP_SLEEP`, once its class has passed. [log 24: DEDUCED] -/
def Device.sleepStatus (d : Device) : Nat :=
  if d.ledger.post.isSome then 0x0A else if d.bitOf Ix.SUP_STATUS 1 then 0x0F else if d.armed == 0 then 0x04 else 0

/-- Sleep entry (R86). [log 24: DEDUCED] -/
def Device.sleep (d : Device) : Device :=
  let d1 := d.endSessions.gatesOff
  let d2 := { d1 with
    supply := { d1.supply with phase := .asleep, transceivers := false, wakeArmed := d1.armed }
    tally := { d1.tally with errnLow := false }
    cnv := { d1.cnv with stopped := true } }
  [3, 4, 6].foldl (fun (e : Device) k => e.wrBit Ix.SUP_STATUS 0 k false) d2

/-- The number of a wake source in Table 5.5. -/
def wakeNumber : WakeSource → Nat
  | .pin _ => 0
  | .canFd => 1
  | .lin => 2
  | .hostSpi => 3

/-- What a source of Table 5.5 asks of the device beside being armed: the WAKE pin the edge or level of `SUP_WAKE_PIN_MODE`, the host SPI port the presence of VIO (R87). [log 24: DEDUCED] -/
def Device.wakeCond (d : Device) : WakeSource → Bool
  | .pin did => did == d.rd Ix.SUP_WAKE_PIN_MODE
  | .canFd | .lin => true
  | .hostSpi => d.bitOf Ix.SUP_STATUS 5

/-- A wake source fires (R88): a power-on reset where it is armed and the device sleeps. -/
def Device.wake (d : Device) (source : Nat) : Bool × Device :=
  if d.supply.phase != .asleep || !bit d.supply.wakeArmed source then (false, d)
  else (true, (d.powerOn 0x40).wr Ix.SUP_WAKE_CAUSE 0 source)

/-! ### Brown-out and power loss (R89 to R91) -/

/-- A reading at which the brown-out monitor can act: not above the greatest threshold that Table 5.2 allows for `SUP_BOW_LEVEL`, the level plus 2 % plus 50 mV. [log 81: DEDUCED] -/
def Device.belowLevel (d : Device) (mv : Nat) : Bool := decide (100 * mv ≤ 102 * d.rd Ix.SUP_BOW_LEVEL + 5000)

/-- A reading at which the warning can clear: at least 300 mV above the least threshold, the level minus 2 % minus 50 mV. [log 81: DEDUCED] -/
def Device.aboveLevel (d : Device) (mv : Nat) : Bool := decide (98 * d.rd Ix.SUP_BOW_LEVEL + 25000 ≤ 100 * mv)

/-- BROWN_OUT_WARN: one checkpoint per warning. The detail is in whole units of 10 mV, rounded down. [log 19: DEDUCED, 80: DESIGN CHOICE] -/
def Device.brownOut (d : Device) (now mv : Nat) : Device :=
  if d.bitOf Ix.SUP_STATUS 1 || !d.belowLevel mv then d.wr Ix.SUP_VBAT 0 mv
  else
    let d1 := ((d.wr Ix.SUP_VBAT 0 mv).wrBit Ix.SUP_STATUS 0 1 true).post now 0x10 0x40 (mv / 10)
    let d2 := d1.checkpoint now true
    { d2 with supply := { d2.supply with cpDone := true } }

/-- BROWN_OUT_CLEAR. In the power-loss sequence the completed checkpoint still counts (R90, R91). -/
def Device.brownOutClear (d : Device) (mv : Nat) : Device :=
  if !d.aboveLevel mv then d.wr Ix.SUP_VBAT 0 mv
  else
    let d1 := (d.wr Ix.SUP_VBAT 0 mv).wrBit Ix.SUP_STATUS 0 1 false
    { d1 with supply := { d1.supply with cpDone := d1.supply.cpDone && d1.bitOf Ix.SUP_STATUS 7 } }

/-- VBAT_UV: the power-loss sequence starts (R90). [log 19: DEDUCED] -/
def Device.powerLoss (d : Device) (now mv : Nat) : Device :=
  if d.bitOf Ix.SUP_STATUS 7 then d.wr Ix.SUP_VBAT 0 mv
  else
    let d1 := ((d.wr Ix.SUP_VBAT 0 mv).wrBit Ix.SUP_STATUS 0 0 false).wrBit Ix.SUP_STATUS 0 7 true
    let d2 := (d1.post now 0x10 0x41 0).gatesOff
    if d2.supply.cpDone then d2
    else
      let d3 := d2.checkpoint now (d2.bitOf Ix.SUP_STATUS 1)
      { d3 with supply := { d3.supply with cpDone := true } }

/-- Where the device stands after a power-loss sequence: it boots where VBAT is back, and otherwise draws next to nothing from VIO while that lasts (R79 rule 6). [log 22: DEDUCED] -/
def Device.afterLoss (d : Device) : Device :=
  if !d.bitOf Ix.SUP_STATUS 0 && d.bitOf Ix.SUP_STATUS 5 then { d with supply := { d.supply with phase := .dormant } } else d

/-- POWER_LOSS_END: the checkpoint and any post are complete; resets that waited leave their causes too. [log 22: DEDUCED] -/
def Device.powerLossEnd (d : Device) : Device :=
  if !d.bitOf Ix.SUP_STATUS 7 || d.ledger.post.isSome || !d.supply.cpDone then d
  else
    let d1 := (d.wrBit Ix.SUP_STATUS 0 7 false).deviceReset 5
    (d1.wr Ix.SUP_RESET_CAUSE 0 (d1.rd Ix.SUP_RESET_CAUSE ||| d.supply.deferred)).afterLoss

/-- VHOLD_MINIMUM: a power-on reset; in the power-loss sequence VBAT_LOSS is set. A device held in reset or dormant stays so. In Sleep and in service mode the Rider does not run from VHOLD, and only VHOLD_READY ends. [log 22: DEDUCED] -/
def Device.holdEmpty (d : Device) : Bool × Device :=
  let lossy := d.bitOf Ix.SUP_STATUS 7
  let d1 := d.powerOn 0
  let d2 := (d1.wrBit Ix.SUP_STATUS 0 6 false).wr Ix.SUP_RESET_CAUSE 0 (d1.rd Ix.SUP_RESET_CAUSE ||| bitIf lossy 5)
  match d.supply.phase with
  | .running => (true, d2.afterLoss)
  | .held | .dormant => (true, { d2 with supply := { d2.supply with phase := d.supply.phase } })
  | .asleep | .service => (false, d.wrBit Ix.SUP_STATUS 0 6 false)

/-! ### Meanings: supplies -/

/-- VBAT_START (R74): VBAT counts as present; a device that lies dormant can boot. [log 3: DESIGN CHOICE] -/
def execVbatStart (mv : Nat) (s : State) : Host.Outcome State Fault Refusal :=
  s.onDev fun _ d =>
    let d1 := (d.wr Ix.SUP_VBAT 0 mv).wrBit Ix.SUP_STATUS 0 0 true
    let phase := if d1.supply.phase = .dormant then .held else d1.supply.phase
    { d1 with supply := { d1.supply with phase := phase, vbatAbsent := false } }

/-- VBAT falls below its absent threshold. A sleeping device loses its always-on logic with VBAT, so that what comes next is a cold start. [log 24: DEDUCED] -/
def Device.vbatGone (d : Device) (mv : Nat) : Bool × Device :=
  let d1 := (d.wr Ix.SUP_VBAT 0 mv).wrBit Ix.SUP_STATUS 0 0 false
  let d2 := { d1 with supply := { d1.supply with vbatAbsent := true } }
  if d2.supply.phase = .asleep then (true, d2.powerOn 0) else (false, d2)

/-- VBAT_ABSENT (R79). -/
def execVbatAbsent (mv : Nat) (s : State) : Host.Outcome State Fault Refusal := s.onPower fun _ d => d.vbatGone mv

/-- BROWN_OUT_WARN (R89). -/
def execBrownOutWarn (mv : Nat) (s : State) : Host.Outcome State Fault Refusal := s.onRunning fun now d => d.brownOut now mv

/-- BROWN_OUT_CLEAR (R89). -/
def execBrownOutClear (mv : Nat) (s : State) : Host.Outcome State Fault Refusal := s.onRunning fun _ d => d.brownOutClear mv

/-- VBAT_UV (R90). -/
def execVbatUv (mv : Nat) (s : State) : Host.Outcome State Fault Refusal := s.onRunning fun now d => d.powerLoss now mv

/-- POWER_LOSS_END (R90 step 5). -/
def execPowerLossEnd (s : State) : Host.Outcome State Fault Refusal := s.onRunning fun _ d => d.powerLossEnd

/-- VBAT_OV (R92); the detail is in whole units of 10 mV, rounded down. [log 80: DESIGN CHOICE] -/
def execVbatOv (mv : Nat) (s : State) : Host.Outcome State Fault Refusal :=
  s.onRunning fun now d =>
    let d1 := d.wr Ix.SUP_VBAT 0 mv
    if d1.bitOf Ix.SUP_STATUS 2 then d1 else (d1.wrBit Ix.SUP_STATUS 0 2 true).post now 0x10 0x42 (mv / 10)

/-- VBAT_OV_CLEAR (R92). -/
def execVbatOvClear (mv : Nat) (s : State) : Host.Outcome State Fault Refusal :=
  s.onRunning fun _ d => (d.wr Ix.SUP_VBAT 0 mv).wrBit Ix.SUP_STATUS 0 2 false

/-- VGD_UV (Table 5.2): every gate goes off; the detail is in whole units of 10 mV, rounded down. [log 80: DESIGN CHOICE] -/
def execVgdUv (mv : Nat) (s : State) : Host.Outcome State Fault Refusal :=
  s.onRunning fun now d => (((d.wr Ix.SUP_VGD 0 mv).wrBit Ix.SUP_STATUS 0 3 false).gatesOff).post now 0x10 0x43 (mv / 10)

/-- VGD_UV_CLEAR: the gates may be driven again, unless the power-loss sequence holds them. -/
def execVgdUvClear (mv : Nat) (s : State) : Host.Outcome State Fault Refusal :=
  s.onRunning fun _ d =>
    let d1 := (d.wr Ix.SUP_VGD 0 mv).wrBit Ix.SUP_STATUS 0 3 true
    { d1 with gda := { d1.gda with allOff := d1.bitOf Ix.SUP_STATUS 7 } }

/-- VCC5_UV (Table 5.2): transceivers and slices stop; the detail is in whole units of 10 mV, rounded down. [log 80: DESIGN CHOICE] -/
def execVcc5Uv (mv : Nat) (s : State) : Host.Outcome State Fault Refusal :=
  s.onRunning fun now d =>
    let d1 := (d.wr Ix.SUP_VCC5 0 mv).wrBit Ix.SUP_STATUS 0 4 false
    let d2 := { d1 with supply := { d1.supply with transceivers := false }, cnv := { d1.cnv with stopped := true } }
    (d2.wrBit Ix.NET_STATUS 0 0 false).post now 0x10 0x44 (mv / 10)

/-- VCC5_UV_CLEAR. -/
def execVcc5UvClear (mv : Nat) (s : State) : Host.Outcome State Fault Refusal :=
  s.onRunning fun now d =>
    let d1 := (d.wr Ix.SUP_VCC5 0 mv).wrBit Ix.SUP_STATUS 0 4 true
    ({ d1 with supply := { d1.supply with transceivers := true }, cnv := { d1.cnv with stopped := false } }).alloc now (now * 32)

/-- VIO_UV (R63): a device reset, or the end of service mode, in which a post is lost (R79 rule 5). [log 22: DEDUCED] -/
def execVioUv (mv : Nat) (s : State) : Host.Outcome State Fault Refusal :=
  s.onDev fun _ d =>
    let d1 := (d.wr Ix.SUP_VIO 0 mv).wrBit Ix.SUP_STATUS 0 5 false
    match d1.supply.phase with
    | .running | .service => d1.deviceReset 2
    | .dormant => { d1 with supply := { d1.supply with phase := .held } }
    | _ => d1

/-- VHOLD_READY (R75, R78): `riseUs` is the time of the rise from below 0.5 V to 4.5 V, none where VHOLD stood above 0.5 V; `SUP_HOLD_CAP` is in whole units of 0.1 µF, rounded down. [log 80: DESIGN CHOICE] -/
def execVholdReady (mv : Nat) (riseUs : Option Nat) (s : State) : Host.Outcome State Fault Refusal :=
  s.onDev fun now d =>
    let d1 := (d.wr Ix.SUP_VHOLD 0 mv).wrBit Ix.SUP_STATUS 0 6 true
    let d2 := { d1 with supply := { d1.supply with chargeRetry := false } }
    match riseUs with
    | none => d2
    | some t => (d2.wr Ix.SUP_HOLD_CAP 0 (min 0xFFFF (t / 8))).postIf (t / 8 < 120) now 0x10 0x45 (t / 8)

/-- VHOLD_READY_TIMEOUT (R78): the device stays in reset and retries the charge. -/
def execVholdReadyTimeout (s : State) : Host.Outcome State Fault Refusal :=
  s.onDev fun _ d => { d with supply := { d.supply with chargeRetry := true } }

/-- VHOLD_MINIMUM (Table 5.2): the Rider regulators stop, and a power-on reset follows. -/
def execVholdMinimum (s : State) : Host.Outcome State Fault Refusal :=
  s.onPower fun _ d => d.holdEmpty

/-! ### Meanings: reset, boot, service mode, Sleep -/

/-- NRST_LOW (R77): 1 µs always resets, 200 ns never; between them a free value decides. From Sleep and from the dormant state the device reset leaves a device in reset, for the service-mode test of R79 or a boot. [log 14: DESIGN CHOICE] -/
def execNrstLow (widthNs : Nat) (s : State) : Host.Outcome State Fault Refusal :=
  s.onDev fun _ d =>
    let open_ := 200 < widthNs && widthNs < 1000
    let acts := 1000 ≤ widthNs || (open_ && d.peekFree 1 == 1)
    let d0 := if open_ then d.drawn else d
    if acts then d0.deviceReset 1 else d0

/-- RESET_RELEASE (R78, R80): where every release condition holds, boot runs in `bootUs` µs; `selfTest` is the code of a Vault self-test that failed, else 0. [log 12: DESIGN CHOICE] -/
def execResetRelease (vbat vio vgd vcc5 vhold bootUs selfTest : Nat) (s : State) : Host.Outcome State Fault Refusal :=
  s.onDev fun now d =>
    let r : Rails := ⟨vbat, vio, vgd, vcc5, vhold⟩
    if d.supply.phase = .held && d.releases r then d.bootRun now r bootUs selfTest else d

/-- CRYSTAL_STABLE (R80): the Pacer changes to the crystal where `PAC_SOURCE` selects it and it was not lost. [log 15: DESIGN CHOICE] -/
def execCrystalStable (s : State) : Host.Outcome State Fault Refusal :=
  s.onDev fun _ d =>
    let d1 := { d with supply := { d.supply with xtalStable := true } }
    if d1.isRunning && d1.rd Ix.PAC_SOURCE == 0 && !d1.supply.xtalLost then d1.wr Ix.PAC_SOURCE_ACTIVE 0 0 else d1

/-- SERVICE_MODE_ENTER (R79). -/
def execServiceModeEnter (vio : Nat) (s : State) : Host.Outcome State Fault Refusal := s.onDev fun now d => d.serviceMode now vio

/-- SERVICE_EXIT (R79 rule 4). -/
def execServiceExit (s : State) : Host.Outcome State Fault Refusal := s.onPower fun _ d => d.leaveService

/-- POST_COMPLETE (R55, R108): after `micros` µs, or with a failed read-back at record `failed` (0xFFFF for a head). -/
def execPostComplete (micros : Nat) (failed : Option Nat) (s : State) : Host.Outcome State Fault Refusal :=
  s.onPower fun now d => d.postEnds now micros failed

/-- TRIAL_CONFIRM (R82): 60 s in READY or RUN on a TRIAL bank. -/
def execTrialConfirm (s : State) : Host.Outcome State Fault Refusal :=
  s.onRunning fun _ d =>
    if d.supply.trialRunning && (d.state == devReady || d.state == devRun) then
      ({ d with boot := { d.boot with trial := false, trialCount := 0 }, supply := { d.supply with trialRunning := false } }).showBoot
    else d

/-- HANDSHAKE_STALL (R14): source byte of the owning block and channel number. A Groom channel resets the device. -/
def execHandshakeStall (source channel : Nat) (s : State) : Host.Outcome State Fault Refusal :=
  s.onPowered fun now d => if source == 0 then d.deviceReset 4 else d.post now source 3 channel

/-- WAKE_EVENT (R87, R88). [log 3: DESIGN CHOICE] -/
def execWakeEvent (source : WakeSource) (s : State) : Host.Outcome State Fault Refusal :=
  s.onPower fun _ d => if d.wakeCond source then d.wake (wakeNumber source) else (false, d)

/-- WAKE_TIMER (R87). -/
def execWakeTimer (s : State) : Host.Outcome State Fault Refusal := s.onPower fun _ d => d.wake 4

end Sys2Proof.Machine
end

