-- ==== Sys2Proof/Machine/Dictionary.lean ====
section
/-! DEFINITION. Who asks and with what right (R44 to R46), what a read shows (R47), what DESCRIBE returns (R42), and the device states in which a request is served (R58). -/

namespace Sys2Proof.Machine

/-! ### Requesters (R44, R45) -/

/-- Who asks: a requester, or a sender to one of the device's groups, which acts as Operator (R377). -/
structure Caller where
  rq    : Requester
  group : Bool
  deriving DecidableEq, Repr

/-- A requester that sends to the device itself. -/
def Caller.of (rq : Requester) : Caller := ⟨rq, false⟩

/-- The owner that a requester's staged sets and transfers belong to (R49, R54). -/
def Caller.owner (c : Caller) : Owner :=
  if c.rq.session != 0 then .session c.rq.session
  else if c.rq.port = .spi then .hostSpi else .outside c.rq.port c.rq.node

/-- The role of a code of `DEV_SESSION_ROLE`. -/
def roleOfCode (k : Nat) : Role := if k == 1 then .operator else if k == 2 then .integrator else if k == 3 then .custodian else .reader

/-- The open session of a requester: its number, bound to its port and node (R45 rule 3). -/
def Device.sessionOf (d : Device) (rq : Requester) : Option Session :=
  d.server.sessions.find? fun s => s.number == rq.session && decide (s.port = rq.port) && s.node == rq.node

/-- The role a request acts with; none is NO_SESSION (R44, R45, R46). -/
def Device.roleOf (d : Device) (c : Caller) : Option Role :=
  if c.group then some .operator
  else if c.rq.session == 0 then
    match c.rq.port with
    | .spi => some .operator
    | .lin => some (if d.rd Ix.NET_LIN_OPERATOR == 1 then .operator else .reader)
    | _ => some .reader
  else match d.sessionOf c.rq with
    | some s => if s.proven then some (roleOfCode s.role) else none
    | none => none

/-- The update objects (R58, R408). -/
def updateObject (index : Nat) : Bool := 0x04A0 ≤ index && index ≤ 0x04A3

/-- A host SPI request outside a session. -/
def Caller.bare (c : Caller) : Bool := decide (c.rq.port = .spi) && c.rq.session == 0 && !c.group

/-- The role a write acts with: Table 3.4a for the host SPI port outside a session. In the boot ROM's UPDATE, the update objects are written by that port, or by a Custodian session on CAN FD proven by method 2 on slot 1 (R408). -/
def Device.writeRole (d : Device) (c : Caller) (role : Role) (index : Nat) : Role :=
  if updateObject index && d.vault.romUpdate then
    let proven := match d.sessionOf c.rq with
      | some s => decide (s.port = .can) && s.role == 3 && s.method == 2 && s.slot == 1
      | none => false
    if c.bare || proven then .integrator else .reader
  else if !c.bare then role
  else if index == Ix.VLT_ROOT_KEY then .custodian
  else if index == Ix.VLT_FARRIER && d.lifecycle == 0 then .custodian
  else if 0x0200 ≤ index && index < 0x0300 && d.supply.phase == .service then .integrator
  else role

/-! ### Which requests are served (R46, R58) -/

/-- What a request is, for the states and ports that serve it: the positions it names, whether a Reader may make it, and whether LIN serves it. -/
structure Asked where
  keys   : List ObjKey
  reader : Bool
  lin    : Bool
  deriving DecidableEq, Repr

/-- The status that the device state or the port gives a request before anything else is tested: 0 where it is served. [log 30: DEDUCED] -/
def Device.gateStatus (d : Device) (c : Caller) (a : Asked) : Nat :=
  if decide (c.rq.port = .lin) && !a.lin then 0x0F
  else if d.supply.phase == .service then
    let inside := fun (k : ObjKey) => keyIndex k < 0x100 || (0x200 ≤ keyIndex k && keyIndex k < 0x300)
    if decide (c.rq.port = .spi) && !a.keys.isEmpty && a.keys.all inside then 0 else 0x0F
  else if d.state == devUpdate then
    if d.vault.romUpdate && !decide (c.rq.port = .spi ∨ c.rq.port = .can) then 0x0F
    else if a.reader || (!a.keys.isEmpty && a.keys.all fun k => updateObject (keyIndex k)) then 0 else 0x0F
  else 0

/-- What a served request leaves: its status, the position it names, the bytes it returns, and the device. -/
structure Reply where
  status   : Nat
  position : Nat
  data     : List Nat
  dev      : Device
  deriving DecidableEq, Repr

/-- An answer without a body. -/
def reply (st : Nat) (d : Device) : Reply := ⟨st, 0, [], d⟩

/-- The answer stands. -/
def Device.answer (d : Device) (r : Reply) : Device :=
  { d with server := { d.server with answer := ⟨r.status, r.position, if r.status == 0 then r.data else []⟩ } }

/-- The answer is given, and an answer other than OK is counted. -/
def Reply.give (r : Reply) : Device := (if r.status == 0 then r.dev else r.dev.inc Ix.DEV_ERR_COUNT).answer r

/-- The server hears nothing: in Sleep, and after a power loss. [log 24: DEDUCED, 30: DEDUCED] -/
def Device.deaf (d : Device) : Bool := d.supply.phase == .asleep || d.supply.phase == .dormant

/-- Courier answers BUSY by itself: before network-ready, and while the Teamster pair restarts (R13, R58). [log 30: DEDUCED] -/
def Device.courierBusy (d : Device) : Bool := d.supply.phase == .held || !d.server.teamster

/-- One request is served (R47): it is counted, tested against state and port, then against its session. [log 30: DEDUCED] -/
def Device.serve (d : Device) (c : Caller) (a : Asked) (f : Role → Device → Reply) : Device :=
  if d.deaf then d
  else if d.courierBusy then d.answer (reply 0x0A d)
  else
    let d1 := d.inc Ix.DEV_REQ_COUNT
    if d1.gateStatus c a != 0 then (reply (d1.gateStatus c a) d1).give
    else match d1.roleOf c with
      | none => (reply 0x0C d1).give
      | some role => (f role d1).give

/-! ### What a read shows (R47) -/

/-- An index of axis `n` as its name for axis 0, and the axis; an index outside the axis blocks as it is. -/
def axisSplit (index : Nat) : Nat × Nat :=
  if 0x1000 ≤ index then (0x1000 + (index - 0x1000) % 0x200, (index - 0x1000) / 0x200) else (index, 0)

/-- Network time at Pacer count `p` (R384): the division rounds toward minus infinity. -/
def Device.netTime (d : Device) (p : Nat) : Nat :=
  let c := d.net.clock
  let dt : Int := (p : Int) - c.pRef
  pat 64 ((c.nRef : Int) + dt + dt * d.rdS 32 Ix.NET_TIME_RATE / (2 ^ 32 : Nat))

/-- A network setting in force since the last reset (R388). -/
def Device.netSetting (d : Device) (index sub : Nat) : Nat := (cellGet d.net.inForce (keyOf index sub)).getD (d.rd index sub)

/-- The pattern a read of an object shows: the value that stands, or what the object reports at the read. [log 35: DEDUCED, 44: DEDUCED] -/
def Device.shown (d : Device) (now : Nat) (role : Role) (index sub : Nat) : Pattern :=
  if index == Ix.PAC_TIME then now
  else if index == Ix.NET_TIME_NOW then d.netTime now
  else if index == Ix.DEV_SESSION_ROLE then role.rank
  else if index == Ix.DEV_AXES_ENABLED then d.enabledMask
  else if index == Ix.STO_OTP_WORD && sub != 0 then d.otpShow sub
  else if index == Ix.GDA_TRIP_ACTIVE then d.tripActive
  else if index == Ix.CNV_LOAD then min 100 (divRne ((d.cnv.starts.filter fun t => now < t + 160000).length * 160 * 100) 8_000_000).toNat
  else if index == Ix.NET_STATUS then
    let lin := d.net.linSeen.any fun t => now < t + 160_000_000
    withBit (withBit (withBit (d.rd index) 7 (d.netSetting Ix.NET_NODE 0 != 0xFFFF)) 6 (!(d.net.ports.toList.getD 3 ⟨[], none, []⟩).wait.isEmpty)) 5 lin
  else d.rd index sub

/-- The record of the trace as a field network sees it (R23): a PENDING record holds only its sequence number and outcome. [log 35: DEDUCED] -/
def traceMarker (b : List Nat) : List Nat :=
  if b.getD 4 0 == 1 then b.take 4 ++ [3, b.getD 5 0] ++ List.replicate (b.length - 6) 0 else b

/-- The bytes of a BLOB or TABLE as a transfer captures them (R54 rule 4): a TABLE's entries from `first`, `count` of them. [log 84: DESIGN CHOICE] -/
def Device.bulk (d : Device) (now : Nat) (c : Caller) (index sub first count : Nat) : List Nat :=
  let (a, n) := axisSplit index
  if index == Ix.TLY_PENDING then d.tally.entries.flatMap fun e => e.bytes now
  else if index == Ix.TLY_LOG then d.logWindow
  else if a == Ix.AX_SC_TRACE then (d.sc n).trace.flatMap fun b => if c.rq.port = .spi then b else traceMarker b
  else match rowOf index sub with
    | some r => match r.access with
      | .wo _ => []
      | _ => match tableSpec index with
        | some _ => entryBytes index (((d.tab index sub).drop first).take count)
        | none => d.tab index sub
    | none => []

/-- A slack object, which a read sets back to its top (Tables 8.12 and 10.8). [log 35: DEDUCED] -/
def slackObject (index : Nat) : Bool := (axisSplit index).1 == Ix.AX_EDP_SLACK || (axisSplit index).1 == Ix.AX_CE_SLACK

/-- A pending-view object (R23). [log 35: DEDUCED] -/
def viewObject (index : Nat) : Bool :=
  let a := (axisSplit index).1
  Ix.AX_SC_VIEW_VD ≤ a && a ≤ Ix.AX_SC_VIEW_IQ_PRED

/-- The status of a position that holds no object (R39). [log 35: DEDUCED] -/
def absentStatus (index : Nat) : Nat := if indexHeld index then 0x02 else 0x01

/-- One object is read: its status, its type code and value bytes, and the device after the read. [log 35: DEDUCED] -/
def Device.readOne (d : Device) (now : Nat) (c : Caller) (role : Role) (staged : Bool) (k : ObjKey) : Nat × List Nat × Device :=
  let index := keyIndex k
  let sub := keySub k
  match rowOf index sub with
  | none => (absentStatus index, [], d)
  | some r =>
    if r.type.isSegmented || (asyObject index && d.bitOf Ix.ASY_STATUS 9) then (0x0F, [], d)
    else if viewObject index && c.rq.port != .spi then (0x0B, [], d)
    else if r.type = .string then (0, r.type.code :: (d.tab index sub).length :: d.tab index sub, d)
    else
      let own := if staged then (d.server.staged.find? fun s => s.owner == c.owner && (cellGet s.values k).isSome).bind fun s => cellGet s.values k else none
      let v := match own with
        | some x => x
        | none => match r.access with
          | .wo _ => 0
          | _ => d.shown now role index sub
      let d1 := if slackObject index && r.type = .i32 then d.wr index sub 0x7FFF_FFFF else d
      (0, r.type.code :: leBytes r.type.size v, d1)

/-- READ. -/
def Device.readReply (d : Device) (now : Nat) (c : Caller) (role : Role) (staged : Bool) (k : ObjKey) : Reply :=
  let (st, bs, d1) := d.readOne now c role staged k
  ⟨st, 0, bs, d1⟩

/-- The entries of a READ_MULTI answer (R372, R383): each with its status, and its type and value where that is OK. -/
def Device.readMany (d : Device) (now : Nat) (c : Caller) (role : Role) (ks : List ObjKey) : List Nat × Device :=
  ks.foldl (fun (x : List Nat × Device) k =>
    let (st, bs, d1) := x.2.readOne now c role false k
    (x.1 ++ st :: (if st == 0 then bs else []), d1)) ([], d)

/-- READ_MULTI of 1 to 16 objects. -/
def Device.readMultiReply (d : Device) (now : Nat) (c : Caller) (role : Role) (ks : List ObjKey) : Reply :=
  if ks.isEmpty || 16 < ks.length then reply 0x11 d
  else
    let (bs, d1) := d.readMany now c role ks
    ⟨0, 0, bs, d1⟩

/-! ### DESCRIBE (R42) -/

/-- The least and the greatest number of a type. -/
def ObjType.bounds (t : ObjType) : Int × Int :=
  match t with
  | .bool => (0, 1)
  | .acc40 => (-(2 ^ 39 : Nat), (2 ^ 39 : Nat) - 1)
  | _ => if t.isSigned then (-(2 ^ (8 * t.size - 1) : Nat), (2 ^ (8 * t.size - 1) : Nat) - 1) else (0, (2 ^ (8 * t.size) : Nat) - 1)

/-- Minimum and maximum of an object; a packed object reports those of its type. [log 35: DEDUCED] -/
def ObjRow.bounds (r : ObjRow) : Int × Int :=
  match r.range with
  | .within ((lo, hi) :: rest) => rest.foldl (fun (b : Int × Int) p => (min b.1 p.1, max b.2 p.2)) (lo, hi)
  | _ => r.type.bounds

/-- The attributes of an object as DESCRIBE returns them. [log 35: DEDUCED] -/
def describeBytes (r : ObjRow) (index sub : Nat) : List Nat :=
  let writer := match r.access.writer with
    | some w => w.rank
    | none => 0xFF
  let head := [r.type.code, 0, writer, r.cls.code, if r.persistent then 1 else 0]
  let n := r.type.size
  let values := if n == 0 then [] else leBytes n (defaultAt index sub) ++ leBytes n (pat (8 * n) r.bounds.1) ++ leBytes n (pat (8 * n) r.bounds.2)
  let entries := match tableSpec index with
    | some (t, count, _) => if r.type = .table then t.code :: leBytes 2 count else []
    | none => []
  head ++ values ++ entries

/-- DESCRIBE. -/
def Device.describeReply (d : Device) (k : ObjKey) : Reply :=
  match rowOf (keyIndex k) (keySub k) with
  | none => reply (absentStatus (keyIndex k)) d
  | some r =>
    if asyObject (keyIndex k) && d.bitOf Ix.ASY_STATUS 9 then reply 0x0F d
    else ⟨0, 0, describeBytes r (keyIndex k) (keySub k), d⟩

end Sys2Proof.Machine
end

