-- ==== Sys2Proof/Machine/Accept.lean ====
section
/-! DEFINITION. What an accepted write of a Live or Frozen object does besides taking the value (R48, R51), block by block, and how a refused write is recorded and reported (R53). -/

namespace Sys2Proof.Machine

/-! ### Refusals (R52, R53) -/

/-- A refused write: its status, the object and the failing condition that `DEV_LAST_REJECT` names, source and detail of the fault message, and the commit object that reads 2 from then on, 0 for none. -/
structure Refused where
  status : Nat
  index  : Nat
  sub    : Nat
  cond   : Nat
  source : Nat
  detail : Nat
  mark   : Nat
  deriving DecidableEq, Repr

/-- The source byte of the subsystem that owns an object, with the axis or unit as instance (R53 and the kind 0x0A rows of the fault tables). [log 27: DEDUCED] -/
def sourceOf (index sub : Nat) : Nat :=
  let (a, n) := axisSplit index
  if 0x1000 ≤ index then
    if a < 0x1020 then srcByte 8 n else if a < 0x1040 then 0x01 else if a < 0x1080 then srcByte 5 n
    else if a < 0x10C0 then srcByte 9 n else if a < 0x1100 then srcByte 8 n else if a < 0x1140 then srcByte 0xA n
    else if a < 0x1180 || a == Ix.AX_FE_SINE then srcByte 9 n else srcByte 8 n
  else if index < 0x60 then 0x01
  else if index < 0x100 then 0x30
  else if index < 0x180 then 0x10
  else if index < 0x200 then 0x20
  else if index < 0x220 then 0xE1
  else if index < 0x300 then 0xE0
  else if index < 0x400 then 0xC2
  else if index < 0x500 then 0xF0
  else if index < 0x600 then 0xD4
  else if index < 0x700 then 0x47
  else if index < 0x800 then 0x78
  else if index < 0x900 then 0x68
  else if index < 0xA00 then 0x0D
  else if index < 0xB00 then (if 0xA10 ≤ index then 0xB3 else srcByte 0xB (sub - 1))
  else 0xA8

/-- A refusal that names the object written. -/
def refusal (st index sub : Nat) : Refused := ⟨st, index, sub, 0, sourceOf index sub, index, 0⟩

/-- Statuses that post kind 0x0A and stand in `DEV_LAST_REJECT`: RANGE, FROZEN, COMMIT_REJECTED (Table 3.5). [log 31: DEDUCED] -/
def rejecting (st : Nat) : Bool := st == 0x04 || st == 0x07 || st == 0x08

/-- The Tally's own objects post nothing (R334). -/
def tallyObject (index : Nat) : Bool := 0x300 ≤ index && index < 0x380

/-- A refused write is recorded and reported (R53); a refused clear of the Hobble latch is counted (R133), and a rejected commit reads 2 (R50). [log 27: DEDUCED, 31: DEDUCED] -/
def Device.rejected (d : Device) (now session : Nat) (r : Refused) : Device :=
  let d1 :=
    if rejecting r.status then
      (d.lastReject r.index r.sub r.cond r.status session).postIf (!tallyObject r.index) now r.source 0x0A r.detail
    else d
  let d2 := if r.status == 0x10 && r.index == Ix.GDA_TRIP_CLEAR then d1.inc Ix.GDA_CLEAR_REFUSED_COUNT else d1
  if r.mark == 0 then d2 else d2.wr r.mark 0 2

/-- What a write comes to: refused, or accepted with the device it leaves. -/
abbrev Written : Type := Except Refused Device

/-- Accepted where the status is 0. -/
def accepted (st index sub : Nat) (d : Device) : Written := if st == 0 then .ok d else .error (refusal st index sub)

/-! ### Clearing (R30, Table 3.4) -/

/-- The one value that an object with clear access accepts. -/
def clearingValue (index : Nat) : Nat := if index == Ix.THM_PEAK then 0x8000 else 0

/-- The bits of a status object that writing 0 clears, by its name for axis 0; the others stay. -/
def clearedBits (a : Nat) : Option (List Nat) :=
  if a == Ix.AX_EDP_STATUS then some [0, 1, 2, 3]
  else if a == Ix.CNV_STATUS then some [4, 5]
  else if a == Ix.AX_CE_STATUS then some [3, 4]
  else if a == Ix.AX_CE_SLOT_STATUS then some [1, 2, 3]
  else if a == Ix.AX_SC_STATUS then some [1, 2, 3, 4]
  else if a == Ix.AX_FE_STATUS then some [1, 4, 7, 8]
  else if a == Ix.AX_ST_STATUS then some [1, 2, 3, 4, 5, 6, 7, 8]
  else if a == Ix.AX_PRF_STATUS then some [8, 9, 10, 11]
  else if a == Ix.INT_STATUS then some [4]
  else if a == Ix.SVC_STATUS then some [2, 3, 4, 6]
  else if a == Ix.THM_STATUS then some [6]
  else if a == Ix.ASY_STATUS then some [8]
  else if a == Ix.NET_STATUS then some [10]
  else none

/-- `AXn_SAT` is the OR of the blocks' SAT flags (Table 2.5). -/
def Device.resat (d : Device) (n : Nat) : Device :=
  let slot := fun (s : Nat) => bit (d.rdA Ix.AX_CE_SLOT_STATUS n (s + 1)) 1
  d.wrA Ix.AX_SAT n 0 (bitIf (slot 0 || slot 1) 0 + bitIf (slot 2 || slot 3) 1 + bitIf (slot 4 || slot 5) 2
    + bitIf (d.bitOfA Ix.AX_FE_STATUS n 1) 3 + bitIf (d.bitOfA Ix.AX_SC_STATUS n 3) 4
    + bitIf (d.bitOfA Ix.AX_EDP_STATUS n 2 || (d.edpOf n).limited) 5 + bitIf (d.bitOfA Ix.AX_PRF_STATUS n 10) 6)

/-- A write of 0 to `AXn_SAT` clears every SAT flag of every block of the axis (R30). -/
def Device.clearSat (d : Device) (n : Nat) : Device :=
  let d1 := (List.range 6).foldl (fun (e : Device) s => e.wrBitA Ix.AX_CE_SLOT_STATUS n (s + 1) 1 false) d
  let d2 := ((d1.wrBitA Ix.AX_FE_STATUS n 0 1 false).wrBitA Ix.AX_SC_STATUS n 0 3 false).wrBitA Ix.AX_EDP_STATUS n 0 2 false
  ((d2.wrBitA Ix.AX_PRF_STATUS n 0 10 false).onEdp n fun e => { e with limited := false }).resat n

/-- An object with clear access is cleared. -/
def Device.cleared (d : Device) (index sub : Nat) : Device :=
  let (a, n) := axisSplit index
  if a == Ix.AX_SAT then d.clearSat n
  else if index == Ix.TLY_FIRST then d.firstClear
  else match clearedBits a with
    | some ks =>
      let d1 := d.wr index sub (clearBits (d.rd index sub) ks)
      if index == Ix.NET_STATUS then { d1 with net := { d1.net with conflict := [] } }
      else if a == Ix.AX_EDP_STATUS then (d1.onEdp n fun e => { e with limited := false }).resat n
      else if 0x1000 ≤ index then d1.resat n else d1
    | none => d.wr index sub (clearingValue index)

/-! ### Supplies, storage and legs -/

/-- `PAC_SOURCE` and the objects of supplies, resets and pace (R20, R76, R82 to R86). -/
def Device.writeSupply (d : Device) (index sub v : Nat) : Written :=
  let d1 := d.wr index sub v
  if index == Ix.PAC_SOURCE then .ok d1.pacSource
  else if index == Ix.SUP_VBAT_NOMINAL then .ok d1.rebaseAll
  else if index == Ix.SUP_RESET then .ok (d.deviceReset 3)
  else if index == Ix.SUP_PACE_REQ then
    if d.supply.phase == .service then .error (refusal 0x0F index sub)
    else if v == 0 && d.supply.paceTarget.isNone && d.tooFastForWalk then .error (refusal 0x04 index sub)
    else if v == 2 && d.gallopBarred then .error (refusal 0x0F index sub)
    else .ok (d.requestPace v)
  else if index == Ix.SUP_SLEEP then accepted d.sleepStatus index sub d.sleep
  else if index == Ix.SUP_BOOT_BANK_PREF then
    if d.bankOk v then
      let boot := { d.boot with preferred := if v == 1 then 1 else 0, trial := false }
      .ok ({ d with boot := boot, supply := { d.supply with trialRunning := false } }).showBoot
    else .error (refusal 0x04 index sub)
  else .ok d1

/-- The OTP commands: 1 PROGRAM, 2 SEAL, 3 LOCK, 4 LOCK_VOID (R103 to R105). -/
def Device.otpCommand (d : Device) (cmd : Nat) : Written :=
  let ix := Ix.STO_OTP_PROG_CMD
  if d.otpGate != 0 then .error (refusal d.otpGate ix 0)
  else if cmd == 1 then accepted (if d.programBad then 0x04 else 0) ix 0 d.programStart
  else if cmd == 2 then accepted (if d.sealBad then 0x04 else 0) ix 0 d.sealStart
  else if cmd == 3 then accepted (if d.lockBad then 0x04 else 0) ix 0 d.lockStart.showVault
  else accepted (if d.lockVoidBad then 0x04 else 0) ix 0 d.lockStart.showVault

/-- The objects of OTP and the Ledger (R55, R103). -/
def Device.writeStorage (d : Device) (index sub v : Nat) : Written :=
  if index == Ix.STO_POST then accepted d.postStatus index sub d.postStart
  else if index == Ix.STO_OTP_PROG_CMD then d.otpCommand v
  else .ok (d.wr index sub v)

/-- The gate driver array (R130, R133): its settings travel to the Saddle over the Girth link (R6). -/
def Device.writeLegs (d : Device) (now index sub v : Nat) : Written :=
  if index == Ix.GDA_TRIP_CLEAR then accepted (d.tripClearStatus v) index sub (d.tripClear v)
  else if index == Ix.GDA_HOBBLE_CMD then .ok ((d.wr index sub v).hobbleRise now d.hobbleWire)
  else .ok (d.wr index sub v).sendRegWrite

/-! ### Conversion, control, field, generators -/

/-- The conversion pool: bursts and calibration (R176, R178). -/
def Device.writePool (d : Device) (now index sub v : Nat) : Written :=
  if index == Ix.CNV_CAL_CHAN then .ok (d.wr index sub v).calReset
  else if index == Ix.CNV_CAL_CMD then
    accepted (d.calStatus v) index sub (if v == 3 then d.calApply else d.calStart now v)
  else if index == Ix.CNV_IL_CMD then
    if v == 1 then accepted (d.burstStatus now) index sub (d.burstArm now)
    else .ok (if d.bitOf Ix.CNV_STATUS 0 then d.burstAbort now else d)
  else .ok (d.wr index sub v)

/-- A write of the other bank's number to `AXn_CE_BANK_SEL` is tested against conditions 3 to 7 of R198 over the inactive bank (R200). -/
def Device.bankConds (d : Device) (n : Nat) : List Bool :=
  let other := if d.bankNo n == 1 then (d.ce n).bankA else (d.ce n).bankB
  (ceConds d (d.withBank n other) n).drop 2

/-- `AXn_CE_BANK_SEL` (R199, R200). [log 45: DEDUCED] -/
def Device.bankSelect (d : Device) (n v : Nat) : Written :=
  let ix := axIx Ix.AX_CE_BANK_SEL n
  if d.swapPending n then .error (refusal 0x0A ix 0)
  else if v == d.bankNo n then .ok d
  else match firstFailing (d.bankConds n) with
    | some k => .error ⟨0x08, ix, 0, k + 2, srcByte 8 n, ix, 0⟩
    | none => .ok (if d.countsEnabled n then d.requestSwap n else (d.requestSwap n).rederive n)

/-- The control engine's own objects (R195, R200, R211). -/
def Device.writeControl (d : Device) (a n sub v : Nat) : Written :=
  let ix := axIx a n
  if a == Ix.AX_CE_MANUAL then .ok (d.manualWrite n (sub - 1) (sgn 16 v))
  else if a == Ix.AX_CE_BANK_SEL then d.bankSelect n v
  else if a == Ix.AX_SC_PREDICT && v == 1 && d.countsEnabled n && (d.modeOf n 0 != 0 || d.modeOf n 1 != 0)
      && !(d.withBank n (d.bank n)).modelUsable n then .error (refusal 0x04 ix sub)
  else if a == Ix.AX_SC_TRACE_CFG then
    let fresh := bit v 0 && !bit (d.rd ix) 0
    let d1 := d.wr ix sub v
    .ok (if fresh then (d1.onSc n fun s => { s with trace := [], left := none }).wrBitA Ix.AX_SC_STATUS n 0 0 false else d1)
  else .ok (d.wr ix sub v)

/-- `AXn_FE_POSITION` is preset at the next hold, or at once where the axis is disabled (R248). [log 55: DEDUCED] -/
def Device.presetPosition (d : Device) (n v : Nat) : Device :=
  let d1 := d.wrA Ix.AX_FE_POSITION n 0 v
  if d.countsEnabled n then d1.onFe n fun f => { f with preset := some v }
  else d1.onFe n fun f => { f with preset := none, count := if d.rdA Ix.AX_FE_ANGLE_SRC n == 2 then v else f.count }

/-- `AXn_PRF_CMD`: 1 PUSH, 2 FLUSH, 3 QUICK_STOP, 4 HOME (R284, R285). -/
def Device.profileCommand (d : Device) (now n cmd : Nat) : Written :=
  let ix := axIx Ix.AX_PRF_CMD n
  if cmd == 1 then accepted (d.pushStatus n) ix 0 (d.push n)
  else if cmd == 2 then .ok (d.flush now n)
  else if cmd == 3 then .ok (d.quickStop now n)
  else accepted (d.homeStatus n) ix 0 (d.homeStart now n true)

/-- `INT_CMD`: 1 PUSH, 2 FLUSH, 3 QUICK_STOP (R293, R294). -/
def Device.groupCommand (d : Device) (now cmd : Nat) : Written :=
  if cmd == 1 then accepted (d.groupStatus d.heldGroup) Ix.INT_CMD 0 (d.groupPush d.heldGroup)
  else .ok (d.groupFlush now (cmd == 3))

/-! ### Services, Tally, axes, assay -/

/-- The services' objects (R301, R308, R310, R313). -/
def Device.writeService (d : Device) (now index sub v : Nat) : Written :=
  if index == Ix.SVC_CMD then
    if v == 1 then accepted (d.runStatus (sub - 1)) index sub (d.svcRun now (sub - 1))
    else accepted (if d.svcState (sub - 1) == 0 then 0x0F else 0) index sub (d.svcStop now (sub - 1))
  else if index == Ix.SVC_SEAT_CMD then
    let op := field v 15 12
    let k := field v 11 8
    accepted (d.seatStatus op k) index sub (d.seatCommand now op k (v % 2 == 0))
  else if index == Ix.SVC_TEMP_EXT then .ok { (d.wr index sub v) with extAge := d.extAge.setIfInBounds (sub - 1) 0 }
  else if Ix.SVC_FLAP ≤ index && index < Ix.SVC_FLAP + 8 && sub == 1
      && (sgn 32 v < d.rdS 32 index 2 || d.rdS 32 index 3 < sgn 32 v) then .error (refusal 0x04 index sub)
  else .ok (d.wr index sub v)

/-- ENABLE (R341): a failing check of Table 17.4a is a COMMIT_REJECTED that names `AXn_CMD`. -/
def Device.enableWrite (d : Device) (now n : Nat) : Written :=
  let ix := axIx Ix.AX_CMD n
  let r := d.enableAxis now n 0
  if r.1 == 0 then .ok r.2
  else if r.1 == 0x08 then
    match d.enableChecks n |>.findIdx? fun c => !c.1 with
    | some i =>
      let c := (d.enableChecks n).getD i (true, 0, 0)
      .error ⟨0x08, ix, 0, i + 1, c.2.1, c.2.2, 0⟩
    | none => .error (refusal 0x08 ix 0)
  else .error (refusal r.1 ix 0)

/-- Axis state objects (R341, R342). -/
def Device.writeAxis (d : Device) (now a n sub v : Nat) : Written :=
  let ix := axIx a n
  if a == Ix.AX_CMD then (if v == 1 then d.enableWrite now n else .ok (d.disableAxis now n))
  else if a == Ix.AX_SAFE_STATE && v == 2 && d.axisType n != 2 then .error (refusal 0x04 ix sub)
  else .ok (d.wr ix sub v)

/-- The Tally's objects (R340, R344, R345, R348). -/
def Device.writeTally (d : Device) (now index sub v : Nat) : Written :=
  if index == Ix.TLY_ACK then .ok (d.ackWrite now v)
  else if index == Ix.TLY_SAFE_RELEASE then accepted (if d.safeRefused then 0x10 else 0) index sub d.safeRelease
  else if index == Ix.TLY_ERRN_RELEASE then
    accepted (if d.releasable then 0 else 0x10) index sub { d with tally := { d.tally with errnLow := false } }
  else if index == Ix.TLY_INJECT then
    accepted (if d.vault.farrier then 0 else 0x0F) index sub
      { d with tally := { d.tally with inbox := d.tally.inbox ++ [⟨now, v, true⟩] } }
  else .ok (d.wr index sub v)

/-- The objects of assay unit 3 (R356, R362, R367). -/
def Device.writeAssay (d : Device) (index sub v : Nat) : Written :=
  if index == Ix.ASY_PRESET then .ok (d.asyPreset v)
  else if index == Ix.ASY_RESTART then .ok d.asyRestart
  else if index == Ix.ASY_SCAN_CMD then accepted (d.scanStatus v) index sub (d.scanCommand v)
  else if !d.asyFits index v then .error (refusal 0x04 index sub)
  else if index == Ix.ASY_RUNNING then .ok (d.setRunning v)
  else if Ix.ASY_WIDTH ≤ index && index ≤ Ix.ASY_XOROUT then .ok (d.asyParam index v)
  else .ok (d.wr index sub v)

/-! ### The Vault -/

/-- The firmware update commands: 1 START, 2 VERIFY, 3 ACTIVATE, 4 ABORT (R408). -/
def Device.updateCommand (d : Device) (o : Owner) (cmd : Nat) : Written :=
  let ix := Ix.VLT_UPD_CMD
  if cmd == 1 then accepted d.updStartStatus ix 0 (d.updStart o)
  else if cmd == 2 then accepted d.updVerify.1 ix 0 d.updVerify.2
  else if cmd == 3 then accepted d.activateStatus ix 0 (d.updActivate.deviceReset 7)
  else if d.updating then .ok d.updAbort else .error (refusal 0x0F ix 0)

/-- `VLT_UPD_BLOCK`: .01 takes the offset, .02 to .10 a word each at the offset and after it (R408 rule 2). -/
def Device.updateBlock (d : Device) (sub v : Nat) : Written :=
  let ix := Ix.VLT_UPD_BLOCK
  if sub == 1 then
    let (st, _) := d.updBlock v []
    accepted st ix sub (d.wr ix 1 v)
  else
    let (st, d1) := d.updBlock (d.rd ix 1 + 8 * (sub - 2)) [v]
    accepted st ix sub d1

/-- The Vault's objects that take a value (R397, R401, R408, R410). -/
def Device.writeVault (d : Device) (now : Nat) (o : Owner) (index sub v : Nat) : Written :=
  if index == Ix.VLT_LIFECYCLE_CONFIRM then .ok (d.confirm now o v)
  else if index == Ix.VLT_LIFECYCLE_CMD then accepted (d.lifecycleStatus now o v) index sub ((d.lifecycleAct now v).deviceReset 8)
  else if index == Ix.VLT_TAMPER_LEVEL then
    accepted (if v < d.tamperFloor (sub - 1) then 0x04 else 0) index sub (d.wr index sub v).showVault
  else if index == Ix.VLT_KEY_DELETE then accepted (d.keyDelete v).1 index sub (d.keyDelete v).2
  else if index == Ix.VLT_UPD_CMD then d.updateCommand o v
  else if index == Ix.VLT_UPD_BLOCK then d.updateBlock sub v
  else .ok (d.wr index sub v)

/-! ### Defaults (R57) -/

/-- A position that `DEV_RESTORE_DEFAULTS` sets to its default: persistent, and outside 0x0200 to 0x02FF, 0x0400 to 0x04FF and 0x0500 to 0x05FF. [log 28: DESIGN CHOICE] -/
def restorable (k : ObjKey) : Bool :=
  let index := keyIndex k
  !(0x200 ≤ index && index < 0x300) && !(0x400 ≤ index && index < 0x600) && match rowAt index (keySub k) with
    | some r => r.persistent
    | none => false

/-- Every block takes the accepted values as they stand, with every axis disabled: bases, derived values, both banks, the generators' and procedures' settings, pins, reins, thermal settings, services, the interpolator and the legs. [log 28: DESIGN CHOICE] -/
def Device.retake (d was : Device) : Device :=
  let d1 := d.bootHitch.rebaseAll
  let d2 := axes.foldl (fun (e : Device) n =>
    let b := e.ceSnapshot n
    (((e.onCe n fun c => { c with bankA := b, bankB := b }).showModelG n b).takeSt n).takePrf n) d1
  (d2.rederiveAll.showOwners.applyRein.applyThm.applyInt.applySvc was).pacSource.sendRegWrite

/-- `DEV_RESTORE_DEFAULTS` (R57). [log 28: DESIGN CHOICE] -/
def Device.restoreDefaults (d : Device) : Device :=
  let d1 := { d with
    objs := d.objs.filter fun x => !restorable x.1
    tabs := d.tabs.filter fun x => !restorable x.1
    server := { d.server with staged := [] } }
  d1.retake d

/-! ### All Live and Frozen objects -/

/-- A write that its type, role, range and class allow takes effect (R48, R51). -/
def Device.takeWrite (d : Device) (now : Nat) (o : Owner) (index sub v : Nat) : Written :=
  let (a, n) := axisSplit index
  if 0x1000 ≤ index then
    if a < 0x1040 then d.writeAxis now a n sub v
    else if a == Ix.AX_EDP_MODE then .ok ((d.wr index sub v).wrBitA Ix.AX_EDP_STATUS n 0 5 (v == 1))
    else if a < 0x1080 then .ok (d.wr index sub v)
    else if a == Ix.AX_FE_POSITION then .ok (d.presetPosition n v)
    else if 0x10C0 ≤ a && a < 0x1100 then d.writeControl a n sub v
    else if a == Ix.AX_PRF_CMD then d.profileCommand now n v
    else if a == Ix.AX_ST_CMD then .ok (d.startCommand now n v)
    else .ok (d.wr index sub v)
  else if index == Ix.DEV_RESTORE_DEFAULTS then .ok d.restoreDefaults
  else if index < 0x200 then d.writeSupply index sub v
  else if index < 0x300 then d.writeStorage index sub v
  else if index < 0x380 then d.writeTally now index sub v
  else if index < 0x400 then .ok (d.wr index sub v)
  else if index < 0x500 then d.writeVault now o index sub v
  else if index < 0x600 then .ok (d.wr index sub v)
  else if index < 0x700 then d.writeLegs now index sub v
  else if index < 0x800 then d.writePool now index sub v
  else if index < 0x900 then .ok (d.wr index sub v)
  else if index < 0xA00 then d.writeService now index sub v
  else if index < 0xB00 then d.writeAssay index sub v
  else if index == Ix.INT_CMD then d.groupCommand now v
  else .ok (d.wr index sub v)

end Sys2Proof.Machine
end

