-- ==== Sys2Proof/Machine/Commit.lean ====
section
/-! DEFINITION. Staged sets and their commits (R49, R50, R388), the checks of one write (R47), WRITE_MULTI, and the writes that a segmented transfer makes (R54). -/

namespace Sys2Proof.Machine

/-! ### Blocks -/

/-- The block of axis `n` that `f` makes. -/
def axisBlock (f : Fin 8 → Block) (n : Nat) : Option Block := if h : n < 8 then some (f ⟨n, h⟩) else none

/-- The block that a Staged object belongs to. -/
def blockOf (index : Nat) : Option Block :=
  let (a, n) := axisSplit index
  if 0x1000 ≤ index then
    if a < 0x1020 then axisBlock .base n else if a < 0x1080 then axisBlock .edp n else if a < 0x10C0 then axisBlock .fe n
    else if a < 0x1100 then axisBlock .ce n else if a < 0x1140 then axisBlock .prf n else if a < 0x1180 then axisBlock .st n
    else axisBlock .ce n
  else if index < 0x400 then some .thm
  else if index < 0x600 then some .net
  else if index < 0x700 then some .hitch
  else if index < 0x800 then some .frontEnd
  else if index < 0x900 then some .rein
  else if index < 0xA00 then some .svc
  else some .interp

/-- The commit object of a block. -/
def Block.commit : Block → Nat
  | .base n => axIx Ix.AX_BASE_COMMIT n
  | .hitch => Ix.GDA_HITCH_COMMIT
  | .edp n => axIx Ix.AX_EDP_COMMIT n
  | .frontEnd => Ix.CNV_FE_COMMIT
  | .ce n => axIx Ix.AX_CE_COMMIT n
  | .fe n => axIx Ix.AX_FE_COMMIT n
  | .st n => axIx Ix.AX_ST_COMMIT n
  | .prf n => axIx Ix.AX_PRF_COMMIT n
  | .interp => Ix.INT_COMMIT
  | .svc => Ix.SVC_COMMIT
  | .rein => Ix.REIN_COMMIT
  | .thm => Ix.THM_COMMIT
  | .net => Ix.NET_COMMIT

/-- The block that a commit object commits; none for every other object. -/
def commitOf (index : Nat) : Option Block := (blockOf index).filter fun b => b.commit == index

/-! ### The commit rule of the networks (R388) -/

/-- A stream's object list names only objects that a NOTIFY can carry: each exists, is no pending-view object, and is no BLOB or TABLE. -/
def streamObject (v : Nat) : Bool :=
  v < 2 ^ 24 && match rowOf (keyIndex v) (keySub v) with
    | some r => !r.type.isSegmented && !viewObject (keyIndex v)
    | none => false

/-- The objects that stream `k` names. -/
def Device.streamKeys (m : Device) (k : Nat) : List ObjKey :=
  ((List.range 8).map fun i => m.rd (Ix.NET_STREAM + k) (i + 7)).filter fun v => v != 0xFFFF_FFFF

/-- The bits of ROLE go together (R385): bit 1 excludes bits 0 and 2. -/
def netRoleOk (role : Nat) : Bool := role < 8 && !(bit role 1 && (bit role 0 || bit role 2))

/-- The conditions of R388, in order. -/
def netConds (m : Device) : List Bool :=
  let groups := ((List.range 8).map fun i => m.rd Ix.NET_GROUP (i + 1)).filter fun g => g != 0xFFFF
  let role := m.rd Ix.NET_TIME 1
  let en := m.rd Ix.NET_PORT_EN
  let plca := m.rd Ix.NET_T1S 2
  [ true,
    groups.Nodup && groups.all fun g => g != m.rd Ix.NET_NODE && g != 0x3FFF,
    netRoleOk role && (!bit role 0 || bit en 0) && (!(bit role 1 || bit role 2) || bit en 1),
    plca == 0xFF || plca < m.rd Ix.NET_T1S 3,
    (List.range 8).all fun k =>
      m.rd (Ix.NET_STREAM + k) 1 == 0
        || (bit en (m.rd (Ix.NET_STREAM + k) 2) && !(m.streamKeys k).isEmpty && (m.streamKeys k).all streamObject) ]

/-- The parts of the network set that apply at once: whether the device sends KLP sync (R385, R388), and the end-to-end streams that open, each with 8 datagrams of FORM 0x00 to go (R360). -/
def Device.applyNet (d was : Device) : Device :=
  let opens := fun (k : Nat) => d.rd (Ix.NET_STREAM + k) 1 != 0 && bit (d.rd (Ix.NET_STREAM + k) 5) 0
    && !(was.rd (Ix.NET_STREAM + k) 1 != 0 && bit (was.rd (Ix.NET_STREAM + k) 5) 0)
  let d1 := d.wrBit Ix.NET_STATUS 0 9 (bit (d.rd Ix.NET_TIME 1) 2)
  { d1 with net := { d1.net with
      senders := d1.net.senders.zipIdx.map fun (x : E2eSender × Nat) => if opens x.2 then ⟨0, 8⟩ else x.1 } }

/-! ### Commits (R50) -/

/-- The conditions of a block's commit rule over the present device and the merged set. -/
def Block.conds : Block → Device → Device → List Bool
  | .base n, d, m => baseConds d m n
  | .hitch, d, m => hitchConds d m
  | .edp n, d, m => edpConds d m n
  | .frontEnd, d, m => feConds d m
  | .ce n, d, m => ceConds d m n
  | .fe n, d, m => axFeConds d m n
  | .st n, d, m => stConds d m n
  | .prf n, d, m => prfConds d m n
  | .interp, d, m => intConds d m
  | .svc, d, m => svcConds d m
  | .rein, d, m => reinConds d m
  | .thm, d, m => thmConds d m
  | .net, _, m => netConds m

/-- What a block does with the merged set `m` beside holding its values; `was` is the device before the commit. -/
def Block.apply : Block → Device → Device → Device
  | .base n, _, m => (m.rebase n).rederive n
  | .hitch, _, m => m.applyHitch.rebaseAll.rederiveAll.sendRegWrite
  | .edp n, _, m => if (m.edpOf n).running then m.edpRenew n else (m.rebase n).rederive n
  | .frontEnd, _, m => m.rebaseAll.sendRegWrite
  | .ce n, was, m => (m.commitBank n ((was.stagedOf (.ce n)).any fun s => s.writesOrigin n)).rederive n
  | .fe n, was, m => (m.applyFe n was).showOwners
  | .st n, _, m => m.applySt n
  | .prf n, _, m => m.applyPrf n
  | .interp, _, m => m.applyInt
  | .svc, was, m => m.applySvc was
  | .rein, _, m => m.applyRein
  | .thm, _, m => m.applyThm
  | .net, was, m => m.applyNet was

/-- The one staged object that a failing condition concerns, where it concerns exactly one (R53); every other rejection names the commit object. [log 31: DEDUCED] -/
def Block.named (b : Block) (k : Nat) (m : Device) : Option (Nat × Nat) :=
  match b, k with
  | .ce n, 1 => some (axIx Ix.AX_CE_DIV n, if m.rdA Ix.AX_CE_DIV n 1 != 1 then 1 else 2)
  | .ce n, 2 => if m.rdAS 16 Ix.AX_CE_I_LIMIT n ≤ 0 then some (axIx Ix.AX_CE_I_LIMIT n, 0) else none
  | .ce n, 3 => (slots.find? fun s => !(refAllowed s (m.srcOf n s).1 && fbCode s (m.srcOf n s).2)).map fun s => (axIx Ix.AX_CE_SRC n, s + 1)
  | .fe n, 2 => some (axIx Ix.AX_FE_HALL_MAP n, 0)
  | .fe n, 4 =>
    let pins := m.posPins n
    if pins.all (· < 16) && pins.Nodup then none else some (axIx Ix.AX_FE_POS_PINS n, 0)
  | .fe n, 5 => some (axIx Ix.AX_FE_HALL_MAP n, 0)
  | .interp, 1 => some (Ix.INT_GROUP, 0)
  | .thm, 5 => (((List.range 8).find? fun k => m.extRole (k + 10) == 2 && m.extAxes (k + 10) != 0)).map fun k => (Ix.THM_EXT_CFG, k + 1)
  | .net, 3 => if netRoleOk (m.rd Ix.NET_TIME 1) then none else some (Ix.NET_TIME, 1)
  | _, _ => none

/-- A failed commit (R50 rule 4). [log 31: DEDUCED] -/
def Block.refused (b : Block) (k : Nat) (m : Device) : Refused :=
  let (index, sub) := (b.named k m).getD (b.commit, 0)
  ⟨0x08, index, sub, k, sourceOf b.commit 0, index, b.commit⟩

/-- A write to a commit object: 1 commits, 2 discards (R50). While a swap of the control engine's banks is pending or its bank is being written, a commit is answered BUSY (R199). [log 31: DEDUCED, 32: DEDUCED] -/
def Device.commit (d : Device) (o : Owner) (b : Block) (v : Nat) : Written :=
  match d.stagedOf b with
  | none => .ok d
  | some s =>
    if s.owner != o then .error (refusal 0x09 b.commit 0)
    else if v == 2 then .ok (d.dropStaged b)
    else
      let busy := match b with
        | .ce n => d.swapPending n
        | _ => false
      let m := d.merge s
      if busy then .error (refusal 0x0A b.commit 0)
      else match firstFailing (b.conds d m) with
        | some k => .error (b.refused k m)
        | none => .ok ((b.apply d (m.dropStaged b)).wr b.commit 0 1)

/-! ### Staged writes (R49) -/

/-- The staged set of a block takes a change: it is begun by the first write into it. [log 32: DEDUCED] -/
def Device.stage (d : Device) (o : Owner) (index : Nat) (f : StagedSet → StagedSet) (sub : Nat) : Written :=
  match blockOf index with
  | none => .error (refusal 0x0F index sub)
  | some b =>
    match d.stagedOf b with
    | some s =>
      if s.owner != o then .error (refusal 0x09 index sub)
      else .ok { d with server := { d.server with staged := d.server.staged.map fun (x : StagedSet) => if x.block == b then f x else x } }
    | none => .ok { d with server := { d.server with staged := d.server.staged ++ [f ⟨b, o, [], []⟩] } }

/-! ### One write (R47, R51) -/

/-- The block that a Frozen class names is enabled; a SAFE axis counts as enabled (R51). -/
def Device.frozenShut (d : Device) (r : ObjRow) (index sub : Nat) : Bool :=
  match r.frozen with
  | .none => false
  | .allAxes => !d.allDisabled
  | .axisN => d.countsEnabled (axisSplit index).2
  | .owningAxis => d.legOwner (sub - 1) < 8 && d.countsEnabled (d.legOwner (sub - 1))

/-- What stands in the way of a write before its value is looked at: its status, 0 for nothing. `scanAbort` marks the one write that a running scan lets through (R367). [log 29: DEDUCED] -/
def Device.writeBar (d : Device) (c : Caller) (role : Role) (r : ObjRow) (index sub : Nat) (scanAbort : Bool) : Nat :=
  match r.access.writer with
  | none => 0x06
  | some need =>
    if !(d.writeRole c role index).holds need then 0x05
    else if d.ownedByService (keyOf index sub) then 0x0F
    else if asyObject index && d.bitOf Ix.ASY_STATUS 9 then 0x0F
    else if asyObject index && d.scanning && !scanAbort then 0x0A
    else 0

/-- The length a value must have: a STRING's length byte counts the bytes that follow it (R41). [log 29: DEDUCED] -/
def lengthOk (t : ObjType) (bs : List Nat) : Bool :=
  match t with
  | .string => match bs with
    | n :: rest => n ≤ 64 && rest.length == n
    | [] => false
  | _ => bs.length == t.size

/-- The value is one the object accepts; an object with clear access accepts its clearing value alone. -/
def ObjRow.takes (r : ObjRow) (index v : Nat) : Bool :=
  match r.access with
  | .clr _ => v == clearingValue index
  | _ => r.accepts v

/-- A value that every check of length, role, access and range let through is taken under the object's class. -/
def Device.classWrite (d : Device) (now : Nat) (c : Caller) (r : ObjRow) (index sub v : Nat) : Written :=
  match r.cls with
  | .dash => .error (refusal 0x06 index sub)
  | .staged => d.stage c.owner index (fun s => { s with values := cellPut s.values (keyOf index sub) v }) sub
  | _ =>
    if d.frozenShut r index sub then .error (refusal 0x07 index sub)
    else match commitOf index with
      | some b => d.commit c.owner b v
      | none => match r.access with
        | .clr _ => .ok (d.cleared index sub)
        | _ => d.takeWrite now c.owner index sub v

/-- One write of one object: length, role, access, range, class, in this order (R47). [log 29: DEDUCED] -/
def Device.writeOne (d : Device) (now : Nat) (c : Caller) (role : Role) (k : ObjKey) (bs : List Nat) : Written :=
  let index := keyIndex k
  let sub := keySub k
  match rowOf index sub with
  | none => .error (refusal (absentStatus index) index sub)
  | some r =>
    let v := leNat bs
    if r.type.isSegmented then .error (refusal 0x0F index sub)
    else if !lengthOk r.type bs then .error (refusal 0x03 index sub)
    else
      let bar := d.writeBar c role r index sub (index == Ix.ASY_SCAN_CMD && v == 4)
      if bar != 0 then .error (refusal bar index sub)
      else if !r.takes index v then .error (refusal 0x04 index sub)
      else d.classWrite now c r index sub v

/-- WRITE. [log 29: DEDUCED] -/
def Device.writeReply (d : Device) (now : Nat) (c : Caller) (role : Role) (k : ObjKey) (bs : List Nat) : Reply :=
  match d.writeOne now c role k bs with
  | .ok d1 => reply 0 d1
  | .error r => reply r.status (d.rejected now c.rq.session r)

/-! ### WRITE_MULTI (R47, R50 rule 7) -/

/-- The entries in order, from position `i` of `n`: each is tested against what the ones before it leave. A commit object stands last. [log 34: DEDUCED] -/
def Device.writeEntries (now : Nat) (c : Caller) (role : Role) (n : Nat) : Nat → List WriteEntry → Device → Except (Nat × Refused) Device
  | _, [], d => .ok d
  | i, e :: es, d =>
    if (commitOf (keyIndex e.key)).isSome && i != n then .error (i, refusal 0x11 (keyIndex e.key) (keySub e.key))
    else match d.writeOne now c role e.key e.bytes with
      | .error r => .error (i, r)
      | .ok d1 => Device.writeEntries now c role n (i + 1) es d1

/-- An entry that carries ENABLE. -/
def WriteEntry.enables (e : WriteEntry) : Bool := (axisSplit (keyIndex e.key)).1 == Ix.AX_CMD && e.bytes == [1]

/-- WRITE_MULTI: every entry is checked before any is accepted. `late` is the position of an ENABLE whose conditions changed between its check and its execution, without any request: the entries before it stay, and the ones after it are not carried out. [log 34: DEDUCED] -/
def Device.writeMultiReply (d : Device) (now : Nat) (c : Caller) (role : Role) (es : List WriteEntry) (late : Option Nat) : Reply :=
  if es.isEmpty || 16 < es.length then reply 0x11 d
  else match Device.writeEntries now c role es.length 1 es d with
    | .error (i, r) => ⟨r.status, i, [], d.rejected now c.rq.session r⟩
    | .ok d1 =>
      match late with
      | none => reply 0 d1
      | some p =>
        if 1 ≤ p && (es[p - 1]?).any WriteEntry.enables then
          match Device.writeEntries now c role es.length 1 (es.take (p - 1)) d with
          | .ok d2 => ⟨0x0F, p, [], d2⟩
          | .error _ => reply 0 d1
        else reply 0 d1

/-! ### Writes of BLOB and TABLE objects (R54 rule 3) -/

/-- Bytes as entries of `w` bytes each. [log 34: DEDUCED] -/
def entriesOf (w : Nat) : Nat → List Nat → List Nat
  | 0, _ => []
  | k + 1, bs => leNat (bs.take w) :: entriesOf w k (bs.drop w)

/-- The entries from `first` on replaced. -/
def splice (old : List Nat) (first : Nat) (new : List Nat) : List Nat := old.take first ++ new ++ old.drop (first + new.length)

/-- A Farrier token is written (R414): the status, and the device. -/
def Device.farrierWrite (d : Device) (now : Nat) (bs : List Nat) : Nat × Device :=
  if d.vaultShut then (0x0F, d)
  else if bs.length != 90 || bytesAt bs 0 2 != 1 then (0x04, d)
  else if d.tokenBad bs then (0x05, (d.tamper now 5).newNonce)
  else (0, d.farrierEntry.deviceReset 8)

/-- The bytes of a completed write transfer make one write of a BLOB: the status, and the device. -/
def Device.blobWrite (d : Device) (now index : Nat) (bs : List Nat) : Nat × Device :=
  if index == Ix.STO_CAL_RECORD then (if d.calRecordOk bs then (0, d.storeCal bs) else (0x04, d))
  else if index == Ix.ASY_FEED then (0, d.asyFeed bs)
  else if index == Ix.VLT_ROOT_KEY then
    if d.rd Ix.VLT_SELFTEST != 0 then (0x0F, d) else if d.rootKeyOk bs then (0, d.storeRoot bs) else (0x04, d)
  else if index == Ix.VLT_KEY_IMPORT then d.keyImport bs
  else if index == Ix.VLT_MR_EXTEND then
    if d.rd Ix.VLT_SELFTEST != 0 then (0x0F, d) else if bs.length == 32 then (0, d.extend 7 bs) else (0x04, d)
  else if index == Ix.VLT_FARRIER then d.farrierWrite now bs
  else (0x0F, d)

/-- The bytes of a completed write transfer make one write of the object or of the named entries, under its class. A refused BLOB keeps what its refusal does. -/
def Device.bulkWrite (d : Device) (now : Nat) (c : Caller) (role : Role) (k : ObjKey) (first count : Nat) (bs : List Nat) : Nat × Device :=
  let index := keyIndex k
  let sub := keySub k
  let session := c.rq.session
  match rowOf index sub with
  | none => (absentStatus index, d)
  | some r =>
    let bar := d.writeBar c role r index sub false
    if bar != 0 then (bar, d)
    else match tableSpec index with
      | none =>
        if d.frozenShut r index sub then (0x07, d.rejected now session (refusal 0x07 index sub))
        else
          let (st, d1) := d.blobWrite now index bs
          if st == 0 then (0, d1) else (st, d1.rejected now session (refusal st index sub))
      | some (t, _, _) =>
        let new := entriesOf t.size count bs
        match r.cls with
        | .staged =>
          let old := fun (s : StagedSet) => (cellGet s.tables k).getD (d.tab index sub)
          match d.stage c.owner index (fun s => { s with tables := cellPut s.tables k (splice (old s) first new) }) sub with
          | .ok d1 => (0, d1)
          | .error x => (x.status, d.rejected now session x)
        | _ =>
          if d.frozenShut r index sub then (0x07, d.rejected now session (refusal 0x07 index sub))
          else (0, d.setTab index sub (splice (d.tab index sub) first new))

/-! ### Segmented transfer (R54) -/

/-- The transfer that an owner holds. -/
def Device.transferOf (d : Device) (o : Owner) : Option Transfer := d.server.transfers.find? fun t => t.owner == o

/-- The transfer of an owner is gone. -/
def Device.endTransfer (d : Device) (o : Owner) : Device :=
  { d with server := { d.server with
      transfers := d.server.transfers.filter fun t => t.owner != o
      timedOut := d.server.timedOut.filter fun x => x != o } }

/-- A transfer begins; one that its owner holds already is aborted (R54 rule 5). -/
def Device.beginTransfer (d : Device) (t : Transfer) : Device :=
  let d1 := d.endTransfer t.owner
  { d1 with server := { d1.server with transfers := d1.server.transfers ++ [t] } }

/-- The entries that a start names: for a TABLE a count of 0 runs to the last entry; none where the range is not the object's. -/
def entryRange (index first count : Nat) : Option Nat :=
  match tableSpec index with
  | none => if first == 0 && count == 0 then some 0 else none
  | some (_, n, _) =>
    let k := if count == 0 then n - first else count
    if first < n && first + k ≤ n then some k else none

/-- The bytes that `count` entries take; a BLOB has no stated number. -/
def rangeBytes (index count : Nat) : Option Nat :=
  match tableSpec index with
  | none => none
  | some (t, _, _) => some (count * t.size)

/-- SEG_WRITE_START. [log 33: DEDUCED] -/
def Device.segWriteStart (d : Device) (now : Nat) (c : Caller) (role : Role) (k : ObjKey) (first count length crc : Nat) : Reply :=
  let index := keyIndex k
  let sub := keySub k
  match rowOf index sub with
  | none => reply (absentStatus index) d
  | some r =>
    let bar := d.writeBar c role r index sub false
    if !r.type.isSegmented then reply 0x0F d
    else if bar != 0 then reply bar d
    else match entryRange index first count with
      | none => reply 0x04 (d.rejected now c.rq.session (refusal 0x04 index sub))
      | some n =>
        if 8192 < length || (rangeBytes index n).any (· != length) then reply 0x03 d
        else if d.server.transfers.any fun t => t.writing && t.key == k && t.owner != c.owner then reply 0x0A d
        else reply 0 (d.beginTransfer ⟨c.owner, k, true, first, n, length, crc, []⟩)

/-- SEG_WRITE_DATA: after the last byte the CRC is checked, and the object is written. [log 33: DEDUCED, 84: DESIGN CHOICE] -/
def Device.segWriteData (d : Device) (now : Nat) (c : Caller) (role : Role) (offset : Nat) (bs : List Nat) : Reply :=
  match d.transferOf c.owner with
  | none => reply 0x0D (d.endTransfer c.owner)
  | some t =>
    if !t.writing then reply 0x0D d
    else if offset != t.data.length || bs.isEmpty || 1024 < bs.length || t.length < offset + bs.length then reply 0x0D (d.endTransfer c.owner)
    else
      let data := t.data ++ bs
      if data.length < t.length then reply 0 (d.beginTransfer { t with data := data })
      else
        let d1 := d.endTransfer c.owner
        if crc32c data != t.crc then reply 0x0E d1
        else
          let (st, d2) := d1.bulkWrite now c role t.key t.first t.count data
          reply st d2

/-- SEG_READ_START captures the object or entry range, and answers its length and CRC. [log 33: DEDUCED] -/
def Device.segReadStart (d : Device) (now : Nat) (c : Caller) (k : ObjKey) (first count : Nat) : Reply :=
  let index := keyIndex k
  let sub := keySub k
  match rowOf index sub with
  | none => reply (absentStatus index) d
  | some r =>
    if !r.type.isSegmented || (asyObject index && d.bitOf Ix.ASY_STATUS 9) then reply 0x0F d
    else match entryRange index first count with
      | none => reply 0x04 (d.rejected now c.rq.session (refusal 0x04 index sub))
      | some n =>
        let bs := d.bulk now c index sub first n
        if 8192 < bs.length then reply 0x03 d
        else ⟨0, 0, leBytes 2 bs.length ++ leBytes 4 (crc32c bs), d.beginTransfer ⟨c.owner, k, false, first, n, bs.length, crc32c bs, bs⟩⟩

/-- SEG_READ_DATA: bytes at an offset of the requester's choosing; a bad offset or length leaves the transfer open. [log 33: DEDUCED] -/
def Device.segReadData (d : Device) (c : Caller) (offset length : Nat) : Reply :=
  match d.transferOf c.owner with
  | none => reply 0x0D (d.endTransfer c.owner)
  | some t =>
    if t.writing || length == 0 || 1024 < length || t.length < offset + length then reply 0x0D d
    else ⟨0, 0, (t.data.drop offset).take length, d⟩

/-- A transfer of a requester sees no request for 2 s (R54 rule 6). [log 33: DEDUCED] -/
def Device.segTimeout (d : Device) (o : Owner) : Device :=
  match d.transferOf o with
  | none => d
  | some _ =>
    let d1 := d.endTransfer o
    { d1 with server := { d1.server with timedOut := d1.server.timedOut ++ [o] } }

end Sys2Proof.Machine
end

