-- ==== Sys2Proof/Machine/Sessions.lean ====
section
/-! DEFINITION. The requests that name no object: OPEN_SESSION, PROVE and CLOSE_SESSION (R45, R402, R403), RECEIPT (R406), ASSIGN and DISCOVER (R376, R378), and the timers of sessions. -/

namespace Sys2Proof.Machine

/-- A RANGE answer to a request that concerns no object (R53). -/
def noObject : Refused := ⟨0x04, 0xFFFF, 0, 0, 0xD4, 0xFFFF, 0⟩

/-! ### OPEN_SESSION -/

/-- OPEN_SESSION is not served: Retired, a VOID bank 5 or 6 outside Blank, or the Vault is shut (R395, R396, R399, R411). -/
def Device.openShut (d : Device) : Bool :=
  d.vaultShut || d.lifecycle == 3 || (d.lifecycle != 0 && (d.bankState 5 == 2 || d.bankState 6 == 2))

/-- The checks of R402 on slot, role, lifecycle state and port. [log 36: DEDUCED] -/
def Device.openAllowed (d : Device) (rq : Requester) (role slot : Nat) : Bool :=
  if slot == 0 then role == 3 && d.lifecycle == 0 && decide (rq.port = .spi)
  else
    let s := d.keySlot slot
    s.type != 0 && !s.void && bit s.usage 0 && role ≤ s.maxRole

/-- The session numbers of 1 to 15 that are free. -/
def Device.freeSessions (d : Device) : List Nat :=
  ((List.range 15).map (· + 1)).filter fun n => !d.server.sessions.any fun s => s.number == n

/-- The number of a new session: one of those that are free. The spec does not say which, so the choice is a free value. [log 36: DEDUCED] -/
def Device.pickSession (d : Device) : Nat × Device :=
  let (r, d1) := d.free 16
  (d.freeSessions.getD (r % d.freeSessions.length) 0, d1)

/-- OPEN_SESSION: the lockout, the checks of R402, the limits of R45, in this order. [log 36: DEDUCED] -/
def Device.openReply (d : Device) (now : Nat) (rq : Requester) (role slot : Nat) : Reply :=
  if d.openShut then reply 0x0F d
  else if role == 0 || 3 < role || 15 < slot then reply 0x04 (d.rejected now rq.session noObject)
  else if d.server.locked.contains rq.node then reply 0x0A d
  else if !d.openAllowed rq role slot then reply 0x05 d
  else if 8 ≤ d.server.sessions.length || (role == 3 && d.server.sessions.any fun s => s.role == 3) then reply 0x0A d
  else
    let (n, d0) := d.pickSession
    let (nonce, d1) := d0.randomBytes 8
    let s : Session :=
      { number := n, role := role, slot := slot, port := rq.port, node := rq.node, nonce := nonce, proven := false, key := [], method := 0
        freshRx := 0, freshTx := 0 }
    ⟨0, 0, n :: nonce, ({ d1 with server := { d1.server with sessions := d1.server.sessions ++ [s] } }).showSessions⟩

/-! ### PROVE (R403) -/

/-- C of R403: nonce, role, session, SRC, DEST. -/
def proofText (s : Session) (dest : Nat) : List Nat := s.nonce ++ [s.role, s.number] ++ leBytes 2 s.node ++ leBytes 2 dest

/-- A session is proven: it holds its role and key. -/
def Device.proven (d : Device) (n method : Nat) (key : List Nat) : Device :=
  { d with server := { d.server with
      sessions := d.server.sessions.map fun (s : Session) => if s.number == n then { s with proven := true, method := method, key := key } else s } }

/-- A proof fails: the session ends, AUTH_FAIL is posted and counted, and three failures from one node within 60 s lock it out (R402, R403). [log 36: DEDUCED] -/
def Device.proofFails (d : Device) (now : Nat) (s : Session) : Device :=
  let d1 := ((d.endSession s.number).post now 0xD4 0x41 s.node).inc Ix.NET_AUTH_COUNT 1
  let recent := (d1.server.failed.filter fun (x : Nat × Nat) => now < x.2 + 9_600_000_000) ++ [(s.node, now)]
  let three := 3 ≤ (recent.filter fun (x : Nat × Nat) => x.1 == s.node).length
  let locked := if three && !d1.server.locked.contains s.node then d1.server.locked ++ [s.node] else d1.server.locked
  { d1 with server := { d1.server with failed := recent, locked := locked } }

/-- Method 1: a symmetric proof. -/
def Device.proveSym (d : Device) (now : Nat) (s : Session) (dest : Nat) (body : List Nat) : Reply :=
  let text := proofText s dest
  let nh := body.take 8
  let key := Config.cmac (d.keySlot s.slot).key ([1] ++ text ++ nh)
  if (body.drop 8).take 8 == (Config.cmac key ([2] ++ text ++ nh)).take 8 then
    ⟨0, 0, (Config.cmac key ([3] ++ nh ++ text)).take 8, d.proven s.number 1 key⟩
  else reply 0x05 (d.proofFails now s)

/-- Method 2: a public-key proof, answered with an ephemeral key signed by slot 0. -/
def Device.provePub (d : Device) (now : Nat) (s : Session) (dest : Nat) (body : List Nat) : Reply :=
  let text := proofText s dest
  let qh := body.take 64
  if Config.ecdsaVerify (d.keySlot s.slot).key ([4] ++ text ++ qh) ((body.drop 64).take 64) then
    let (secret, d1) := d.randomBytes 32
    let qd := Config.p256Public secret
    let key := (kdf (Config.ecdh secret qh) ([6] ++ text)).take 16
    let sig := Config.ecdsaSign (d1.keySlot 0).key ([5] ++ text ++ qh ++ qd) (Config.random d1.fresh)
    ⟨0, 0, qd ++ sig, d1.drawn.proven s.number 2 key⟩
  else reply 0x05 (d.proofFails now s)

/-- The method that fits a session's slot: 0 for slot 0, 2 for a public key, 1 for AES. -/
def Device.methodOf (d : Device) (s : Session) : Nat := if s.slot == 0 then 0 else if (d.keySlot s.slot).type == 4 then 2 else 1

/-- PROVE: the body is a method and the fields of Table 20.4. -/
def Device.proveReply (d : Device) (now : Nat) (rq : Requester) (dest : Nat) (body : List Nat) : Reply :=
  match d.sessionOf rq, body with
  | none, _ => reply 0x0C d
  | _, [] => reply 0x11 d
  | some s, method :: rest =>
    let len := if method == 1 then 16 else if method == 2 then 128 else 0
    if d.vaultShut then reply 0x0F d
    else if s.proven || method != d.methodOf s || (method == 0 && d.lifecycle != 0) then reply 0x04 (d.rejected now rq.session noObject)
    else if rest.length != len then reply 0x11 d
    else if method == 0 then reply 0 (d.proven s.number 0 [])
    else if method == 1 then d.proveSym now s dest rest
    else if d.bankState 4 == 2 then reply 0x0F d
    else d.provePub now s dest rest

/-- CLOSE_SESSION. [log 36: DEDUCED] -/
def Device.closeReply (d : Device) (rq : Requester) : Reply :=
  if rq.session == 0 then reply 0x0C d else reply 0 (d.endSession rq.session)

/-! ### RECEIPT, ASSIGN, DISCOVER -/

/-- RECEIPT (R406): a nonce of 16 bytes and a mask of registers. [log 37: DEDUCED] -/
def Device.receiptReply (d : Device) (now : Nat) (nonce : List Nat) (mask : Nat) : Reply :=
  if nonce.length != 16 then reply 0x11 d
  else if !d.receiptOk then reply 0x0F d
  else
    let (bs, d1) := d.receipt now nonce (mask % 256)
    ⟨0, 0, bs, d1⟩

/-- ASSIGN is accepted from any requester while the device is unassigned, and otherwise from an Integrator session or the host SPI port (R378). -/
def Device.assignAllowed (d : Device) (c : Caller) (role : Role) (serial : Nat) : Bool :=
  serial == d.rd Ix.DEV_SERIAL
    && (d.netSetting Ix.NET_NODE 0 == 0xFFFF || decide (c.rq.port = .spi) || (c.rq.session != 0 && role.holds .integrator))

/-- The node number is in force. [log 37: DEDUCED] -/
def Device.setNode (d : Device) (node : Nat) : Device :=
  let d1 := d.wr Ix.NET_NODE 0 node
  { d1 with net := { d1.net with inForce := cellPut d1.net.inForce (keyOf Ix.NET_NODE 0) node } }

/-- ASSIGN: the number is in force after the answer, and a Ledger post starts. [log 37: DEDUCED] -/
def Device.assignReply (d : Device) (now : Nat) (c : Caller) (role : Role) (serial node : Nat) : Reply :=
  if !d.assignAllowed c role serial then reply 0x05 d
  else if 0x3FFF < node then reply 0x04 (d.rejected now c.rq.session noObject)
  else reply d.postStatus (if d.postStatus == 0 then (d.setNode node).postStart else d)

/-- DISCOVER: serial and `NET_NODE`. [log 37: DEDUCED] -/
def Device.discoverReply (d : Device) : Reply :=
  ⟨0, 0, leBytes 8 (d.rd Ix.DEV_SERIAL) ++ leBytes 2 (d.netSetting Ix.NET_NODE 0), d⟩

/-! ### Timers -/

/-- The 60 s of a lockout end. [log 36: DEDUCED] -/
def Device.unlock (d : Device) (node : Nat) : Device :=
  { d with server := { d.server with
      locked := d.server.locked.filter (· != node)
      failed := d.server.failed.filter fun (x : Nat × Nat) => x.1 != node } }

/-- A session not proven within 2 s ends. -/
def Device.proofTimeout (d : Device) (n : Nat) : Device :=
  if d.server.sessions.any fun s => s.number == n && !s.proven then d.endSession n else d

/-! ### Meanings -/

/-- What OPEN_SESSION, PROVE and CLOSE_SESSION are to state and port. -/
def plainAsked : Asked := ⟨[], true, false⟩

/-- OPEN_SESSION (R45): role 1 to 3, key slot 0 to 15. It is sent outside any session. -/
def execOpenSession (rq : Requester) (role slot : Nat) (s : State) : Host.Outcome State Fault Refusal :=
  s.onDev fun now d => d.serve (.of { rq with session := 0 }) plainAsked fun _ e => e.openReply now rq role slot

/-- PROVE (R403): it names its session, which holds no role before it. `dest` is DEST of its datagram. -/
def execProve (rq : Requester) (dest : Nat) (body : List Octet) (s : State) : Host.Outcome State Fault Refusal :=
  s.onDev fun now d => d.serve (.of { rq with session := 0 }) plainAsked fun _ e => e.proveReply now rq dest body

/-- CLOSE_SESSION (R45). -/
def execCloseSession (rq : Requester) (s : State) : Host.Outcome State Fault Refusal :=
  s.onDev fun _ d => d.serve (.of rq) plainAsked fun _ e => e.closeReply rq

/-- SESSION_IDLE_TIMEOUT (R45 rule 4): the session has been idle for longer than `DEV_SESSION_IDLE`. [log 2: DESIGN CHOICE] -/
def execSessionIdleTimeout (session : Nat) (s : State) : Host.Outcome State Fault Refusal :=
  s.onPowered fun _ d => d.endSession session

/-- PROOF_TIMEOUT (R402): 2 s since OPEN_SESSION. -/
def execProofTimeout (session : Nat) (s : State) : Host.Outcome State Fault Refusal :=
  s.onPowered fun _ d => d.proofTimeout session

/-- LOCKOUT_EXPIRE (R402). -/
def execLockoutExpire (node : Nat) (s : State) : Host.Outcome State Fault Refusal := s.onPowered fun _ d => d.unlock node

/-- RECEIPT (R406). -/
def execReceipt (rq : Requester) (nonce : List Octet) (mask : Octet) (s : State) : Host.Outcome State Fault Refusal :=
  s.onDev fun now d => d.serve (.of rq) plainAsked fun _ e => e.receiptReply now nonce mask

/-- ASSIGN (R378). -/
def execAssign (rq : Requester) (serial node : Nat) (s : State) : Host.Outcome State Fault Refusal :=
  s.onDev fun now d => d.serve (.of rq) ⟨[], false, false⟩ fun role e => e.assignReply now (.of rq) role serial node

/-- DISCOVER (R376): an unassigned device waits (serial mod 256) ms first, which is timing. -/
def execDiscover (rq : Requester) (s : State) : Host.Outcome State Fault Refusal :=
  s.onDev fun _ d => d.serve (.of rq) plainAsked fun _ e => e.discoverReply

/-- SEG_TRANSFER_TIMEOUT (R54 rule 6) of the transfer of a requester. -/
def execSegTransferTimeout (rq : Requester) (s : State) : Host.Outcome State Fault Refusal :=
  s.onPowered fun _ d => d.segTimeout (Caller.of rq).owner

end Sys2Proof.Machine
end

