-- ==== Sys2Proof/Machine/Requests.lean ====
section
/-! DEFINITION. The commands that are requests of the dictionary (R47): each is served with the requester's role, and the commands that are a write of one value go the way of every write. -/

namespace Sys2Proof.Machine

/-- A request of a requester. -/
def State.ask (s : State) (rq : Requester) (a : Asked) (f : Nat → Role → Device → Reply) : Host.Outcome State Fault Refusal :=
  s.onDev fun now d => d.serve (.of rq) a (f now)

/-- A value as the bytes of an object's length. -/
def valueBytes (index sub v : Nat) : List Nat := leBytes (widthAt index sub / 8) v

/-- A write of one value to one object (R48). -/
def State.put (s : State) (rq : Requester) (index sub v : Nat) : Host.Outcome State Fault Refusal :=
  s.ask rq ⟨[keyOf index sub], false, true⟩ fun now role e => e.writeReply now (.of rq) role (keyOf index sub) (valueBytes index sub v)

/-- A write of a BLOB whose segmented transfer is complete (R54 rule 3). -/
def State.putBlob (s : State) (rq : Requester) (index : Nat) (bytes : List Nat) : Host.Outcome State Fault Refusal :=
  s.ask rq ⟨[keyOf index 0], false, false⟩ fun now role e =>
    let (st, e1) := e.bulkWrite now (.of rq) role (keyOf index 0) 0 0 bytes
    reply st e1

/-- The object of the transfer that a requester holds. -/
def Device.openKeys (d : Device) (rq : Requester) : List ObjKey :=
  match d.transferOf (Caller.of rq).owner with
  | some t => [t.key]
  | none => []

/-- An image block as the entries of a WRITE_MULTI (R408 rule 2). -/
def blockEntries (offset : Nat) (words : List Nat) : List WriteEntry :=
  ⟨keyOf Ix.VLT_UPD_BLOCK 1, valueBytes Ix.VLT_UPD_BLOCK 1 offset⟩
    :: words.zipIdx.map fun (w, i) => ⟨keyOf Ix.VLT_UPD_BLOCK (i + 2), valueBytes Ix.VLT_UPD_BLOCK (i + 2) w⟩

/-- PAC_SOURCE_WRITE (R20). -/
def execPacSourceWrite (rq : Requester) (value : Nat) (s : State) : Host.Outcome State Fault Refusal :=
  s.put rq Ix.PAC_SOURCE 0 value

/-- PACE_REQUEST (R83). -/
def execPaceRequest (rq : Requester) (value : Nat) (s : State) : Host.Outcome State Fault Refusal :=
  s.put rq Ix.SUP_PACE_REQ 0 value

/-- BASE_COMMIT (R36). -/
def execBaseCommit (rq : Requester) (n : Fin 8) (s : State) : Host.Outcome State Fault Refusal :=
  s.put rq (axIx Ix.AX_BASE_COMMIT n) 0 1

/-- STAGED_DISCARD (R50): a write of 2 to the commit object of a block, BUSY where another requester holds the set. -/
def execStagedDiscard (rq : Requester) (block : Block) (s : State) : Host.Outcome State Fault Refusal :=
  s.put rq block.commit 0 2

/-- SAT_CLEAR (R30). -/
def execSatClear (rq : Requester) (n : Fin 8) (s : State) : Host.Outcome State Fault Refusal :=
  s.put rq (axIx Ix.AX_SAT n) 0 0

/-- READ (R47); `staged` is bit 0 of the flags: the requester's own staged value. -/
def execRead (rq : Requester) (key : ObjKey) (staged : Bool) (s : State) : Host.Outcome State Fault Refusal :=
  s.ask rq ⟨[key], true, true⟩ fun now role e => e.readReply now (.of rq) role staged key

/-- WRITE (R48). -/
def execWrite (rq : Requester) (key : ObjKey) (bytes : List Octet) (s : State) : Host.Outcome State Fault Refusal :=
  s.ask rq ⟨[key], false, true⟩ fun now role e => e.writeReply now (.of rq) role key bytes

/-- DESCRIBE (R42). -/
def execDescribe (rq : Requester) (key : ObjKey) (s : State) : Host.Outcome State Fault Refusal :=
  s.ask rq ⟨[key], true, true⟩ fun _ _ e => e.describeReply key

/-- READ_MULTI (R47). -/
def execReadMulti (rq : Requester) (keys : List ObjKey) (s : State) : Host.Outcome State Fault Refusal :=
  s.ask rq ⟨keys, true, false⟩ fun now role e => e.readMultiReply now (.of rq) role keys

/-- WRITE_MULTI (R47); `late` is the position of an ENABLE whose conditions changed between its check and its execution, without any request. [log 34: DEDUCED] -/
def execWriteMulti (rq : Requester) (entries : List WriteEntry) (late : Option Nat) (s : State) : Host.Outcome State Fault Refusal :=
  s.ask rq ⟨entries.map (·.key), false, false⟩ fun now role e => e.writeMultiReply now (.of rq) role entries late

/-- SEG_WRITE_START (R54). -/
def execSegWriteStart (rq : Requester) (key : ObjKey) (first count length crc : Nat) (s : State) : Host.Outcome State Fault Refusal :=
  s.ask rq ⟨[key], false, false⟩ fun now role e => e.segWriteStart now (.of rq) role key first count length crc

/-- SEG_WRITE_DATA (R54). -/
def execSegWriteData (rq : Requester) (offset : Nat) (bytes : List Octet) (s : State) : Host.Outcome State Fault Refusal :=
  s.ask rq ⟨s.dev.openKeys rq, false, false⟩ fun now role e => e.segWriteData now (.of rq) role offset bytes

/-- SEG_READ_START (R54). -/
def execSegReadStart (rq : Requester) (key : ObjKey) (first count : Nat) (s : State) : Host.Outcome State Fault Refusal :=
  s.ask rq ⟨[key], true, false⟩ fun now _ e => e.segReadStart now (.of rq) key first count

/-- SEG_READ_DATA (R54). -/
def execSegReadData (rq : Requester) (offset length : Nat) (s : State) : Host.Outcome State Fault Refusal :=
  s.ask rq ⟨s.dev.openKeys rq, true, false⟩ fun _ _ e => e.segReadData (.of rq) offset length

/-- STO_POST (R55). -/
def execStoPost (rq : Requester) (s : State) : Host.Outcome State Fault Refusal :=
  s.put rq Ix.STO_POST 0 1

/-- RESTORE_DEFAULTS (R57). -/
def execRestoreDefaults (rq : Requester) (s : State) : Host.Outcome State Fault Refusal :=
  s.put rq Ix.DEV_RESTORE_DEFAULTS 0 1

/-- SOFTWARE_RESET (R76). -/
def execSoftwareReset (rq : Requester) (s : State) : Host.Outcome State Fault Refusal :=
  s.put rq Ix.SUP_RESET 0 1

/-- BOOT_BANK_PREF_WRITE (R82). [log 25: DEDUCED] -/
def execBootBankPrefWrite (rq : Requester) (bank : Nat) (s : State) : Host.Outcome State Fault Refusal :=
  s.put rq Ix.SUP_BOOT_BANK_PREF 0 bank

/-- SLEEP_ENTER (R86). -/
def execSleepEnter (rq : Requester) (s : State) : Host.Outcome State Fault Refusal :=
  s.put rq Ix.SUP_SLEEP 0 1

/-- OTP_PROGRAM (R104). -/
def execOtpProgram (rq : Requester) (s : State) : Host.Outcome State Fault Refusal :=
  s.put rq Ix.STO_OTP_PROG_CMD 0 1

/-- OTP_SEAL (R105). -/
def execOtpSeal (rq : Requester) (s : State) : Host.Outcome State Fault Refusal :=
  s.put rq Ix.STO_OTP_PROG_CMD 0 2

/-- OTP_LOCK (R105). -/
def execOtpLock (rq : Requester) (s : State) : Host.Outcome State Fault Refusal :=
  s.put rq Ix.STO_OTP_PROG_CMD 0 3

/-- OTP_LOCK_VOID (R105). -/
def execOtpLockVoid (rq : Requester) (s : State) : Host.Outcome State Fault Refusal :=
  s.put rq Ix.STO_OTP_PROG_CMD 0 4

/-- CAL_RECORD_WRITE (R114); the bytes of a completed segmented write. -/
def execCalRecordWrite (rq : Requester) (bytes : List Octet) (s : State) : Host.Outcome State Fault Refusal :=
  s.putBlob rq Ix.STO_CAL_RECORD bytes

/-- HITCH_COMMIT (R120). -/
def execHitchCommit (rq : Requester) (s : State) : Host.Outcome State Fault Refusal :=
  s.put rq Ix.GDA_HITCH_COMMIT 0 1

/-- HOBBLE_CMD_WRITE (R130). -/
def execHobbleCmdWrite (rq : Requester) (value : Nat) (s : State) : Host.Outcome State Fault Refusal :=
  s.put rq Ix.GDA_HOBBLE_CMD 0 value

/-- TRIP_CLEAR (R133). -/
def execTripClear (rq : Requester) (mask : Nat) (s : State) : Host.Outcome State Fault Refusal :=
  s.put rq Ix.GDA_TRIP_CLEAR 0 mask

/-- EDP_COMMIT (R138). -/
def execEdpCommit (rq : Requester) (n : Fin 8) (s : State) : Host.Outcome State Fault Refusal :=
  s.put rq (axIx Ix.AX_EDP_COMMIT n) 0 1

/-- IL_ARM (R176). -/
def execIlArm (rq : Requester) (s : State) : Host.Outcome State Fault Refusal :=
  s.put rq Ix.CNV_IL_CMD 0 1

/-- IL_ABORT (R176). -/
def execIlAbort (rq : Requester) (s : State) : Host.Outcome State Fault Refusal :=
  s.put rq Ix.CNV_IL_CMD 0 2

/-- CAL_ZERO (R178). -/
def execCalZero (rq : Requester) (s : State) : Host.Outcome State Fault Refusal :=
  s.put rq Ix.CNV_CAL_CMD 0 1

/-- CAL_FULL (R178). -/
def execCalFull (rq : Requester) (s : State) : Host.Outcome State Fault Refusal :=
  s.put rq Ix.CNV_CAL_CMD 0 2

/-- CAL_APPLY (R178). -/
def execCalApply (rq : Requester) (s : State) : Host.Outcome State Fault Refusal :=
  s.put rq Ix.CNV_CAL_CMD 0 3

/-- CNV_FE_COMMIT (R182). -/
def execCnvFeCommit (rq : Requester) (s : State) : Host.Outcome State Fault Refusal :=
  s.put rq Ix.CNV_FE_COMMIT 0 1

/-- CE_COMMIT (R198). -/
def execCeCommit (rq : Requester) (n : Fin 8) (s : State) : Host.Outcome State Fault Refusal :=
  s.put rq (axIx Ix.AX_CE_COMMIT n) 0 1

/-- BANK_SEL_WRITE (R200). -/
def execBankSelWrite (rq : Requester) (n : Fin 8) (bank : Nat) (s : State) : Host.Outcome State Fault Refusal :=
  s.put rq (axIx Ix.AX_CE_BANK_SEL n) 0 bank

/-- AX_FE_COMMIT (R251). -/
def execAxFeCommit (rq : Requester) (n : Fin 8) (s : State) : Host.Outcome State Fault Refusal :=
  s.put rq (axIx Ix.AX_FE_COMMIT n) 0 1

/-- ST_START (R256). -/
def execStStart (rq : Requester) (n : Fin 8) (s : State) : Host.Outcome State Fault Refusal :=
  s.put rq (axIx Ix.AX_ST_CMD n) 0 1

/-- ST_STOP (R257). -/
def execStStop (rq : Requester) (n : Fin 8) (s : State) : Host.Outcome State Fault Refusal :=
  s.put rq (axIx Ix.AX_ST_CMD n) 0 2

/-- ST_COMMIT (R273). -/
def execStCommit (rq : Requester) (n : Fin 8) (s : State) : Host.Outcome State Fault Refusal :=
  s.put rq (axIx Ix.AX_ST_COMMIT n) 0 1

/-- PUSH (R284). -/
def execPush (rq : Requester) (n : Fin 8) (s : State) : Host.Outcome State Fault Refusal :=
  s.put rq (axIx Ix.AX_PRF_CMD n) 0 1

/-- FLUSH (R285). -/
def execFlush (rq : Requester) (n : Fin 8) (s : State) : Host.Outcome State Fault Refusal :=
  s.put rq (axIx Ix.AX_PRF_CMD n) 0 2

/-- QUICK_STOP (R285). -/
def execQuickStop (rq : Requester) (n : Fin 8) (s : State) : Host.Outcome State Fault Refusal :=
  s.put rq (axIx Ix.AX_PRF_CMD n) 0 3

/-- HOME (R288). -/
def execHomeCmd (rq : Requester) (n : Fin 8) (s : State) : Host.Outcome State Fault Refusal :=
  s.put rq (axIx Ix.AX_PRF_CMD n) 0 4

/-- PRF_COMMIT (R296). -/
def execPrfCommit (rq : Requester) (n : Fin 8) (s : State) : Host.Outcome State Fault Refusal :=
  s.put rq (axIx Ix.AX_PRF_COMMIT n) 0 1

/-- INT_COMMIT (R292). -/
def execIntCommit (rq : Requester) (s : State) : Host.Outcome State Fault Refusal :=
  s.put rq Ix.INT_COMMIT 0 1

/-- INT_PUSH (R293). -/
def execIntPush (rq : Requester) (s : State) : Host.Outcome State Fault Refusal :=
  s.put rq Ix.INT_CMD 0 1

/-- INT_FLUSH (R294). -/
def execIntFlush (rq : Requester) (s : State) : Host.Outcome State Fault Refusal :=
  s.put rq Ix.INT_CMD 0 2

/-- INT_QUICK_STOP (R294). -/
def execIntQuickStop (rq : Requester) (s : State) : Host.Outcome State Fault Refusal :=
  s.put rq Ix.INT_CMD 0 3

/-- SVC_COMMIT (R300). -/
def execSvcCommit (rq : Requester) (s : State) : Host.Outcome State Fault Refusal :=
  s.put rq Ix.SVC_COMMIT 0 1

/-- RUN (R301). -/
def execRunCmd (rq : Requester) (n : Fin 8) (s : State) : Host.Outcome State Fault Refusal :=
  s.put rq Ix.SVC_CMD (n + 1) 1

/-- STOP (R301). -/
def execStopCmd (rq : Requester) (n : Fin 8) (s : State) : Host.Outcome State Fault Refusal :=
  s.put rq Ix.SVC_CMD (n + 1) 2

/-- JOG (R310). -/
def execJog (rq : Requester) (k : Fin 4) (positive : Bool) (s : State) : Host.Outcome State Fault Refusal :=
  s.put rq Ix.SVC_SEAT_CMD 0 (0x1000 + 0x100 * k + (if positive then 0 else 1))

/-- SEAT_STOP (R310). -/
def execSeatStop (rq : Requester) (s : State) : Host.Outcome State Fault Refusal :=
  s.put rq Ix.SVC_SEAT_CMD 0 0x2000

/-- RECALL (R310). -/
def execRecall (rq : Requester) (m : Fin 4) (s : State) : Host.Outcome State Fault Refusal :=
  s.put rq Ix.SVC_SEAT_CMD 0 (0x3000 + 0x100 * m)

/-- STORE (R310). -/
def execStoreCmd (rq : Requester) (m : Fin 4) (s : State) : Host.Outcome State Fault Refusal :=
  s.put rq Ix.SVC_SEAT_CMD 0 (0x4000 + 0x100 * m)

/-- CALIBRATE (R310). -/
def execCalibrate (rq : Requester) (k : Fin 4) (s : State) : Host.Outcome State Fault Refusal :=
  s.put rq Ix.SVC_SEAT_CMD 0 (0x5000 + 0x100 * k)

/-- REIN_COMMIT (R316). -/
def execReinCommit (rq : Requester) (s : State) : Host.Outcome State Fault Refusal :=
  s.put rq Ix.REIN_COMMIT 0 1

/-- THM_COMMIT (R327). -/
def execThmCommit (rq : Requester) (s : State) : Host.Outcome State Fault Refusal :=
  s.put rq Ix.THM_COMMIT 0 1

/-- TLY_ACK (R340). -/
def execTlyAck (rq : Requester) (message : Nat) (s : State) : Host.Outcome State Fault Refusal :=
  s.put rq Ix.TLY_ACK 0 message

/-- ENABLE (R341). -/
def execEnable (rq : Requester) (n : Fin 8) (s : State) : Host.Outcome State Fault Refusal :=
  s.put rq (axIx Ix.AX_CMD n) 0 1

/-- DISABLE (R341). -/
def execDisable (rq : Requester) (n : Fin 8) (s : State) : Host.Outcome State Fault Refusal :=
  s.put rq (axIx Ix.AX_CMD n) 0 2

/-- SAFE_RELEASE (R344). -/
def execSafeRelease (rq : Requester) (s : State) : Host.Outcome State Fault Refusal :=
  s.put rq Ix.TLY_SAFE_RELEASE 0 1

/-- ERRN_RELEASE (R345). -/
def execErrnRelease (rq : Requester) (s : State) : Host.Outcome State Fault Refusal :=
  s.put rq Ix.TLY_ERRN_RELEASE 0 1

/-- FIRST_CLEAR (R337). -/
def execFirstClear (rq : Requester) (s : State) : Host.Outcome State Fault Refusal :=
  s.put rq Ix.TLY_FIRST 1 0

/-- TLY_INJECT (R348). -/
def execTlyInject (rq : Requester) (message : Nat) (s : State) : Host.Outcome State Fault Refusal :=
  s.put rq Ix.TLY_INJECT 0 message

/-- SCAN (R362). -/
def execScan (rq : Requester) (s : State) : Host.Outcome State Fault Refusal :=
  s.put rq Ix.ASY_SCAN_CMD 0 1

/-- CONTINUE (R362). -/
def execContinueCmd (rq : Requester) (s : State) : Host.Outcome State Fault Refusal :=
  s.put rq Ix.ASY_SCAN_CMD 0 2

/-- SCAN_COMPARE (R362). -/
def execScanCompare (rq : Requester) (s : State) : Host.Outcome State Fault Refusal :=
  s.put rq Ix.ASY_SCAN_CMD 0 3

/-- ABORT (R362). -/
def execAbortCmd (rq : Requester) (s : State) : Host.Outcome State Fault Refusal :=
  s.put rq Ix.ASY_SCAN_CMD 0 4

/-- ASY_FEED (R354); the bytes of a completed segmented write. -/
def execAsyFeed (rq : Requester) (bytes : List Octet) (s : State) : Host.Outcome State Fault Refusal :=
  s.putBlob rq Ix.ASY_FEED bytes

/-- ASY_RESTART (R367). -/
def execAsyRestart (rq : Requester) (s : State) : Host.Outcome State Fault Refusal :=
  s.put rq Ix.ASY_RESTART 0 1

/-- ASY_PRESET (R367). -/
def execAsyPreset (rq : Requester) (preset : Nat) (s : State) : Host.Outcome State Fault Refusal :=
  s.put rq Ix.ASY_PRESET 0 preset

/-- ASY_PARAM_WRITE (R367); the parameters are WIDTH, POLY, INIT, REFLECT and XOROUT, in this order. -/
def execAsyParamWrite (rq : Requester) (param : Fin 5) (value : Nat) (s : State) : Host.Outcome State Fault Refusal :=
  s.put rq (Ix.ASY_WIDTH + param) 0 value

/-- NET_COMMIT (R388). -/
def execNetCommit (rq : Requester) (s : State) : Host.Outcome State Fault Refusal :=
  s.put rq Ix.NET_COMMIT 0 1

/-- PROVISION (R397). -/
def execProvision (rq : Requester) (s : State) : Host.Outcome State Fault Refusal :=
  s.put rq Ix.VLT_LIFECYCLE_CMD 0 1

/-- FIELD (R397). -/
def execFieldCmd (rq : Requester) (s : State) : Host.Outcome State Fault Refusal :=
  s.put rq Ix.VLT_LIFECYCLE_CMD 0 2

/-- RETIRE (R397). -/
def execRetire (rq : Requester) (s : State) : Host.Outcome State Fault Refusal :=
  s.put rq Ix.VLT_LIFECYCLE_CMD 0 3

/-- ROOT_KEY_WRITE (R400); the bytes of a completed segmented write. -/
def execRootKeyWrite (rq : Requester) (bytes : List Octet) (s : State) : Host.Outcome State Fault Refusal :=
  s.putBlob rq Ix.VLT_ROOT_KEY bytes

/-- KEY_IMPORT (R401); the bytes of a completed segmented write. -/
def execKeyImport (rq : Requester) (bytes : List Octet) (s : State) : Host.Outcome State Fault Refusal :=
  s.putBlob rq Ix.VLT_KEY_IMPORT bytes

/-- KEY_DELETE (R401). -/
def execKeyDelete (rq : Requester) (slot : Nat) (s : State) : Host.Outcome State Fault Refusal :=
  s.put rq Ix.VLT_KEY_DELETE 0 slot

/-- MR_EXTEND (R405); the bytes of a completed segmented write. -/
def execMrExtend (rq : Requester) (bytes : List Octet) (s : State) : Host.Outcome State Fault Refusal :=
  s.putBlob rq Ix.VLT_MR_EXTEND bytes

/-- UPD_START (R408). -/
def execUpdStart (rq : Requester) (s : State) : Host.Outcome State Fault Refusal :=
  s.put rq Ix.VLT_UPD_CMD 0 1

/-- UPD_BLOCK (R408): a WRITE_MULTI of the offset and of the words from .02 on. -/
def execUpdBlock (rq : Requester) (offset : Nat) (words : List Nat) (s : State) : Host.Outcome State Fault Refusal :=
  s.ask rq ⟨(blockEntries offset words).map (·.key), false, false⟩ fun now role e => e.writeMultiReply now (.of rq) role (blockEntries offset words) none

/-- VERIFY (R408). -/
def execVerify (rq : Requester) (s : State) : Host.Outcome State Fault Refusal :=
  s.put rq Ix.VLT_UPD_CMD 0 2

/-- ACTIVATE (R408). -/
def execActivate (rq : Requester) (s : State) : Host.Outcome State Fault Refusal :=
  s.put rq Ix.VLT_UPD_CMD 0 3

/-- UPD_ABORT (R408). -/
def execUpdAbort (rq : Requester) (s : State) : Host.Outcome State Fault Refusal :=
  s.put rq Ix.VLT_UPD_CMD 0 4

/-- FARRIER_TOKEN (R414); the bytes of a completed segmented write. [log 79: DESIGN CHOICE] -/
def execFarrierToken (rq : Requester) (bytes : List Octet) (s : State) : Host.Outcome State Fault Refusal :=
  s.putBlob rq Ix.VLT_FARRIER bytes

end Sys2Proof.Machine
end

