-- ==== Sys2Proof/Machine/Wire.lean ====
section
/-! DEFINITION. The ports (R368, R369): their queues and counters, and what each receives: CAN FD frames (R379), UDP datagrams (R380), LIN requests (R381), host SPI transactions (R382), and 10BASE-T1S frames without a datagram. -/

namespace Sys2Proof.Machine

/-! ### Port numbers (R390) -/

/-- The port of a number. -/
def portOf (p : Nat) : Port := if p == 0 then .t1s else if p == 1 then .can else if p == 2 then .lin else .spi

/-- The queues of port `p`. -/
def Device.portQ (d : Device) (p : Nat) : PortQueue := d.net.ports.toList.getD p ⟨[], none, []⟩

/-- Change the queues of port `p`. -/
def Device.onPort (d : Device) (p : Nat) (f : PortQueue → PortQueue) : Device := 
  if h : p < 4 then { d with net := { d.net with ports := d.net.ports.set p (f (d.net.ports[p])) } } else d

/-- `NET_PORT_COUNT_p`: 1 received, 2 sent, 3 DROPPED, 4 ERRORS, 5 REASSEMBLY_FAIL. [log 68: DEDUCED] -/
def Device.portCount (d : Device) (p sub : Nat) : Device := d.inc (Ix.NET_PORT_COUNT + p) sub

/-- A port carries datagrams: the host SPI port always (R369), a field port where it is enabled, its transceiver works, and CAN FD is not bus-off. -/
def Device.portUp (d : Device) (p : Nat) : Bool :=
  p == 3 || (bit (d.netSetting Ix.NET_PORT_EN 0) p && d.supply.transceivers && !(p == 1 && d.bitOf Ix.NET_STATUS 3))

/-- The node number in force; 0xFFFF is unassigned (R376). -/
def Device.node (d : Device) : Nat := d.netSetting Ix.NET_NODE 0

/-- A complete datagram joins the receive queue of 16, or is dropped (R369). -/
def Device.enqueue (d : Device) (p : Nat) (g : Datagram) : Device :=
  let d1 := d.portCount p 1
  if 16 ≤ (d1.portQ p).rx.length then d1.portCount p 3 else d1.onPort p fun q => { q with rx := q.rx ++ [g] }

/-- A datagram is sent: it goes out on a field port that is up, waits for the host on SPI, and is otherwise dropped. [log 78: DESIGN CHOICE] -/
def Device.send (d : Device) (p : Nat) (g : Datagram) : Device :=
  if p == 3 then (d.portCount 3 2).onPort 3 fun q => { q with wait := q.wait ++ [g], sent := some g }
  else if d.portUp p then (d.portCount p 2).onPort p fun q => { q with sent := some g }
  else d.portCount p 3

/-! ### CAN FD (R379) -/

/-- The identifier's PRIO, DEST and SRC as the address part of Table 19.2. -/
def canDest (id : Nat) : Nat := bitIf (bit id 28) 15 + field id 27 14

/-- The source node of an identifier. -/
def canSrc (id : Nat) : Nat := field id 13 0

/-- The reassembly of a source node. -/
def Device.partialOf (d : Device) (src : Nat) : Option Reassembly := d.net.partials.find? fun r => canSrc r.id == src

/-- Without the reassembly of a source node. -/
def Device.dropPartial (d : Device) (src : Nat) : Device :=
  { d with net := { d.net with partials := d.net.partials.filter fun r => canSrc r.id != src } }

/-- A reassembly is abandoned and counted. -/
def Device.abandon (d : Device) (src : Nat) : Device :=
  if (d.partialOf src).isSome then (d.dropPartial src).portCount 1 5 else d

/-- A first frame: it replaces a reassembly of the same source, and a ninth source is not taken up. -/
def Device.canFirst (d : Device) (id stamp : Nat) (bs : List Nat) : Device :=
  let d1 := d.abandon (canSrc id)
  if 8 ≤ d1.net.partials.length then d1.portCount 1 5
  else { d1 with net := { d1.net with partials := d1.net.partials ++ [⟨id, 0, bs, stamp⟩] } }

/-- A frame after the first, number `n`; the last one completes the datagram. -/
def Device.canNext (d : Device) (src n : Nat) (bs : List Nat) (last : Bool) : Device :=
  match d.partialOf src with
  | none => d
  | some r =>
    if n != r.last + 1 then d.abandon src
    else if last then (d.dropPartial src).enqueue 1 ⟨canDest r.id, canSrc r.id, r.bytes ++ bs, 0, r.stamp⟩
    else
      let next : Reassembly := { r with last := n, bytes := r.bytes ++ bs }
      { d with net := { d.net with partials := d.net.partials.map fun (x : Reassembly) => if canSrc x.id == src then next else x } }

/-- A frame of a supported form: SEGCTL, then datagram bytes. -/
def Device.canFrame (d : Device) (id stamp : Nat) (payload : List Nat) : Device :=
  match payload with
  | [] => d.portCount 1 4
  | seg :: bs =>
    let n := seg % 64
    let full := payload.length == 64
    match seg / 64 % 4 with
    | 0 => if n == 0 then d.enqueue 1 ⟨canDest id, canSrc id, bs, 0, stamp⟩ else d.portCount 1 4
    | 1 => if n == 0 && full then d.canFirst id stamp bs else d.portCount 1 4
    | 2 => if full then d.canNext (canSrc id) n bs false else d.portCount 1 4
    | _ => d.canNext (canSrc id) n bs true

/-- A CAN FD frame arrives; `stamp` is the Pacer count at its start. [log 68: DEDUCED] -/
def Device.canRx (d : Device) (id stamp : Nat) (payload : List Nat) (supported : Bool) : Device :=
  if !d.portUp 1 then d else if supported then d.canFrame id stamp payload else d.portCount 1 4

/-- The controller goes bus-off. [log 68: DEDUCED] -/
def Device.busOff (d : Device) (now : Nat) : Device :=
  if !bit (d.netSetting Ix.NET_PORT_EN 0) 1 || d.bitOf Ix.NET_STATUS 3 then d
  else ((d.wrBit Ix.NET_STATUS 0 3 true).wrBit Ix.NET_STATUS 0 2 false).post now 0xD1 0x40 0

/-- The end-to-end streams of a port send FORM 0x00 in their next 8 datagrams (R360). -/
def Device.restartSenders (d : Device) (p : Nat) : Device :=
  { d with net := { d.net with
      senders := d.net.senders.zipIdx.map fun (x : E2eSender × Nat) => if d.rd (Ix.NET_STREAM + x.2) 2 == p then { x.1 with plain := 8 } else x.1 } }

/-- The controller returns from bus-off. -/
def Device.busBack (d : Device) : Device :=
  if !d.bitOf Ix.NET_STATUS 3 then d
  else ((d.wrBit Ix.NET_STATUS 0 3 false).wrBit Ix.NET_STATUS 0 2 true).restartSenders 1

/-! ### 10BASE-T1S (R368, R380, R386) -/

/-- An IP address and a UDP port as the peer of a datagram. -/
def peerOf (address port : Nat) : Nat := address * 2 ^ 16 + port

/-- Reception shows the port as up. [log 68: DEDUCED] -/
def Device.t1sSeen (d : Device) : Device := d.wrBit Ix.NET_STATUS 0 0 true

/-- The payload of a UDP datagram to the KLP port. [log 68: DEDUCED] -/
def Device.udpRx (d : Device) (now peer : Nat) (bs : List Nat) (checksumOk : Bool) : Device :=
  if !d.portUp 0 then d
  else if !checksumOk then d.t1sSeen.portCount 0 3
  else if bs.length < 4 then d.t1sSeen.portCount 0 4
  else d.t1sSeen.enqueue 0 ⟨leNat (bs.take 2), leNat ((bs.drop 2).take 2), bs.drop 4, peer, now⟩

/-- A frame that carries no datagram: what Table 19.1 lists is answered, an Announce is taken, and the rest is counted in ERRORS. [log 68: DEDUCED] -/
def Device.etherRx (d : Device) (kind : EthKind) (forUs : Bool) : Device :=
  if !d.portUp 0 then d
  else
    let d1 := d.t1sSeen
    let ipv4 := d1.netSetting Ix.NET_IP 1 != 0
    match kind with
    | .unsupported => d1.portCount 0 4
    | .announce => d1
    | .arp | .echo => if forUs && ipv4 then { d1 with net := { d1.net with t1sReply := some kind } } else d1
    | .echo6 | .ndp => if forUs then { d1 with net := { d1.net with t1sReply := some kind } } else d1

/-- PLCA is on at an ID other than 0. -/
def Device.plcaFollower (d : Device) : Bool :=
  let id := d.netSetting Ix.NET_T1S 2
  d.portUp 0 && id != 0 && id != 0xFF

/-- No beacon for 4 ms: the PHY falls back to CSMA/CD. -/
def Device.plcaLost (d : Device) (now : Nat) : Device :=
  if !d.plcaFollower || d.net.fallback then d
  else { ((d.wrBit Ix.NET_STATUS 0 1 false).post now 0xD0 0x44 0) with net := { d.net with fallback := true } }

/-- Beacons return. -/
def Device.plcaBack (d : Device) : Device :=
  if !d.portUp 0 || d.netSetting Ix.NET_T1S 2 == 0xFF then d
  else ({ d with net := { d.net with fallback := false } }.wrBit Ix.NET_STATUS 0 1 true).restartSenders 0

/-! ### LIN (R381) -/

/-- A diagnostic request on frame 0x3C: SID 0xBA to this NAD is queued as its KIND and body. [log 68: DEDUCED] -/
def Device.linRx (d : Device) (now nad : Nat) (bs : List Nat) : Device :=
  if !d.portUp 2 then d
  else
    let d1 := { d with net := { d.net with linSeen := some now } }
    match bs with
    | 0xBA :: kind :: body => if nad == d1.netSetting Ix.NET_LIN_NAD 0 then d1.enqueue 2 ⟨0, 0, kind :: body, 0, now⟩ else d1
    | _ => d1

/-- A header for frame 0x3D: the answer that is ready goes out; otherwise the device is silent. [log 68: DEDUCED] -/
def Device.linHeader (d : Device) (now : Nat) : Device :=
  if !d.portUp 2 then d
  else
    let d1 := { d with net := { d.net with linSeen := some now } }
    match d1.net.lin with
    | none => d1
    | some bs => { d1 with net := { d1.net with lin := none } }.send 2 ⟨0, 0, bs, 0, now⟩

/-! ### The host SPI port (R382) -/

/-- RX_READY: a datagram waits for the host. HIRQ is low while it is set. -/
def Device.rxReady (d : Device) : Bool := !(d.portQ 3).wait.isEmpty

/-- SPI_STATUS. [log 69: DEDUCED] -/
def Device.spiStatus (d : Device) : Nat :=
  0x80 + bitIf d.net.spiErr 2 + bitIf ((d.portQ 3).rx.length < 16) 1 + bitIf d.rxReady 0

/-- The device's bytes of a transaction. [log 69: DEDUCED] -/
def Device.spiSays (d : Device) (bs : List Nat) : Device := { d with net := { d.net with spiOut := bs } }

/-- CMD WRITE: length, datagram and CRC-16 as the host sent them. [log 69: DEDUCED] -/
def Device.spiWrite (d : Device) (now : Nat) (bs : List Nat) : Device :=
  let d1 := d.spiSays [d.spiStatus]
  let n := leNat (bs.take 2)
  let g := (bs.drop 2).take n
  let ok := bs.length == n + 4 && leNat (bs.drop (n + 2)) == crc16f (bs.take (n + 2))
  let d2 := { d1 with net := { d1.net with spiErr := !ok } }
  if !ok then d2
  else if n < 4 then d2.portCount 3 4
  else d2.enqueue 3 ⟨leNat (g.take 2), leNat ((g.drop 2).take 2), g.drop 4, 0, now⟩

/-- A datagram as the host reads it. -/
def Datagram.wire (g : Datagram) : List Nat := leBytes 2 g.dest ++ leBytes 2 g.src ++ g.bytes

/-- CMD READ: the datagram that waits longest; it leaves the queue only where the host clocked out its last byte. [log 69: DEDUCED] -/
def Device.spiRead (d : Device) (complete : Bool) : Device :=
  let g := match (d.portQ 3).wait with
    | [] => []
    | x :: _ => x.wire
  let head := leBytes 2 g.length ++ g
  let d1 := d.spiSays (d.spiStatus :: head ++ leBytes 2 (crc16f head))
  if complete then d1.onPort 3 fun q => { q with wait := q.wait.drop 1 } else d1

/-! ### Meanings -/

/-- CAN_FRAME_RX (R379): `ago` is the time in ticks since its start of frame; `supported` says that it is a frame of Table 19.1. [log 78: DESIGN CHOICE] -/
def execCanFrameRx (id : Nat) (payload : List Octet) (supported : Bool) (ago : Nat) (s : State) : Host.Outcome State Fault Refusal :=
  s.onPowered fun now d => d.canRx id (now - ago) payload supported

/-- REASSEMBLY_TIMEOUT (R379): 50 ms without a frame of the reassembly of a source node. -/
def execReassemblyTimeout (src : Nat) (s : State) : Host.Outcome State Fault Refusal := s.onPowered fun _ d => d.abandon src

/-- BUS_OFF (R379). [log 78: DESIGN CHOICE] -/
def execBusOff (s : State) : Host.Outcome State Fault Refusal := s.onPowered fun now d => d.busOff now

/-- BUS_OFF_RECOVERY (R360, R379). -/
def execBusOffRecovery (s : State) : Host.Outcome State Fault Refusal := s.onPowered fun _ d => d.busBack

/-- UDP_DATAGRAM_RX (R380): `peer` is the sender's IP address and UDP port, as `peerOf` gives them; an IPv4 checksum of 0 is a good one. -/
def execUdpDatagramRx (peer : Nat) (bytes : List Octet) (checksumOk : Bool) (s : State) : Host.Outcome State Fault Refusal :=
  s.onPowered fun now d => d.udpRx now peer bytes checksumOk

/-- ETHERNET_FRAME_RX (R368); `forUs` says that the frame asks for an address of this device. [log 78: DESIGN CHOICE] -/
def execEthernetFrameRx (kind : EthKind) (forUs : Bool) (s : State) : Host.Outcome State Fault Refusal :=
  s.onPowered fun _ d => d.etherRx kind forUs

/-- PLCA_LOST (R386). -/
def execPlcaLost (s : State) : Host.Outcome State Fault Refusal := s.onPowered fun now d => d.plcaLost now

/-- PLCA_RESTORED (R360, R386). -/
def execPlcaRestored (s : State) : Host.Outcome State Fault Refusal := s.onPowered fun _ d => d.plcaBack

/-- LIN_REQUEST_RX (R381): the bytes from the SID on. [log 78: DESIGN CHOICE] -/
def execLinRequestRx (nad : Nat) (bytes : List Octet) (s : State) : Host.Outcome State Fault Refusal :=
  s.onPowered fun now d => d.linRx now nad bytes

/-- LIN_RESPONSE_HEADER_RX (R381). -/
def execLinResponseHeaderRx (s : State) : Host.Outcome State Fault Refusal := s.onPowered fun now d => d.linHeader now

/-- SPI_WRITE (R382): every byte the host sends after the command. -/
def execSpiWrite (bytes : List Octet) (s : State) : Host.Outcome State Fault Refusal := s.onPowered fun now d => d.spiWrite now bytes

/-- SPI_READ (R382): `complete` says that the host clocks out the last CRC byte. -/
def execSpiRead (complete : Bool) (s : State) : Host.Outcome State Fault Refusal := s.onPowered fun _ d => d.spiRead complete

/-- SPI_STATUS (R382). -/
def execSpiStatus (s : State) : Host.Outcome State Fault Refusal := s.onPowered fun _ d => d.spiSays [d.spiStatus]

/-- TRANSMITTER_DOMINANT_TIMEOUT (R429) of the LIN transmitter or of CAN FD. -/
def execTransmitterDominantTimeout (lin : Bool) (s : State) : Host.Outcome State Fault Refusal :=
  s.onPowered fun _ d =>
    let p := if lin then 2 else 1
    if d.portUp p then d.portCount p 4 else d

end Sys2Proof.Machine
end

