-- ==== Sys2Proof/Machine/NetTime.lean ====
section
/-! DEFINITION. Authentication of group datagrams (R374, R404), and network time: syncs, their loss, and the KLP sync master (R384, R385). -/

namespace Sys2Proof.Machine

/-! ### Group keys and freshness -/

/-- A key slot can carry group and stream datagrams (R404). -/
def KeySlot.groups (s : KeySlot) : Bool := s.type != 0 && !s.void && bit s.usage 1

/-- The key slot named for a group of `NET_GROUP`. -/
def Device.groupSlot (d : Device) (g : Nat) : Option KeySlot :=
  ((List.range 8).find? fun i => d.rd Ix.NET_GROUP (i + 1) == g).map fun i => d.keySlot (d.rd Ix.NET_GROUP_KEY (i + 1))

/-- Network time in units of 409.6 µs, as FRESH holds it (R374 rule 5). -/
def Device.freshNow (d : Device) (now : Nat) : Nat := d.netTime now / 2 ^ 16 % 2 ^ 32

/-- TIME_LOCKED. -/
def Device.timeLocked (d : Device) : Bool := d.bitOf Ix.NET_STATUS 8

/-- An authentication that fails: discarded, posted and counted. -/
def Device.authFail (d : Device) (now src : Nat) : Device := (d.post now 0xD4 0x41 src).inc Ix.NET_AUTH_COUNT 1

/-- A replay: discarded, posted and counted. -/
def Device.replay (d : Device) (now src : Nat) : Device := (d.post now 0xD4 0x42 src).inc Ix.NET_AUTH_COUNT 2

/-- The freshness of a group datagram from a source (R374 rules 5 and 6); without TIME_LOCKED only SYNC and FOLLOW_UP come here. The Bool says that it is accepted. [log 70: DEDUCED] -/
def Device.groupFresh (d : Device) (now src fresh : Nat) (macOk : Bool) : Bool × Device :=
  let own := d.freshNow now
  let stale := (cellGet d.net.fresh src).any fun last => fresh ≤ last
  if !macOk || (d.timeLocked && own + 610 < fresh) then (false, d.authFail now src)
  else if stale || (d.timeLocked && fresh + 610 < own) then (false, d.replay now src)
  else (true, { d with net := { d.net with fresh := cellPut d.net.fresh src fresh } })

/-! ### Network time (R384) -/

/-- RATE is limited to ±2^32 / 50. [log 71: DEDUCED] -/
def rateLimit : Int := 85899345

/-- Half the frequency error measured since the previous sync, in units of RATE; 0 where there is none. [log 71: DEDUCED] -/
def Device.halfFrequency (d : Device) (t : Int) (p : Nat) : Int :=
  match d.net.clock.prev with
  | none => 0
  | some (p0, t0) =>
    let dp : Int := (p : Int) - p0
    if dp ≤ 0 then 0
    else
      let dn := dp + dp * d.rdS 32 Ix.NET_TIME_RATE / (2 ^ 32 : Nat)
      divRne (divRne ((t - t0 - dn) * (2 ^ 32 : Nat)) dp) 2

/-- A valid sync: the time `t` of the master with the path delay, at Pacer count `p`. [log 71: DEDUCED] -/
def Device.syncAt (d : Device) (t : Int) (p : Nat) : Device :=
  let n := d.netTime p
  let e := sgn 64 (pat 64 (t - n))
  let good := if -160 ≤ e && e ≤ 160 then min 4 (d.net.clock.good + 1) else 0
  let jump := !d.timeLocked || e < -1600 || 1600 < e
  let nRef := pat 64 (if jump then t else (n : Int) + divRne e 2)
  let rate := if jump then d.rdS 32 Ix.NET_TIME_RATE
    else clampI (-rateLimit) rateLimit (d.rdS 32 Ix.NET_TIME_RATE + d.halfFrequency t p)
  let d1 := { d with net := { d.net with clock := { d.net.clock with
    nRef := nRef, pRef := p, good := good, prev := some (p, pat 64 t), held := none } } }
  let d2 := (d1.wrI Ix.NET_TIME_RATE 0 rate).wrI Ix.NET_TIME_ERR 0 (clampI lo32 hi32 e)
  if 4 ≤ good then d2.wrBit Ix.NET_STATUS 0 8 true else d2

/-- Nanoseconds in ticks: × 0.16 (R385), rounded as R29 rounds. [log 71: DEDUCED] -/
def ticksOfNs (ns : Nat) : Int := divRne ((ns : Int) * 4) 25

/-- ROLE of `NET_TIME`.01. -/
def Device.timeRole (d : Device) : Nat := d.rd Ix.NET_TIME 1

/-- The path delay of `NET_TIME`.03 in ticks. -/
def Device.pathDelay (d : Device) : Int := ticksOfNs (d.rd Ix.NET_TIME 3)

/-- A SYNC of a follower on CAN FD is held for its FOLLOW_UP. [log 71: DEDUCED] -/
def Device.holdSync (d : Device) (src seq stamp : Nat) : Device :=
  if bit d.timeRole 1 then { d with net := { d.net with clock := { d.net.clock with held := some (src, seq, stamp) } } } else d

/-- A FOLLOW_UP updates network time where it pairs with the held SYNC, at most 10 ms before. [log 71: DEDUCED] -/
def Device.followUp (d : Device) (now src seq time : Nat) : Device :=
  match d.net.clock.held with
  | none => d
  | some (src0, seq0, stamp) =>
    if !bit d.timeRole 1 || src0 != src || seq0 != seq then d
    else if stamp + 1_600_000 < now then { d with net := { d.net with clock := { d.net.clock with held := none } } }
    else d.syncAt ((time : Int) + d.pathDelay) stamp

/-- An 802.1AS Sync and Follow_Up pair. -/
def Device.gptpSync (d : Device) (domain ns stamp : Nat) : Device :=
  if !d.portUp 0 || !bit d.timeRole 0 || domain != d.rd Ix.NET_TIME 4 then d
  else d.t1sSeen.syncAt (ticksOfNs ns + d.pathDelay) stamp

/-- Four expected syncs are missed. -/
def Device.syncLost (d : Device) (now : Nat) : Device :=
  let role := d.timeRole
  if !d.timeLocked || !(bit role 0 || bit role 1) then d
  else
    let d1 := { d with net := { d.net with clock := { d.net.clock with good := 0, prev := none } } }
    (d1.wrBit Ix.NET_STATUS 0 8 false).post now 0xD5 0x43 (if bit role 0 then 0 else 1)

/-! ### What the device sends of its own (R374, R383, R385) -/

/-- Where a datagram of the device itself goes on 10BASE-T1S: the limited broadcast with IPv4 enabled, otherwise ff02::1, at the KLP port (R380). -/
def Device.broadcastPeer (d : Device) (p : Nat) : Nat :=
  if p == 0 then
    peerOf (if d.netSetting Ix.NET_IP 1 != 0 then 0xFFFF_FFFF else 0xFF02 * 2 ^ 112 + 1) (d.netSetting Ix.NET_UDP_PORT 0)
  else 0

/-- A datagram of the device itself: kind, PRIO bit, flags and body, a block, and the key it is authenticated with. TXN is the requester's in an answer; the spec gives none here, so it is a free value. [log 70: DEDUCED] -/
def Device.sendOwn (d : Device) (now p dest kind : Nat) (high e2e : Bool) (key : Option (List Nat)) (body block : List Nat) : Device :=
  let (txn, d1) := d.free 8
  let toNode := dest % 2 ^ 14 + bitIf (!high) 15
  let head := [0x20 + bitIf key.isSome 4 + bitIf e2e 3, kind, txn, 0] ++ leBytes 2 body.length ++ [0, 0]
  let text := head ++ body ++ block
  match key with
  | none => d1.send p ⟨toNode, d.node, text, d.broadcastPeer p, now⟩
  | some k =>
    let fresh := max (d.freshNow now) (d.net.freshTx + 1)
    let tag := (Config.cmac k (leBytes 2 toNode ++ leBytes 2 d.node ++ text ++ leBytes 4 fresh)).take 8
    { d1 with net := { d1.net with freshTx := fresh } }.send p ⟨toNode, d.node, text ++ leBytes 4 fresh ++ tag, d.broadcastPeer p, now⟩

/-- The sync master sends SYNC and FOLLOW_UP to the group of `NET_TIME`.05, locked or not. [log 70: DEDUCED] -/
def Device.sendSync (d : Device) (now : Nat) : Device :=
  if !bit d.timeRole 2 then d
  else
    let g := d.rd Ix.NET_TIME 5
    let seq := d.net.clock.seq
    let d1 := { d with net := { d.net with clock := { d.net.clock with seq := (seq + 1) % 2 ^ 16 } } }
    match d1.groupSlot g with
    | some slot =>
      if g == 0xFFFF || !slot.groups || d1.vaultShut || d1.node == 0xFFFF || !d1.portUp 1 then (d1.portCount 1 3).portCount 1 3
      else
        let d2 := d1.sendOwn now 1 g 0x30 true false (some slot.key) (leBytes 2 seq) []
        d2.sendOwn now 1 g 0x31 true false (some slot.key) (leBytes 2 seq ++ leBytes 8 (d2.netTime now)) []
    | none => (d1.portCount 1 3).portCount 1 3

/-! ### Streams (R360, R383) -/

/-- The block of R359 that stream `k` sends next over a body, and the stream after it. -/
def Device.senderBlock (d : Device) (k : Nat) (body : List Nat) : List Nat × Device :=
  let s := d.net.senders.getD k ⟨0, 8⟩
  let plain := 0 < s.plain || d.vault.farrier
  let crc := crc32c (if plain then body else s.alive :: body)
  let next : E2eSender := ⟨(s.alive + 1) % 256, s.plain - 1⟩
  ([s.alive, if plain then 0 else 1] ++ leBytes 4 crc, { d with net := { d.net with senders := d.net.senders.set k next } })

/-- Stream `k` cannot send: its port is down, its AUTH lacks TIME_LOCKED or a key, or the device has no node number (R374, R376, R383). -/
def Device.streamBarred (d : Device) (k : Nat) : Bool :=
  let ix := Ix.NET_STREAM + k
  d.node == 0xFFFF || !d.portUp (d.rd ix 2) || bit (d.rd ix 5) 1 && (!d.timeLocked || !(d.keySlot (d.rd ix 6)).groups || d.vaultShut)

/-- Stream `k` sends a datagram, or counts it in DROPPED of its port. -/
def Device.streamSend (d : Device) (now k kind : Nat) (body : List Nat) : Device :=
  let ix := Ix.NET_STREAM + k
  let p := d.rd ix 2
  let flags := d.rd ix 5
  if d.streamBarred k then d.portCount p 3
  else
    let (block, d1) := if bit flags 0 then d.senderBlock k body else ([], d)
    d1.sendOwn now p (d.rd ix 3) kind (kind == 0x21 || bit flags 2) (bit flags 0)
      (if bit flags 1 then some (d.keySlot (d.rd ix 6)).key else none) body block

/-- A NOTIFY of stream `k` as its PERIOD elapses: always, or where a value differs from the last one sent. -/
def Device.notify (d : Device) (now k : Nat) : Device :=
  let ix := Ix.NET_STREAM + k
  let trigger := d.rd ix 1
  if trigger != 1 && trigger != 2 then d
  else
    let c : Caller := ⟨⟨portOf (d.rd ix 2), d.node, 0⟩, true⟩
    let (values, d1) := d.readMany now c .operator (d.streamKeys k)
    if trigger == 2 && values == d1.net.lastSent.getD k [] then d1
    else
      let d2 := d1.streamSend now k 0x20 ([k] ++ leBytes 8 (d1.netTime now) ++ values)
      if d1.streamBarred k then d2 else { d2 with net := { d2.net with lastSent := d2.net.lastSent.set k values } }

/-- FAULT datagrams of stream `k` for the messages taken since the last time. -/
def Device.streamFaults (d : Device) (now k : Nat) : Device :=
  if d.rd (Ix.NET_STREAM + k) 1 != 3 then d
  else d.net.faults.foldl (fun e (p : Posted) => e.streamSend now k 0x21 ([k] ++ leBytes 8 (e.netTime p.tick) ++ leBytes 4 p.message)) d

/-- Every fault stream is served. -/
def Device.sendFaults (d : Device) (now : Nat) : Device :=
  if d.net.faults.isEmpty then d
  else
    let d1 := (List.range 8).foldl (fun e k => e.streamFaults now k) d
    { d1 with net := { d1.net with faults := [] } }

/-! ### Meanings -/

/-- NOTIFY_TIMER (R383) of stream `k`. -/
def execNotifyTimer (k : Fin 8) (s : State) : Host.Outcome State Fault Refusal := s.onRunning fun now d => d.notify now k

/-- SYNC_MASTER_TIMER (R385). -/
def execSyncMasterTimer (s : State) : Host.Outcome State Fault Refusal := s.onRunning fun now d => d.sendSync now

/-- SYNC (R384, R385): a group datagram with its FRESH, whether its CMAC matches, and the time in ticks since its start of frame. -/
def execSync (src seq fresh : Nat) (macOk : Bool) (ago : Nat) (s : State) : Host.Outcome State Fault Refusal :=
  s.onRunning fun now d =>
    if d.vaultShut then d.portCount 1 3
    else
      let (ok, d1) := d.groupFresh now src fresh macOk
      if ok then d1.holdSync src seq (now - ago) else d1

/-- FOLLOW_UP (R385): a group datagram with the master's network time at the SYNC's start of frame. -/
def execFollowUp (src seq time fresh : Nat) (macOk : Bool) (s : State) : Host.Outcome State Fault Refusal :=
  s.onRunning fun now d =>
    if d.vaultShut then d.portCount 1 3
    else
      let (ok, d1) := d.groupFresh now src fresh macOk
      if ok then d1.followUp now src seq time else d1

/-- GPTP_SYNC_RX (R385): domain, the master's time in ns, and the time in ticks since the Sync's start of frame. -/
def execGptpSyncRx (domain ns ago : Nat) (s : State) : Host.Outcome State Fault Refusal :=
  s.onRunning fun now d => d.gptpSync domain ns (now - ago)

/-- SYNC_LOST (R385). -/
def execSyncLost (s : State) : Host.Outcome State Fault Refusal := s.onRunning fun now d => d.syncLost now

/-- FAULT_INTAKE (R336): `arriving` are messages of detections that have no row of their own, `health` the findings of R347 in the Tally's store (2 and 3) and channels (4). The fault streams send what was taken (R383). -/
def execFaultIntake (arriving : List Nat) (health : Nat) (s : State) : Host.Outcome State Fault Refusal :=
  s.onPowered fun now d => (d.faultIntake now arriving health).sendFaults now

/-- LOCKSTEP (R13). -/
def execLockstep (s : State) : Host.Outcome State Fault Refusal := s.onRunning fun now d => (d.lockstep now).sendFaults now

end Sys2Proof.Machine
end

