-- ==== Sys2Proof/Machine/Courier.lean ====
section
/-! DEFINITION. Courier's dispatch (R369): one KLP datagram is taken from the ports in turn, checked (R371, R374 to R378, E2E of R361), served, and answered (R372, R373). -/

namespace Sys2Proof.Machine

/-! ### The datagram (R370) -/

/-- A datagram in its parts. -/
structure Klp where
  dest  : Nat
  src   : Nat
  head  : List Nat
  body  : List Nat
  block : List Nat
  fresh : Nat
  mac   : List Nat
  /-- LEN and flags match the bytes received. -/
  fits  : Bool
  deriving DecidableEq, Repr

/-- VER_FLAGS. -/
def Klp.flags (k : Klp) : Nat := k.head.getD 0 0
/-- AUTH. -/
def Klp.auth (k : Klp) : Bool := bit k.flags 4
/-- E2E. -/
def Klp.e2e (k : Klp) : Bool := bit k.flags 3
/-- RESPONSE. -/
def Klp.response (k : Klp) : Bool := bit k.flags 2
/-- KIND. -/
def Klp.kind (k : Klp) : Nat := k.head.getD 1 0
/-- TXN. -/
def Klp.txn (k : Klp) : Nat := k.head.getD 2 0
/-- SESSION. -/
def Klp.session (k : Klp) : Nat := k.head.getD 3 0 % 16
/-- The source node. -/
def Klp.node (k : Klp) : Nat := k.src % 2 ^ 14

/-- The parts of a datagram; on CAN FD bytes after its end are ignored (R379). -/
def klpOf (can : Bool) (g : Datagram) : Klp :=
  let head := g.bytes.take 8
  let flags := head.getD 0 0
  let len := leNat ((head.drop 4).take 2)
  let nb := if bit flags 3 then 6 else 0
  let na := if bit flags 4 then 12 else 0
  let total := 8 + len + nb + na
  let rest := g.bytes.drop 8
  { dest := g.dest, src := g.src, head := head, body := rest.take len, block := (rest.drop len).take nb
    fresh := leNat ((rest.drop (len + nb)).take 4), mac := (rest.drop (len + nb + 4)).take 8
    fits := len ≤ 1200 && (if can then total ≤ g.bytes.length else total == g.bytes.length) }

/-- The kinds of Table 19.3. -/
def klpKinds : List Nat := [0x01, 0x02, 0x03, 0x04, 0x05, 0x06, 0x07, 0x08, 0x09, 0x0A, 0x0B, 0x0C, 0x0D, 0x10, 0x11, 0x20, 0x21, 0x30, 0x31]

/-- A set reserved bit, a LEN that does not match, an unknown KIND (R371), or AUTH where R374 wants it clear. [log 70: DEDUCED] -/
def Klp.malformed (k : Klp) : Bool :=
  bit k.dest 14 || k.src / 2 ^ 14 != 0 || k.flags % 4 != 0 || k.head.getD 3 0 / 16 != 0 || k.head.getD 7 0 != 0
    || !k.fits || !klpKinds.contains k.kind || (k.auth && (k.kind == 0x0A || k.kind == 0x0B))

/-- The bytes that the CMAC covers (R374 rule 2). -/
def Klp.text (k : Klp) : List Nat := leBytes 2 k.dest ++ leBytes 2 k.src ++ k.head ++ k.body ++ k.block ++ leBytes 4 k.fresh

/-- The CMAC matches under a key. -/
def Klp.macOk (k : Klp) (key : List Nat) : Bool := (Config.cmac key k.text).take 8 == k.mac

/-! ### End-to-end contexts (R361, R375) -/

/-- The check of a block over the payload: its ALIVE and whether FORM is 0x01; none where it fails. -/
def blockCheck (body block : List Nat) : Option (Nat × Bool) :=
  let alive := block.getD 0 0
  let crc := leNat (block.drop 2)
  if block.getD 1 0 == 0 && crc == crc32c body then some (alive, false)
  else if block.getD 1 0 == 1 && crc == crc32c (alive :: body) then some (alive, true)
  else none

/-- What Table 18.4 says of one datagram: it is accepted, the datagrams lost, it is a repeat, and the context after it. -/
def E2eContext.take (c : E2eContext) (check : Option (Nat × Bool)) : Bool × Nat × Bool × E2eContext :=
  match check with
  | none => (false, 0, false, { c with state := .recovery, prev := none })
  | some (_, false) =>
    match c.state with
    | .start => (true, 0, false, c)
    | _ => (true, 0, false, { c with state := .recovery, prev := none })
  | some (alive, true) =>
    match c.state with
    | .start => (true, 0, false, { c with state := .normal, last := alive })
    | .normal =>
      let diff := (alive + 256 - c.last) % 256
      if diff == 0 then (false, 0, true, c)
      else if diff ≤ 4 then (true, diff - 1, false, { c with last := alive })
      else (false, 0, false, { c with state := .recovery, prev := none })
    | .recovery =>
      if c.prev.any fun q => (q + 1) % 256 == alive then (true, 0, false, { c with state := .normal, last := alive, prev := none })
      else (true, 0, false, { c with last := alive, prev := some alive })

/-- The block of a datagram is examined in the context of its SRC and DEST; the Bool says that the datagram is accepted. [log 70: DEDUCED] -/
def Device.e2eTake (d : Device) (src dest : Nat) (body block : List Nat) : Bool × Device :=
  let same := fun (c : E2eContext) => c.src == src && c.dest == dest
  let fresh : E2eContext := ⟨src, dest, .start, 0, none⟩
  let old := (d.net.contexts.find? same).getD fresh
  let old1 := if d.vault.farrier then { old with state := .start } else old
  let (ok, lost, again, c) := old1.take (blockCheck body block)
  let c1 := if d.vault.farrier then { c with state := .start } else c
  let d1 := { d with net := { d.net with contexts := (c1 :: d.net.contexts.filter fun x => !same x).take 16 } }
  let d2 := d1.wr Ix.NET_E2E_COUNT 2 (satAdd 32 (d1.rd Ix.NET_E2E_COUNT 2) lost)
  let d3 := d2.inc Ix.NET_E2E_COUNT (if ok then 1 else if again then 3 else 4)
  (ok, if old1.state != .recovery && c1.state == .recovery then d3.inc Ix.NET_E2E_COUNT 5 else d3)

/-! ### Bodies (R372) -/

/-- The position that three bytes name. -/
def keyOfBytes (bs : List Nat) : ObjKey := keyOf (leNat (bs.take 2)) (bs.getD 2 0)

/-- Positions of three bytes each. -/
def keysOf : Nat → List Nat → List ObjKey
  | 0, _ => []
  | n + 1, bs => keyOfBytes bs :: keysOf n (bs.drop 3)

/-- The bytes of a value of a type code at the front of a list: none for a code without a length or where bytes are missing. -/
def valueFront (code : Nat) (bs : List Nat) : Option (List Nat × List Nat) :=
  let len : Option Nat :=
    if code == 0x13 then bs.head?.map (· + 1)
    else if code == 0x01 || code == 0x02 || code == 0x03 then some 1
    else if code == 0x04 || code == 0x05 || code == 0x09 || code == 0x0A || code == 0x0C || code == 0x12 then some 2
    else if code == 0x06 || code == 0x07 || code == 0x0D || code == 0x0E || code == 0x0F || code == 0x11 then some 4
    else if code == 0x08 || code == 0x0B || code == 0x10 then some 8
    else none
  match len with
  | some n => if n ≤ bs.length then some (bs.take n, bs.drop n) else none
  | none => none

/-- The entries of a WRITE_MULTI body, which they fill exactly. -/
def entriesFrom : Nat → List Nat → Option (List WriteEntry)
  | 0, [] => some []
  | 0, _ => none
  | n + 1, bs =>
    if bs.length < 4 then none
    else match valueFront (bs.getD 3 0) (bs.drop 4) with
      | none => none
      | some (v, rest) => (entriesFrom n rest).map fun es => ⟨keyOfBytes bs, v⟩ :: es

/-! ### Serving -/

/-- A body that does not have the form of its KIND. -/
def Device.badBody (d : Device) (c : Caller) : Device := d.serve c plainAsked fun _ e => reply 0x11 e

/-- A request by its KIND and body is served (Table 19.3). -/
def Device.serveKind (d : Device) (now : Nat) (c : Caller) (dest kind : Nat) (b : List Nat) : Device :=
  let k := keyOfBytes b
  let n := b.length
  let free : Caller := { c with rq := { c.rq with session := 0 } }
  if kind == 0x01 && n == 4 && b.getD 3 0 ≤ 1 then
    d.serve c ⟨[k], true, true⟩ fun role e => e.readReply now c role (b.getD 3 0 == 1) k
  else if kind == 0x02 && 4 ≤ n then
    d.serve c ⟨[k], false, true⟩ fun role e => e.writeReply now c role k (b.drop 4)
  else if kind == 0x03 && n == 3 then d.serve c ⟨[k], true, true⟩ fun _ e => e.describeReply k
  else if kind == 0x04 && n == 1 + 3 * b.getD 0 0 then
    d.serve c ⟨keysOf (b.getD 0 0) (b.drop 1), true, false⟩ fun role e => e.readMultiReply now c role (keysOf (b.getD 0 0) (b.drop 1))
  else if kind == 0x05 && 1 ≤ n then
    match entriesFrom (b.getD 0 0) (b.drop 1) with
    | some es => d.serve c ⟨es.map (·.key), false, false⟩ fun role e => e.writeMultiReply now c role es none
    | none => d.badBody c
  else if kind == 0x06 && n == 13 then
    d.serve c ⟨[k], false, false⟩ fun role e =>
      e.segWriteStart now c role k (bytesAt b 3 2) (bytesAt b 5 2) (bytesAt b 7 2) (bytesAt b 9 4)
  else if kind == 0x07 && 2 ≤ n then
    d.serve c ⟨d.openKeys c.rq, false, false⟩ fun role e => e.segWriteData now c role (bytesAt b 0 2) (b.drop 2)
  else if kind == 0x08 && n == 7 then
    d.serve c ⟨[k], true, false⟩ fun _ e => e.segReadStart now c k (bytesAt b 3 2) (bytesAt b 5 2)
  else if kind == 0x09 && n == 4 then
    d.serve c ⟨d.openKeys c.rq, true, false⟩ fun _ e => e.segReadData c (bytesAt b 0 2) (bytesAt b 2 2)
  else if kind == 0x0A && n == 2 then
    d.serve free plainAsked fun _ e => e.openReply now c.rq (b.getD 0 0) (b.getD 1 0)
  else if kind == 0x0B && 1 ≤ n then d.serve free plainAsked fun _ e => e.proveReply now c.rq dest b
  else if kind == 0x0C && n == 0 then d.serve c plainAsked fun _ e => e.closeReply c.rq
  else if kind == 0x0D && n == 17 then
    d.serve c plainAsked fun _ e => e.receiptReply now (b.take 16) (b.getD 16 0)
  else if kind == 0x10 && n == 10 then
    d.serve c ⟨[], false, false⟩ fun role e => e.assignReply now c role (bytesAt b 0 8) (bytesAt b 8 2)
  else if kind == 0x11 && n == 0 then d.serve c plainAsked fun _ e => e.discoverReply
  else d.badBody c

/-! ### Answers (R373) -/

/-- The session whose key authenticates the answer to a datagram: proven by method 1 or 2. -/
def Device.keyedSession (d : Device) (rq : Requester) : Option Session := (d.sessionOf rq).filter fun s => s.proven && s.method != 0

/-- An answer goes to the request's SRC on its port; `src` is the number the device sends with, and `ses` the session whose key it is authenticated with. -/
def Device.sendAnswer (d : Device) (now p : Nat) (g : Datagram) (k : Klp) (src : Nat) (ses : Option Session) (a : Answer) : Device :=
  let body := if a.status == 0 then a.data else if k.kind == 0x05 && a.position != 0 then [a.position] else []
  let toNode := 0x8000 + k.node
  let text := [0x24 + bitIf ses.isSome 4, k.kind, k.txn, k.session] ++ leBytes 2 body.length ++ [a.status, 0] ++ body
  match ses with
  | none => d.send p ⟨toNode, src, text, g.peer, now⟩
  | some s =>
    let fresh := match d.server.sessions.find? fun x => x.number == s.number with
      | some x => x.freshTx + 1
      | none => s.freshTx + 1
    let tag := (Config.cmac s.key (leBytes 2 toNode ++ leBytes 2 src ++ text ++ leBytes 4 fresh)).take 8
    let d1 := { d with server := { d.server with
      sessions := d.server.sessions.map fun (x : Session) => if x.number == s.number then { x with freshTx := fresh } else x } }
    d1.send p ⟨toNode, src, text ++ leBytes 4 fresh ++ tag, g.peer, now⟩

/-- The number the device sends with: 0x3FFF while it is unassigned (R376). -/
def Device.ownSrc (d : Device) : Nat := if d.node == 0xFFFF then 0x3FFF else d.node

/-- The last answer of a pair of source node and session is kept. -/
def Device.keep (d : Device) (a : KeptAnswer) : Device :=
  { d with net := { d.net with
      kept := a :: d.net.kept.filter fun x => !(x.node == a.node && x.session == a.session) } }

/-- The kept answer that a request repeats (R373). [log 70: DEDUCED] -/
def Device.repeated (d : Device) (k : Klp) : Option KeptAnswer :=
  d.net.kept.find? fun x => x.node == k.node && x.session == k.session && x.txn == k.txn && x.kind == k.kind && x.body == k.body

/-- An answer is sent and kept. After a reset nothing of it is left to send. -/
def Device.answerTo (d : Device) (now p : Nat) (g : Datagram) (k : Klp) (src : Nat) (ses : Option Session) (a : Answer) : Device :=
  if !d.isPowered then d
  else (d.sendAnswer now p g k src ses a).keep ⟨k.node, k.session, k.txn, k.kind, k.body, a⟩

/-- A datagram that passed every check is served and answered, or its kept answer is sent again. [log 70: DEDUCED] -/
def Device.serveDatagram (d : Device) (now p : Nat) (g : Datagram) (k : Klp) (ses : Option Session) : Device :=
  match d.repeated k with
  | some x => d.sendAnswer now p g k d.ownSrc ses x.answer
  | none =>
    let d1 := d.serveKind now (.of ⟨portOf p, k.node, k.session⟩) (k.dest % 2 ^ 14) k.kind k.body
    d1.answerTo now p g k d.ownSrc ses d1.server.answer

/-- The end-to-end block, where there is one, then the request. -/
def Device.checkedServe (d : Device) (now p : Nat) (g : Datagram) (k : Klp) (ses : Option Session) : Device :=
  if k.e2e then
    let (ok, d1) := d.e2eTake k.node (k.dest % 2 ^ 14) k.body k.block
    if ok then d1.serveDatagram now p g k ses else d1
  else d.serveDatagram now p g k ses

/-- An answer that says NO_SESSION, with AUTH clear (R374 rule 4). -/
def Device.noSession (d : Device) (now p : Nat) (g : Datagram) (k : Klp) : Device :=
  (d.inc Ix.DEV_ERR_COUNT).answerTo now p g k d.ownSrc none ⟨0x0C, 0, []⟩

/-- The FRESH of a session's datagram is taken. -/
def Device.freshTaken (d : Device) (n fresh : Nat) : Device :=
  { d with server := { d.server with
      sessions := d.server.sessions.map fun (x : Session) => if x.number == n then { x with freshRx := fresh } else x } }

/-- A datagram to the device itself: its session and authentication (R374). [log 70: DEDUCED] -/
def Device.toSelf (d : Device) (now p : Nat) (g : Datagram) (k : Klp) : Device :=
  let rq : Requester := ⟨portOf p, k.node, k.session⟩
  if k.kind == 0x20 || k.kind == 0x21 || k.kind == 0x30 || k.kind == 0x31 then d.portCount p 4
  else if k.kind == 0x0A || k.kind == 0x0B then d.checkedServe now p g k none
  else if k.auth && d.vaultShut then d.portCount p 3
  else if k.session == 0 then (if k.auth then d.noSession now p g k else d.checkedServe now p g k none)
  else match d.sessionOf rq with
    | none => d.noSession now p g k
    | some s =>
      if !s.proven then d.noSession now p g k
      else if s.method == 0 then (if k.auth then d.authFail now k.node else d.checkedServe now p g k none)
      else if !k.auth || s.freshRx + 1024 < k.fresh then d.authFail now k.node
      else if k.fresh ≤ s.freshRx then d.replay now k.node
      else if !k.macOk s.key then d.authFail now k.node
      else (d.freshTaken s.number k.fresh).checkedServe now p g k (some s)

/-! ### Groups (R377) -/

/-- A datagram to one of the device's groups. [log 70: DEDUCED] -/
def Device.toGroup (d : Device) (now p : Nat) (g : Datagram) (k : Klp) (group : Nat) : Device :=
  let sync := k.kind == 0x30 || k.kind == 0x31
  if !sync && k.kind != 0x02 && k.kind != 0x05 then d.portCount p 4
  else if !k.auth then d.authFail now k.node
  else match d.groupSlot group with
    | none => d.portCount p 3
    | some slot =>
      if !slot.groups || d.vaultShut || (!sync && !d.timeLocked) then d.portCount p 3
      else
        let (ok, d1) := d.groupFresh now k.node k.fresh (k.macOk slot.key)
        if !ok then d1
        else if bit (d1.rd Ix.NET_CFG) 0 && !k.e2e then d1.inc Ix.NET_E2E_COUNT 4
        else
          let (taken, d2) := if k.e2e then d1.e2eTake k.node group k.body k.block else (true, d1)
          if !taken then d2
          else if k.kind == 0x30 then
            (if p == 1 && k.body.length == 2 then d2.holdSync k.node (leNat k.body) g.stamp else d2.portCount p 4)
          else if k.kind == 0x31 then
            (if p == 1 && k.body.length == 10 then d2.followUp now k.node (bytesAt k.body 0 2) (bytesAt k.body 2 8) else d2.portCount p 4)
          else d2.serveKind now ⟨⟨portOf p, k.node, 0⟩, true⟩ group k.kind k.body

/-! ### Addresses (R376 to R378) -/

/-- A datagram on a field port with the device's own number as SRC: kind 0x45, once per port until CONFLICT is cleared. [log 70: DEDUCED] -/
def Device.conflict (d : Device) (now p : Nat) (k : Klp) : Device :=
  let unassigned := d.node == 0x3FFF && k.response && (k.kind == 0x10 || k.kind == 0x11)
  if p == 3 || k.node != d.node || unassigned || d.net.conflict.contains p then d
  else
    let d1 := { d with net := { d.net with conflict := d.net.conflict ++ [p] } }
    (d1.post now (srcByte 0xD p) 0x45 p).wrBit Ix.NET_STATUS 0 10 true

/-- A datagram is taken up according to its DEST. -/
def Device.address (d : Device) (now p : Nat) (g : Datagram) (k : Klp) : Device :=
  let dest := k.dest % 2 ^ 14
  let bad := fun (e : Device) => (e.inc Ix.DEV_ERR_COUNT).answerTo now p g k e.ownSrc (e.keyedSession ⟨portOf p, k.node, k.session⟩) ⟨0x11, 0, []⟩
  let mine := fun (e : Device) => if k.malformed then bad e else e.toSelf now p g k
  if p == 3 || dest == d.node then mine d
  else if d.node == 0xFFFF && dest == 0x3FFF then (if k.kind == 0x10 || k.kind == 0x11 then mine d else d)
  else if (List.range 8).any fun i => d.rd Ix.NET_GROUP (i + 1) == dest then
    (if k.malformed then d.portCount p 4 else d.toGroup now p g k dest)
  else d

/-- A datagram of port `p` other than LIN. -/
def Device.takeDatagram (d : Device) (now p : Nat) (g : Datagram) : Device :=
  if g.bytes.length < 8 then d.portCount p 4
  else
    let k := klpOf (p == 1) g
    if k.flags / 32 != 1 then d
    else
      let d1 := d.conflict now p k
      if k.response then d1 else d1.address now p g k

/-- A LIN request: its answer waits for the header of frame 0x3D (R381). -/
def Device.takeLin (d : Device) (now : Nat) (g : Datagram) : Device :=
  let c : Caller := .of ⟨.lin, 0, 0⟩
  let kind := g.bytes.getD 0 0
  let d1 := if klpKinds.contains kind then d.serveKind now c 0 kind (g.bytes.drop 1) else d.badBody c
  let a := d1.server.answer
  if !d1.isPowered then d1
  else { d1 with net := { d1.net with lin := some ([0xFA, a.status] ++ (if a.status == 0 then a.data else [])) } }

/-- The next port with work waiting, from the one whose turn it is (R369). -/
def Device.nextPort (d : Device) : Option Nat :=
  ((List.range 4).map fun i => (d.net.turn + i) % 4).find? fun p => !(d.portQ p).rx.isEmpty

/-- Courier takes the next datagram. -/
def Device.dispatch (d : Device) (now : Nat) : Device :=
  match d.nextPort with
  | none => d
  | some p =>
    match (d.portQ p).rx with
    | [] => d
    | g :: rest =>
      let d1 := d.onPort p fun q => { q with rx := rest }
      let d2 := { d1 with net := { d1.net with turn := (p + 1) % 4 } }
      if p == 2 then d2.takeLin now g else d2.takeDatagram now p g

/-- A receiving context saw no datagram for 1 s. -/
def Device.contextIdle (d : Device) (src dest : Nat) : Device :=
  { d with net := { d.net with contexts := d.net.contexts.map fun (c : E2eContext) => if c.src == src && c.dest == dest then { c with state := .start } else c } }

/-! ### Meanings -/

/-- DATAGRAM_DISPATCH (R369). [log 77: DESIGN CHOICE] -/
def execDatagramDispatch (s : State) : Host.Outcome State Fault Refusal := s.onPowered fun now d => d.dispatch now

/-- E2E_CONTEXT_TIMEOUT (R375) of the context of a pair of SRC and DEST. -/
def execE2eContextTimeout (src dest : Nat) (s : State) : Host.Outcome State Fault Refusal := s.onPowered fun _ d => d.contextIdle src dest

end Sys2Proof.Machine
end

