-- ==== Sys2Proof/Machine/Dispatch.lean ====
section
/-! DEFINITION. What each command does to everything but the queue of waiting commands: one meaning per command. -/

namespace Sys2Proof.Machine

def exec (i : Instr) (s : State) : Host.Outcome State Fault Refusal :=
  match i with
  | .girthFrameRx side bytes => Sys2Proof.Machine.execGirthFrameRx side bytes s
  | .girthIdleTimer side => Sys2Proof.Machine.execGirthIdleTimer side s
  | .girthAckTimeout side => Sys2Proof.Machine.execGirthAckTimeout side s
  | .girthRxSilence side => Sys2Proof.Machine.execGirthRxSilence side s
  | .girthRestartTimer side => Sys2Proof.Machine.execGirthRestartTimer side s
  | .girthRestartFrameRx side bytes => Sys2Proof.Machine.execGirthRestartFrameRx side bytes s
  | .pacerStrobe => Sys2Proof.Machine.execPacerStrobe s
  | .strobeLost => Sys2Proof.Machine.execStrobeLost s
  | .lockstep => Sys2Proof.Machine.execLockstep s
  | .teamsterRestarted => Sys2Proof.Machine.execTeamsterRestarted s
  | .handshakeStall source channel => Sys2Proof.Machine.execHandshakeStall source channel s
  | .delayLineSwap taps fits => Sys2Proof.Machine.execDelayLineSwap taps fits s
  | .xtalLost => Sys2Proof.Machine.execXtalLost s
  | .pacSourceWrite rq value => Sys2Proof.Machine.execPacSourceWrite rq value s
  | .paceRequest rq value => Sys2Proof.Machine.execPaceRequest rq value s
  | .paceChangeDone => Sys2Proof.Machine.execPaceChangeDone s
  | .paceFail => Sys2Proof.Machine.execPaceFail s
  | .baseCommit rq n => Sys2Proof.Machine.execBaseCommit rq n s
  | .stagedDiscard rq block => Sys2Proof.Machine.execStagedDiscard rq block s
  | .satClear rq n => Sys2Proof.Machine.execSatClear rq n s
  | .read rq key staged => Sys2Proof.Machine.execRead rq key staged s
  | .write rq key bytes => Sys2Proof.Machine.execWrite rq key bytes s
  | .describe rq key => Sys2Proof.Machine.execDescribe rq key s
  | .readMulti rq keys => Sys2Proof.Machine.execReadMulti rq keys s
  | .writeMulti rq entries late => Sys2Proof.Machine.execWriteMulti rq entries late s
  | .segWriteStart rq key first count length crc => Sys2Proof.Machine.execSegWriteStart rq key first count length crc s
  | .segWriteData rq offset bytes => Sys2Proof.Machine.execSegWriteData rq offset bytes s
  | .segReadStart rq key first count => Sys2Proof.Machine.execSegReadStart rq key first count s
  | .segReadData rq offset length => Sys2Proof.Machine.execSegReadData rq offset length s
  | .segTransferTimeout rq => Sys2Proof.Machine.execSegTransferTimeout rq s
  | .openSession rq role slot => Sys2Proof.Machine.execOpenSession rq role slot s
  | .prove rq dest body => Sys2Proof.Machine.execProve rq dest body s
  | .closeSession rq => Sys2Proof.Machine.execCloseSession rq s
  | .sessionIdleTimeout session => Sys2Proof.Machine.execSessionIdleTimeout session s
  | .proofTimeout session => Sys2Proof.Machine.execProofTimeout session s
  | .lockoutExpire node => Sys2Proof.Machine.execLockoutExpire node s
  | .receipt rq nonce mask => Sys2Proof.Machine.execReceipt rq nonce mask s
  | .assign rq serial node => Sys2Proof.Machine.execAssign rq serial node s
  | .discover rq => Sys2Proof.Machine.execDiscover rq s
  | .stoPost rq => Sys2Proof.Machine.execStoPost rq s
  | .postComplete micros failed => Sys2Proof.Machine.execPostComplete micros failed s
  | .restoreDefaults rq => Sys2Proof.Machine.execRestoreDefaults rq s
  | .vbatStart mv => Sys2Proof.Machine.execVbatStart mv s
  | .vbatAbsent mv => Sys2Proof.Machine.execVbatAbsent mv s
  | .brownOutWarn mv => Sys2Proof.Machine.execBrownOutWarn mv s
  | .brownOutClear mv => Sys2Proof.Machine.execBrownOutClear mv s
  | .vbatUv mv => Sys2Proof.Machine.execVbatUv mv s
  | .powerLossEnd => Sys2Proof.Machine.execPowerLossEnd s
  | .vbatOv mv => Sys2Proof.Machine.execVbatOv mv s
  | .vbatOvClear mv => Sys2Proof.Machine.execVbatOvClear mv s
  | .vgdUv mv => Sys2Proof.Machine.execVgdUv mv s
  | .vcc5Uv mv => Sys2Proof.Machine.execVcc5Uv mv s
  | .vioUv mv => Sys2Proof.Machine.execVioUv mv s
  | .vholdReady mv riseUs => Sys2Proof.Machine.execVholdReady mv riseUs s
  | .vholdReadyTimeout => Sys2Proof.Machine.execVholdReadyTimeout s
  | .vholdMinimum => Sys2Proof.Machine.execVholdMinimum s
  | .nrstLow widthNs => Sys2Proof.Machine.execNrstLow widthNs s
  | .softwareReset rq => Sys2Proof.Machine.execSoftwareReset rq s
  | .resetRelease vbat vio vgd vcc5 vhold bootUs selfTest => Sys2Proof.Machine.execResetRelease vbat vio vgd vcc5 vhold bootUs selfTest s
  | .crystalStable => Sys2Proof.Machine.execCrystalStable s
  | .serviceModeEnter vio => Sys2Proof.Machine.execServiceModeEnter vio s
  | .serviceExit => Sys2Proof.Machine.execServiceExit s
  | .trialConfirm => Sys2Proof.Machine.execTrialConfirm s
  | .bootBankPrefWrite rq bank => Sys2Proof.Machine.execBootBankPrefWrite rq bank s
  | .checkpointTimer => Sys2Proof.Machine.execCheckpointTimer s
  | .sleepEnter rq => Sys2Proof.Machine.execSleepEnter rq s
  | .wakeEvent source => Sys2Proof.Machine.execWakeEvent source s
  | .wakeTimer => Sys2Proof.Machine.execWakeTimer s
  | .otpProgram rq => Sys2Proof.Machine.execOtpProgram rq s
  | .otpSeal rq => Sys2Proof.Machine.execOtpSeal rq s
  | .otpLock rq => Sys2Proof.Machine.execOtpLock rq s
  | .otpLockVoid rq => Sys2Proof.Machine.execOtpLockVoid rq s
  | .otpCommandDone weak missing => Sys2Proof.Machine.execOtpCommandDone weak missing s
  | .calRecordWrite rq bytes => Sys2Proof.Machine.execCalRecordWrite rq bytes s
  | .hitchCommit rq => Sys2Proof.Machine.execHitchCommit rq s
  | .monitorsOn => Sys2Proof.Machine.execMonitorsOn s
  | .gateFault leg high toOff => Sys2Proof.Machine.execGateFault leg high toOff s
  | .bstUv leg => Sys2Proof.Machine.execBstUv leg s
  | .bstUvRelease leg => Sys2Proof.Machine.execBstUvRelease leg s
  | .vgdLow vgdMv vbatMv => Sys2Proof.Machine.execVgdLow vgdMv vbatMv s
  | .guardDelayEnd leg high => Sys2Proof.Machine.execGuardDelayEnd leg high s
  | .tripLowTurnOn leg => Sys2Proof.Machine.execTripLowTurnOn leg s
  | .vdsAction seen high => Sys2Proof.Machine.execVdsAction seen high s
  | .overcurrent seen => Sys2Proof.Machine.execOvercurrent seen s
  | .tripPin pinB widthNs => Sys2Proof.Machine.execTripPin pinB widthNs s
  | .hobbleCmdWrite rq value => Sys2Proof.Machine.execHobbleCmdWrite rq value s
  | .tripClear rq mask => Sys2Proof.Machine.execTripClear rq mask s
  | .tripQualEnd source leg => Sys2Proof.Machine.execTripQualEnd source leg s
  | .edpCommit rq n => Sys2Proof.Machine.execEdpCommit rq n s
  | .setPosted n fine => Sys2Proof.Machine.execSetPosted n fine s
  | .periodDecided n => Sys2Proof.Machine.execPeriodDecided n s
  | .firstPeriodStart n => Sys2Proof.Machine.execFirstPeriodStart n s
  | .eventFire n quarter eighth => Sys2Proof.Machine.execEventFire n quarter eighth s
  | .sliceConversionDone done raw parityOk mv => Sys2Proof.Machine.execSliceConversionDone done raw parityOk mv s
  | .monitorConversionOwed => Sys2Proof.Machine.execMonitorConversionOwed s
  | .dropped n => Sys2Proof.Machine.execDropped n s
  | .equalisationDue slice trim checkOk => Sys2Proof.Machine.execEqualisationDue slice trim checkOk s
  | .csCommonMode leg outside => Sys2Proof.Machine.execCsCommonMode leg outside s
  | .ilArm rq => Sys2Proof.Machine.execIlArm rq s
  | .ilAbort rq => Sys2Proof.Machine.execIlAbort rq s
  | .ilBurstDone raws => Sys2Proof.Machine.execIlBurstDone raws s
  | .calZero rq => Sys2Proof.Machine.execCalZero rq s
  | .calFull rq => Sys2Proof.Machine.execCalFull rq s
  | .calApply rq => Sys2Proof.Machine.execCalApply rq s
  | .calMeasureDone => Sys2Proof.Machine.execCalMeasureDone s
  | .cnvFeCommit rq => Sys2Proof.Machine.execCnvFeCommit rq s
  | .ceCommit rq n => Sys2Proof.Machine.execCeCommit rq n s
  | .bankWriteDone n => Sys2Proof.Machine.execBankWriteDone n s
  | .bankSelWrite rq n bank => Sys2Proof.Machine.execBankSelWrite rq n bank s
  | .slotComputationDone n slot => Sys2Proof.Machine.execSlotComputationDone n slot s
  | .pendingComputationDone n => Sys2Proof.Machine.execPendingComputationDone n s
  | .fullComputationDone n => Sys2Proof.Machine.execFullComputationDone n s
  | .hitRateUpdate n => Sys2Proof.Machine.execHitRateUpdate n s
  | .hallEdge n u v w => Sys2Proof.Machine.execHallEdge n u v w s
  | .hallTimeout n => Sys2Proof.Machine.execHallTimeout n s
  | .encoderEdge n ab index => Sys2Proof.Machine.execEncoderEdge n ab index s
  | .axFeCommit rq n => Sys2Proof.Machine.execAxFeCommit rq n s
  | .stStart rq n => Sys2Proof.Machine.execStStart rq n s
  | .stStop rq n => Sys2Proof.Machine.execStStop rq n s
  | .catchWindowEnd n => Sys2Proof.Machine.execCatchWindowEnd n s
  | .dwellEnd n => Sys2Proof.Machine.execDwellEnd n s
  | .alignEnd n => Sys2Proof.Machine.execAlignEnd n s
  | .pulseSequenceDone n => Sys2Proof.Machine.execPulseSequenceDone n s
  | .handoverWaitExpire n => Sys2Proof.Machine.execHandoverWaitExpire n s
  | .attemptPauseEnd n => Sys2Proof.Machine.execAttemptPauseEnd n s
  | .lockedRotor n => Sys2Proof.Machine.execLockedRotor n s
  | .stCommit rq n => Sys2Proof.Machine.execStCommit rq n s
  | .stepTick => Sys2Proof.Machine.execStepTick s
  | .profileTick => Sys2Proof.Machine.execProfileTick s
  | .push rq n => Sys2Proof.Machine.execPush rq n s
  | .flush rq n => Sys2Proof.Machine.execFlush rq n s
  | .quickStop rq n => Sys2Proof.Machine.execQuickStop rq n s
  | .homeCmd rq n => Sys2Proof.Machine.execHomeCmd rq n s
  | .homePinEdge n level steps => Sys2Proof.Machine.execHomePinEdge n level steps s
  | .standstillCheckpointDone n => Sys2Proof.Machine.execStandstillCheckpointDone n s
  | .holdDelayEnd n => Sys2Proof.Machine.execHoldDelayEnd n s
  | .moveDwellEnd n => Sys2Proof.Machine.execMoveDwellEnd n s
  | .prfCommit rq n => Sys2Proof.Machine.execPrfCommit rq n s
  | .intCommit rq => Sys2Proof.Machine.execIntCommit rq s
  | .intPush rq => Sys2Proof.Machine.execIntPush rq s
  | .intFlush rq => Sys2Proof.Machine.execIntFlush rq s
  | .intQuickStop rq => Sys2Proof.Machine.execIntQuickStop rq s
  | .svcCommit rq => Sys2Proof.Machine.execSvcCommit rq s
  | .runCmd rq n => Sys2Proof.Machine.execRunCmd rq n s
  | .stopCmd rq n => Sys2Proof.Machine.execStopCmd rq n s
  | .serviceTick => Sys2Proof.Machine.execServiceTick s
  | .dryDetected n => Sys2Proof.Machine.execDryDetected n s
  | .airlockPhaseEnd n => Sys2Proof.Machine.execAirlockPhaseEnd n s
  | .dryWaitEnd n => Sys2Proof.Machine.execDryWaitEnd n s
  | .blockWaitEnd n => Sys2Proof.Machine.execBlockWaitEnd n s
  | .jog rq k positive => Sys2Proof.Machine.execJog rq k positive s
  | .seatStop rq => Sys2Proof.Machine.execSeatStop rq s
  | .recall rq m => Sys2Proof.Machine.execRecall rq m s
  | .storeCmd rq m => Sys2Proof.Machine.execStoreCmd rq m s
  | .calibrate rq k => Sys2Proof.Machine.execCalibrate rq k s
  | .pinch k => Sys2Proof.Machine.execPinch k s
  | .seatEndStop => Sys2Proof.Machine.execSeatEndStop s
  | .tempSourceLost n => Sys2Proof.Machine.execTempSourceLost n s
  | .tempSourceValid n => Sys2Proof.Machine.execTempSourceValid n s
  | .reinEdge r level ago => Sys2Proof.Machine.execReinEdge r level ago s
  | .reinTimeout r => Sys2Proof.Machine.execReinTimeout r s
  | .reinFailsafe r => Sys2Proof.Machine.execReinFailsafe r s
  | .reinCommit rq => Sys2Proof.Machine.execReinCommit rq s
  | .thermalReading sensor made clip selfTestOk value => Sys2Proof.Machine.execThermalReading sensor made clip selfTestOk value s
  | .riseRateUpdate => Sys2Proof.Machine.execRiseRateUpdate s
  | .fastSamplingExit sensor => Sys2Proof.Machine.execFastSamplingExit sensor s
  | .sensorRecovered sensor => Sys2Proof.Machine.execSensorRecovered sensor s
  | .thmCommit rq => Sys2Proof.Machine.execThmCommit rq s
  | .faultIntake arriving health => Sys2Proof.Machine.execFaultIntake arriving health s
  | .handleEscalation message => Sys2Proof.Machine.execHandleEscalation message s
  | .tlyAck rq message => Sys2Proof.Machine.execTlyAck rq message s
  | .enable rq n => Sys2Proof.Machine.execEnable rq n s
  | .disable rq n => Sys2Proof.Machine.execDisable rq n s
  | .safeRelease rq => Sys2Proof.Machine.execSafeRelease rq s
  | .errnRelease rq => Sys2Proof.Machine.execErrnRelease rq s
  | .errTimeExpire => Sys2Proof.Machine.execErrTimeExpire s
  | .firstClear rq => Sys2Proof.Machine.execFirstClear rq s
  | .tlyInject rq message => Sys2Proof.Machine.execTlyInject rq message s
  | .logRecordWritten ok => Sys2Proof.Machine.execLogRecordWritten ok s
  | .timerSelfCheck ok => Sys2Proof.Machine.execTimerSelfCheck ok s
  | .scan rq => Sys2Proof.Machine.execScan rq s
  | .continueCmd rq => Sys2Proof.Machine.execContinueCmd rq s
  | .scanCompare rq => Sys2Proof.Machine.execScanCompare rq s
  | .abortCmd rq => Sys2Proof.Machine.execAbortCmd rq s
  | .scanDone => Sys2Proof.Machine.execScanDone s
  | .asyFeed rq bytes => Sys2Proof.Machine.execAsyFeed rq bytes s
  | .asyRestart rq => Sys2Proof.Machine.execAsyRestart rq s
  | .asyPreset rq preset => Sys2Proof.Machine.execAsyPreset rq preset s
  | .asyParamWrite rq param value => Sys2Proof.Machine.execAsyParamWrite rq param value s
  | .assaySelfTest wrong => Sys2Proof.Machine.execAssaySelfTest wrong s
  | .fwScanTimer => Sys2Proof.Machine.execFwScanTimer s
  | .datagramDispatch => Sys2Proof.Machine.execDatagramDispatch s
  | .canFrameRx id payload supported ago => Sys2Proof.Machine.execCanFrameRx id payload supported ago s
  | .reassemblyTimeout src => Sys2Proof.Machine.execReassemblyTimeout src s
  | .busOff => Sys2Proof.Machine.execBusOff s
  | .udpDatagramRx peer bytes checksumOk => Sys2Proof.Machine.execUdpDatagramRx peer bytes checksumOk s
  | .linRequestRx nad bytes => Sys2Proof.Machine.execLinRequestRx nad bytes s
  | .spiWrite bytes => Sys2Proof.Machine.execSpiWrite bytes s
  | .spiRead complete => Sys2Proof.Machine.execSpiRead complete s
  | .spiStatus => Sys2Proof.Machine.execSpiStatus s
  | .notifyTimer k => Sys2Proof.Machine.execNotifyTimer k s
  | .syncMasterTimer => Sys2Proof.Machine.execSyncMasterTimer s
  | .sync src seq fresh macOk ago => Sys2Proof.Machine.execSync src seq fresh macOk ago s
  | .followUp src seq time fresh macOk => Sys2Proof.Machine.execFollowUp src seq time fresh macOk s
  | .gptpSyncRx domain ns ago => Sys2Proof.Machine.execGptpSyncRx domain ns ago s
  | .syncLost => Sys2Proof.Machine.execSyncLost s
  | .plcaLost => Sys2Proof.Machine.execPlcaLost s
  | .e2eContextTimeout src dest => Sys2Proof.Machine.execE2eContextTimeout src dest s
  | .netCommit rq => Sys2Proof.Machine.execNetCommit rq s
  | .provision rq => Sys2Proof.Machine.execProvision rq s
  | .fieldCmd rq => Sys2Proof.Machine.execFieldCmd rq s
  | .retire rq => Sys2Proof.Machine.execRetire rq s
  | .rootKeyWrite rq bytes => Sys2Proof.Machine.execRootKeyWrite rq bytes s
  | .keyImport rq bytes => Sys2Proof.Machine.execKeyImport rq bytes s
  | .keyDelete rq slot => Sys2Proof.Machine.execKeyDelete rq slot s
  | .mrExtend rq bytes => Sys2Proof.Machine.execMrExtend rq bytes s
  | .tamperAlarm sensor => Sys2Proof.Machine.execTamperAlarm sensor s
  | .selfTestFail code => Sys2Proof.Machine.execSelfTestFail code s
  | .updStart rq => Sys2Proof.Machine.execUpdStart rq s
  | .updBlock rq offset words => Sys2Proof.Machine.execUpdBlock rq offset words s
  | .verify rq => Sys2Proof.Machine.execVerify rq s
  | .verifyDone => Sys2Proof.Machine.execVerifyDone s
  | .activate rq => Sys2Proof.Machine.execActivate rq s
  | .updAbort rq => Sys2Proof.Machine.execUpdAbort rq s
  | .updateTimeout => Sys2Proof.Machine.execUpdateTimeout s
  | .rollbackAdvance => Sys2Proof.Machine.execRollbackAdvance s
  | .farrierToken rq bytes => Sys2Proof.Machine.execFarrierToken rq bytes s
  | .gateCommandEdge n clear => Sys2Proof.Machine.execGateCommandEdge n clear s
  | .busOffRecovery => Sys2Proof.Machine.execBusOffRecovery s
  | .plcaRestored => Sys2Proof.Machine.execPlcaRestored s
  | .transmitterDominantTimeout lin => Sys2Proof.Machine.execTransmitterDominantTimeout lin s
  | .linResponseHeaderRx => Sys2Proof.Machine.execLinResponseHeaderRx s
  | .ethernetFrameRx kind forUs => Sys2Proof.Machine.execEthernetFrameRx kind forUs s
  | .vgdUvClear mv => Sys2Proof.Machine.execVgdUvClear mv s
  | .vcc5UvClear mv => Sys2Proof.Machine.execVcc5UvClear mv s
  | .reinFailsafeExit r => Sys2Proof.Machine.execReinFailsafeExit r s
  | .vgdLowEpisodeEnd vgdMv => Sys2Proof.Machine.execVgdLowEpisodeEnd vgdMv s

end Sys2Proof.Machine
end

