-- ==== Sys2Proof/Machine/Step.lean ====
section
/-! DEFINITION. One step of the block: the command at the front of the queue, or on an empty queue one Pacer tick. -/

namespace Sys2Proof.Machine

/-- One step (three outcomes: a next state, a fault, a refusal). [log 1: DESIGN CHOICE, 75: DESIGN CHOICE, 76: DEDUCED, 77: DESIGN CHOICE] -/
def step (s : State) : Host.Outcome State Fault Refusal :=
  match s.pending with
  | c :: rest => exec c (s.withRest rest)
  | [] => .next s.tick

/-- The state with the command that a word spells at the front of its queue; the state itself where it spells none. [log 12: DESIGN CHOICE] -/
def State.withFetchWord (s : State) (nbits w : Nat) : State :=
  match decodeTableWord nbits w with
  | some c => { s with pending := c :: s.pending }
  | none => s

end Sys2Proof.Machine
end

