-- ==== Sys2Proof/WellFormed.lean ====
section
/-! DEFINITION. Which commands are well formed: every operand lies in the field that carries it. Operands of a type with that many values need no check. -/

namespace Sys2Proof

/-- A number of `w` bits. -/
def fits (w n : Nat) : Bool := n < 2 ^ w

/-- Bytes. -/
def octets (bs : List Octet) : Bool := bs.all (fits 8)

/-- A value of a 16-bit signed format. -/
def word16 (i : Int) : Bool := -32768 ≤ i && i ≤ 32767

/-- A requester names a node of 14 bits and a session of 4 bits (R376, Table 19.2). -/
def Requester.wf (rq : Requester) : Bool := fits 14 rq.node && fits 4 rq.session

/-- An entry names a position of 24 bits and bytes. -/
def WriteEntry.wf (e : WriteEntry) : Bool := fits 24 e.key && octets e.bytes

/-- Every operand of the command lies in its field. -/
def Instr.wf (i : Instr) : Bool :=
  match i with
  | .girthFrameRx _ bytes => octets bytes
  | .girthIdleTimer _ => true
  | .girthAckTimeout _ => true
  | .girthRxSilence _ => true
  | .girthRestartTimer _ => true
  | .girthRestartFrameRx _ bytes => octets bytes
  | .pacerStrobe => true
  | .strobeLost => true
  | .lockstep => true
  | .teamsterRestarted => true
  | .handshakeStall source channel => fits 8 source && fits 16 channel
  | .delayLineSwap taps _ => fits 16 taps
  | .xtalLost => true
  | .pacSourceWrite rq value => rq.wf && fits 8 value
  | .paceRequest rq value => rq.wf && fits 8 value
  | .paceChangeDone => true
  | .paceFail => true
  | .baseCommit rq _ => rq.wf
  | .stagedDiscard rq _ => rq.wf
  | .satClear rq _ => rq.wf
  | .read rq key _ => rq.wf && fits 24 key
  | .write rq key bytes => rq.wf && fits 24 key && octets bytes
  | .describe rq key => rq.wf && fits 24 key
  | .readMulti rq keys => rq.wf && keys.all (fits 24)
  | .writeMulti rq entries late => rq.wf && entries.all WriteEntry.wf && late.all (fits 5)
  | .segWriteStart rq key first count length crc => rq.wf && fits 24 key && fits 16 first && fits 16 count && fits 16 length && fits 32 crc
  | .segWriteData rq offset bytes => rq.wf && fits 16 offset && octets bytes
  | .segReadStart rq key first count => rq.wf && fits 24 key && fits 16 first && fits 16 count
  | .segReadData rq offset length => rq.wf && fits 16 offset && fits 16 length
  | .segTransferTimeout rq => rq.wf
  | .openSession rq role slot => rq.wf && fits 8 role && fits 8 slot
  | .prove rq dest body => rq.wf && fits 14 dest && octets body
  | .closeSession rq => rq.wf
  | .sessionIdleTimeout session => fits 4 session
  | .proofTimeout session => fits 4 session
  | .lockoutExpire node => fits 14 node
  | .receipt rq nonce mask => rq.wf && octets nonce && fits 8 mask
  | .assign rq serial node => rq.wf && fits 64 serial && fits 16 node
  | .discover rq => rq.wf
  | .stoPost rq => rq.wf
  | .postComplete micros failed => fits 32 micros && failed.all (fits 16)
  | .restoreDefaults rq => rq.wf
  | .vbatStart mv => fits 16 mv
  | .vbatAbsent mv => fits 16 mv
  | .brownOutWarn mv => fits 16 mv
  | .brownOutClear mv => fits 16 mv
  | .vbatUv mv => fits 16 mv
  | .powerLossEnd => true
  | .vbatOv mv => fits 16 mv
  | .vbatOvClear mv => fits 16 mv
  | .vgdUv mv => fits 16 mv
  | .vcc5Uv mv => fits 16 mv
  | .vioUv mv => fits 16 mv
  | .vholdReady mv riseUs => fits 16 mv && riseUs.all (fits 32)
  | .vholdReadyTimeout => true
  | .vholdMinimum => true
  | .nrstLow widthNs => fits 32 widthNs
  | .softwareReset rq => rq.wf
  | .resetRelease vbat vio vgd vcc5 vhold bootUs selfTest => fits 16 vbat && fits 16 vio && fits 16 vgd && fits 16 vcc5 && fits 16 vhold && fits 32 bootUs && fits 16 selfTest
  | .crystalStable => true
  | .serviceModeEnter vio => fits 16 vio
  | .serviceExit => true
  | .trialConfirm => true
  | .bootBankPrefWrite rq bank => rq.wf && fits 8 bank
  | .checkpointTimer => true
  | .sleepEnter rq => rq.wf
  | .wakeEvent _ => true
  | .wakeTimer => true
  | .otpProgram rq => rq.wf
  | .otpSeal rq => rq.wf
  | .otpLock rq => rq.wf
  | .otpLockVoid rq => rq.wf
  | .otpCommandDone weak missing => fits 39 weak && fits 39 missing
  | .calRecordWrite rq bytes => rq.wf && octets bytes
  | .hitchCommit rq => rq.wf
  | .monitorsOn => true
  | .gateFault _ _ _ => true
  | .bstUv _ => true
  | .bstUvRelease _ => true
  | .vgdLow vgdMv vbatMv => fits 16 vgdMv && fits 16 vbatMv
  | .guardDelayEnd _ _ => true
  | .tripLowTurnOn _ => true
  | .vdsAction _ _ => true
  | .overcurrent _ => true
  | .tripPin _ widthNs => fits 32 widthNs
  | .hobbleCmdWrite rq value => rq.wf && fits 8 value
  | .tripClear rq mask => rq.wf && fits 32 mask
  | .tripQualEnd source _ => fits 3 source
  | .edpCommit rq _ => rq.wf
  | .setPosted _ _ => true
  | .periodDecided _ => true
  | .firstPeriodStart _ => true
  | .eventFire _ _ _ => true
  | .sliceConversionDone _ raw _ mv => word16 raw && fits 16 mv
  | .monitorConversionOwed => true
  | .dropped _ => true
  | .equalisationDue _ trim _ => word16 trim
  | .csCommonMode _ _ => true
  | .ilArm rq => rq.wf
  | .ilAbort rq => rq.wf
  | .ilBurstDone raws => raws.all fun r => r.all word16
  | .calZero rq => rq.wf
  | .calFull rq => rq.wf
  | .calApply rq => rq.wf
  | .calMeasureDone => true
  | .cnvFeCommit rq => rq.wf
  | .ceCommit rq _ => rq.wf
  | .bankWriteDone _ => true
  | .bankSelWrite rq _ bank => rq.wf && fits 8 bank
  | .slotComputationDone _ _ => true
  | .pendingComputationDone _ => true
  | .fullComputationDone _ => true
  | .hitRateUpdate _ => true
  | .hallEdge _ _ _ _ => true
  | .hallTimeout _ => true
  | .encoderEdge _ _ _ => true
  | .axFeCommit rq _ => rq.wf
  | .stStart rq _ => rq.wf
  | .stStop rq _ => rq.wf
  | .catchWindowEnd _ => true
  | .dwellEnd _ => true
  | .alignEnd _ => true
  | .pulseSequenceDone _ => true
  | .handoverWaitExpire _ => true
  | .attemptPauseEnd _ => true
  | .lockedRotor _ => true
  | .stCommit rq _ => rq.wf
  | .stepTick => true
  | .profileTick => true
  | .push rq _ => rq.wf
  | .flush rq _ => rq.wf
  | .quickStop rq _ => rq.wf
  | .homeCmd rq _ => rq.wf
  | .homePinEdge _ _ steps => fits 32 steps
  | .standstillCheckpointDone _ => true
  | .holdDelayEnd _ => true
  | .moveDwellEnd _ => true
  | .prfCommit rq _ => rq.wf
  | .intCommit rq => rq.wf
  | .intPush rq => rq.wf
  | .intFlush rq => rq.wf
  | .intQuickStop rq => rq.wf
  | .svcCommit rq => rq.wf
  | .runCmd rq _ => rq.wf
  | .stopCmd rq _ => rq.wf
  | .serviceTick => true
  | .dryDetected _ => true
  | .airlockPhaseEnd _ => true
  | .dryWaitEnd _ => true
  | .blockWaitEnd _ => true
  | .jog rq _ _ => rq.wf
  | .seatStop rq => rq.wf
  | .recall rq _ => rq.wf
  | .storeCmd rq _ => rq.wf
  | .calibrate rq _ => rq.wf
  | .pinch _ => true
  | .seatEndStop => true
  | .tempSourceLost _ => true
  | .tempSourceValid _ => true
  | .reinEdge _ _ ago => fits 64 ago
  | .reinTimeout _ => true
  | .reinFailsafe _ => true
  | .reinCommit rq => rq.wf
  | .thermalReading _ _ _ _ value => word16 value
  | .riseRateUpdate => true
  | .fastSamplingExit _ => true
  | .sensorRecovered _ => true
  | .thmCommit rq => rq.wf
  | .faultIntake arriving health => arriving.all (fits 32) && fits 5 health
  | .handleEscalation message => fits 32 message
  | .tlyAck rq message => rq.wf && fits 32 message
  | .enable rq _ => rq.wf
  | .disable rq _ => rq.wf
  | .safeRelease rq => rq.wf
  | .errnRelease rq => rq.wf
  | .errTimeExpire => true
  | .firstClear rq => rq.wf
  | .tlyInject rq message => rq.wf && fits 32 message
  | .logRecordWritten _ => true
  | .timerSelfCheck _ => true
  | .scan rq => rq.wf
  | .continueCmd rq => rq.wf
  | .scanCompare rq => rq.wf
  | .abortCmd rq => rq.wf
  | .scanDone => true
  | .asyFeed rq bytes => rq.wf && octets bytes
  | .asyRestart rq => rq.wf
  | .asyPreset rq preset => rq.wf && fits 8 preset
  | .asyParamWrite rq _ value => rq.wf && fits 32 value
  | .assaySelfTest _ => true
  | .fwScanTimer => true
  | .datagramDispatch => true
  | .canFrameRx id payload _ ago => fits 29 id && octets payload && payload.length ≤ 64 && fits 64 ago
  | .reassemblyTimeout src => fits 14 src
  | .busOff => true
  | .udpDatagramRx peer bytes _ => fits 144 peer && octets bytes
  | .linRequestRx nad bytes => fits 8 nad && octets bytes
  | .spiWrite bytes => octets bytes
  | .spiRead _ => true
  | .spiStatus => true
  | .notifyTimer _ => true
  | .syncMasterTimer => true
  | .sync src seq fresh _ ago => fits 14 src && fits 16 seq && fits 32 fresh && fits 64 ago
  | .followUp src seq time fresh _ => fits 14 src && fits 16 seq && fits 64 time && fits 32 fresh
  | .gptpSyncRx domain ns ago => fits 8 domain && fits 80 ns && fits 64 ago
  | .syncLost => true
  | .plcaLost => true
  | .e2eContextTimeout src dest => fits 14 src && fits 14 dest
  | .netCommit rq => rq.wf
  | .provision rq => rq.wf
  | .fieldCmd rq => rq.wf
  | .retire rq => rq.wf
  | .rootKeyWrite rq bytes => rq.wf && octets bytes
  | .keyImport rq bytes => rq.wf && octets bytes
  | .keyDelete rq slot => rq.wf && fits 8 slot
  | .mrExtend rq bytes => rq.wf && octets bytes
  | .tamperAlarm _ => true
  | .selfTestFail code => fits 16 code
  | .updStart rq => rq.wf
  | .updBlock rq offset words => rq.wf && fits 32 offset && words.all (fits 64) && 1 ≤ words.length && words.length ≤ 15
  | .verify rq => rq.wf
  | .verifyDone => true
  | .activate rq => rq.wf
  | .updAbort rq => rq.wf
  | .updateTimeout => true
  | .rollbackAdvance => true
  | .farrierToken rq bytes => rq.wf && octets bytes
  | .gateCommandEdge _ _ => true
  | .busOffRecovery => true
  | .plcaRestored => true
  | .transmitterDominantTimeout _ => true
  | .linResponseHeaderRx => true
  | .ethernetFrameRx _ _ => true
  | .vgdUvClear mv => fits 16 mv
  | .vcc5UvClear mv => fits 16 mv
  | .reinFailsafeExit _ => true
  | .vgdLowEpisodeEnd vgdMv => fits 16 vgdMv

end Sys2Proof
end

