-- ==== Sys2Proof/Safety.lean ====
section
/-! DEFINITION. The words in which the statements about the block are made: what a command does, what a served request leaves, what stands in the way of a write, what holds at every instant, and which parts of the device a command leaves alone. -/

namespace Sys2Proof.Machine

/-! ### Outcomes -/

/-- A command answers a next state, and `P` holds of it. -/
def Does (c : Instr) (s : State) (P : State → Prop) : Prop := ∃ t, exec c s = .next t ∧ P t

/-- The state with another device, brought into agreement as at the end of every command. -/
def State.into (s : State) (d : Device) : State := { s with dev := d.settle }

/-- The Pacer count of a state. -/
def State.now (s : State) : Nat := s.pacer.toNat

/-- The queue and the Pacer count of `t` are those of `s`. -/
def State.SameTime (s t : State) : Prop := t.pending = s.pending ∧ t.pacer = s.pacer

/-- Between `s` and `t` the Tally was sent these messages, in this order, and no others (R331). -/
def State.Reports (s t : State) (ms : List Message) : Prop :=
  t.dev.tally.inbox = s.dev.tally.inbox ++ ms.map fun m => ⟨s.now, m, false⟩

/-! ### What holds at every instant -/

/-- READY stands while no axis is ENABLED, RUN while one is (R58); PENDING, ERRN_LOW, RELEASABLE and the number of pending entries agree with the Tally (Table 17.12); a releasable ERRN is high where AUTO_RELEASE is set (R345). -/
structure Device.Settled (d : Device) : Prop where
  ready      : d.state = devReady → d.enabledMask = 0
  run        : d.state = devRun → d.enabledMask ≠ 0
  pending    : d.bitOf Ix.TLY_STATUS 2 = !d.tally.entries.isEmpty
  errnLow    : d.bitOf Ix.TLY_STATUS 4 = d.tally.errnLow
  releasable : d.bitOf Ix.TLY_STATUS 5 = d.releasable
  count      : d.rd Ix.TLY_PENDING_COUNT = d.tally.entries.length % 256
  released   : d.releasable = true → bit (d.rd Ix.TLY_ERRN_CFG) 0 = true → d.tally.errnLow = false

/-- The positions that follow the rest of the device at every instant: `DEV_STATE` between READY and RUN, `TLY_STATUS`, `TLY_PENDING_COUNT`. -/
def followers : List ObjKey := [keyOf Ix.DEV_STATE 0, keyOf Ix.TLY_STATUS 0, keyOf Ix.TLY_PENDING_COUNT 0]

/-- Every object of `e` reads as in `d`, but for the named positions and the followers. -/
def Device.SameObjects (d e : Device) (but : List ObjKey) : Prop :=
  ∀ index sub, keyOf index sub ∉ but → keyOf index sub ∉ followers → e.rd index sub = d.rd index sub

/-- The device as boot step 2 will sense its fuses (R98). -/
def Device.sensed (d : Device) : Device := { d with otp := { d.otp with shadow := d.otp.fuses } }

/-! ### Requests -/

/-- The device as the server sees a request: it is counted in `DEV_REQ_COUNT`. [log 30: DEDUCED] -/
def State.heard (s : State) : Device := s.dev.inc Ix.DEV_REQ_COUNT

/-- The state after a request whose effect leaves `d` is answered OK without a body. -/
def State.served (s : State) (d : Device) : State := s.into (reply 0 d).give

/-- The state after a request is answered with a status other than OK, which leaves `d`. -/
def State.turnedAway (s : State) (st : Nat) (d : Device) : State := s.into (reply st d).give

/-- The state that a write of one value leaves: accepted, or answered with the status of its refusal, which is recorded and reported (R53). -/
def State.afterWrite (s : State) (rq : Requester) : Written → State
  | .ok d => s.served d
  | .error x => s.turnedAway x.status (s.heard.rejected s.now rq.session x)

/-- The role a request acts with where it reaches the server: neither Sleep nor a power loss, nor a restart of the Teamster pair, nor the device state or the port stands in its way, and its session gives it a role. -/
def State.reaches (s : State) (c : Caller) (a : Asked) : Option Role :=
  if s.dev.deaf || s.dev.courierBusy || s.heard.gateStatus c a != 0 then none else s.heard.roleOf c

/-- What a write of one object names. -/
def askedWrite (index sub : Nat) : Asked := ⟨[keyOf index sub], false, true⟩

/-- What a read of one object names. -/
def askedRead (key : ObjKey) : Asked := ⟨[key], true, true⟩

/-- Nothing that R47 tests before the value of a write stands in its way: `rq` reaches the server, its role writes the object, no service owns it, no scan holds it, and its Frozen class is open. `abort` marks the write that a running scan lets through. -/
def State.admits (s : State) (rq : Requester) (index sub : Nat) (abort : Bool := false) : Bool :=
  match s.reaches (.of rq) (askedWrite index sub), rowOf index sub with
  | some role, some r => s.heard.writeBar (.of rq) role r index sub abort == 0 && !s.heard.frozenShut r index sub
  | _, _ => false

/-- The bytes of a BLOB written whole reach the object at `index`: as `admits`, for a transfer. -/
def State.admitsBlob (s : State) (rq : Requester) (index : Nat) : Bool :=
  match s.reaches (.of rq) ⟨[keyOf index 0], false, false⟩, rowOf index 0 with
  | some role, some r => s.heard.writeBar (.of rq) role r index 0 false == 0 && !s.heard.frozenShut r index 0
  | _, _ => false

/-! ### Commits -/

/-- The command that commits a block (R50). -/
def commitCommand (rq : Requester) : Block → Instr
  | .base n => .baseCommit rq n
  | .hitch => .hitchCommit rq
  | .edp n => .edpCommit rq n
  | .frontEnd => .cnvFeCommit rq
  | .ce n => .ceCommit rq n
  | .fe n => .axFeCommit rq n
  | .st n => .stCommit rq n
  | .prf n => .prfCommit rq n
  | .interp => .intCommit rq
  | .svc => .svcCommit rq
  | .rein => .reinCommit rq
  | .thm => .thmCommit rq
  | .net => .netCommit rq

/-- A bank swap of the control engine is pending on the block (R199). -/
def Device.swapBlocks (d : Device) : Block → Bool
  | .ce n => d.swapPending n
  | _ => false

/-! ### Legs -/

/-- From `d` to `e` these legs latched, and no other leg changed (R131): a leg that was not latched has its high side off, and in trip state OFF its low side too. -/
def Device.Latches (d e : Device) (legs : List Nat) : Prop :=
  ∀ k, k < 24 →
    (k ∈ legs → (e.leg k).latched = true
      ∧ ((d.leg k).latched = false → (e.leg k).high = false ∧ (d.rd Ix.GDA_TRIP_STATE (k + 1) ≠ 1 → (e.leg k).low = false)))
    ∧ (k ∉ legs → e.leg k = d.leg k)

/-- No leg has both gates on (R127). -/
def Device.NoShootThrough (d : Device) : Prop := ∀ k, k < 24 → ¬((d.leg k).high = true ∧ (d.leg k).low = true)

/-! ### Services and networks -/

/-- No service but that of axis `n` owns its axis (R302). -/
def Device.OnlyService (d : Device) (n : Nat) : Prop := ∀ k, k < 8 → k ≠ n → d.svcOwner k = false

/-- The device once Courier has taken the datagram at the head of port `p`: `rest` stays, and the next port has its turn (R369). -/
def Device.dequeued (d : Device) (p : Nat) (rest : List Datagram) : Device :=
  { (d.onPort p fun q => { q with rx := rest }) with net := { (d.onPort p fun q => { q with rx := rest }).net with turn := (p + 1) % 4 } }

/-! ### The conversion pool -/

/-- Nothing waits for a slice: no held input, no owed monitor conversion, no equalisation and no calibration (R168). -/
def Device.PoolQuiet (d : Device) : Prop :=
  d.waiting = [] ∧ d.cnv.owed = [] ∧ (∀ x ∈ d.cnv.slices, x.due = false) ∧ d.cnv.calPhase = 0

/-! ### What a command leaves alone -/

/-- The parts of the device beside its objects. -/
inductive Part where
  | tables | girth | supply | boot | fuses | ledger | gates | edges | pool | engines | line | services | seat | external | reins | sensors
  | assay | server | networks | vault | free | messages | entries | log
  deriving DecidableEq, Repr

/-- From `d` to `e` this part stays as it was. -/
def Device.Keeps (d e : Device) : Part → Prop
  | .tables => e.tabs = d.tabs
  | .girth => e.girth = d.girth
  | .supply => e.supply = d.supply
  | .boot => e.boot = d.boot
  | .fuses => e.otp = d.otp
  | .ledger => e.ledger = d.ledger
  | .gates => e.gda = d.gda
  | .edges => e.edp = d.edp
  | .pool => e.cnv = d.cnv
  | .engines => e.eng = d.eng
  | .line => e.interp = d.interp
  | .services => e.svc = d.svc
  | .seat => e.seat = d.seat
  | .external => e.extAge = d.extAge
  | .reins => e.rein = d.rein
  | .sensors => e.thm = d.thm
  | .assay => e.asy = d.asy
  | .server => e.server = d.server
  | .networks => e.net = d.net
  | .vault => e.vault = d.vault
  | .free => e.fresh = d.fresh
  | .messages => e.tally.inbox = d.tally.inbox
  | .entries => e.tally.entries = d.tally.entries
  | .log => e.tally.log = d.tally.log ∧ e.tally.logQueue = d.tally.logQueue

/-- Every part. -/
def Part.all : List Part :=
  [.tables, .girth, .supply, .boot, .fuses, .ledger, .gates, .edges, .pool, .engines, .line, .services, .seat, .external, .reins, .sensors,
   .assay, .server, .networks, .vault, .free, .messages, .entries, .log]

/-- The parts that a command may change. The effect of a request that writes, of a datagram and of a reset may be a commit, a stop or a reset, so these may change any part. -/
def touches : Instr → List Part
  | .girthFrameRx _ _ => [.girth, .free, .messages]
  | .girthIdleTimer _ | .girthRestartTimer _ | .pacerStrobe => [.girth]
  | .girthAckTimeout _ | .girthRxSilence _ | .girthRestartFrameRx _ _ => [.girth, .messages]
  | .strobeLost | .vgdUv _ | .gateFault _ _ _ | .bstUv _ | .vgdLow _ _ | .vdsAction _ _ | .overcurrent _ => [.gates, .messages]
  | .lockstep => [.ledger, .gates, .edges, .engines, .line, .services, .server, .networks, .vault, .free, .messages, .entries, .log]
  | .teamsterRestarted => [.ledger, .gates, .edges, .engines, .line, .services, .server, .messages]
  | .delayLineSwap _ _ | .xtalLost => [.supply, .free, .messages]
  | .paceChangeDone | .paceFail | .vholdReady _ _ => [.supply, .messages]
  | .sensorRecovered _ => [.supply, .sensors, .messages]
  | .read _ _ _ | .describe _ _ | .readMulti _ _ | .segReadData _ _ _ | .segTransferTimeout _ | .lockoutExpire _ | .discover _ => [.server]
  | .segWriteStart _ _ _ _ _ _ | .segReadStart _ _ _ _ => [.server, .messages]
  | .openSession _ _ _ => [.server, .free, .messages]
  | .prove _ _ _ => [.server, .vault, .free, .messages]
  | .closeSession _ | .sessionIdleTimeout _ | .proofTimeout _ => [.server, .vault]
  | .receipt _ _ _ => [.server, .free]
  | .assign _ _ _ => [.ledger, .server, .networks, .free, .messages]
  | .vbatStart _ | .brownOutClear _ | .vholdReadyTimeout | .crystalStable => [.supply]
  | .brownOutWarn _ => [.supply, .ledger, .messages]
  | .vbatUv _ => [.supply, .ledger, .gates, .messages]
  | .vbatOv _ | .lockedRotor _ | .fwScanTimer | .busOff | .selfTestFail _ => [.messages]
  | .vbatOvClear _ | .bstUvRelease _ | .reinTimeout _ | .fastSamplingExit _ | .errTimeExpire | .verifyDone | .transmitterDominantTimeout _ => []
  | .vcc5Uv _ => [.supply, .pool, .messages]
  | .resetRelease _ _ _ _ _ _ _ => [.tables, .girth, .supply, .boot, .fuses, .ledger, .gates, .edges, .engines, .line, .services, .seat, .reins, .server, .networks, .vault, .free, .messages, .entries, .log]
  | .serviceModeEnter _ => [.tables, .supply, .fuses, .server, .messages]
  | .trialConfirm => [.supply, .boot]
  | .checkpointTimer => [.ledger]
  | .otpCommandDone _ _ => [.fuses, .messages]
  | .monitorsOn | .guardDelayEnd _ _ | .tripLowTurnOn _ | .tripQualEnd _ _ | .vgdUvClear _ | .vgdLowEpisodeEnd _ => [.gates]
  | .tripPin _ _ => [.gates, .free, .messages]
  | .setPosted _ _ => [.edges]
  | .periodDecided _ => [.edges, .engines, .messages]
  | .firstPeriodStart _ | .eventFire _ _ _ | .sliceConversionDone _ _ _ _ | .dropped _ => [.ledger, .edges, .pool, .engines, .line, .free, .messages]
  | .monitorConversionOwed | .equalisationDue _ _ _ | .csCommonMode _ _ => [.pool, .messages]
  | .ilBurstDone _ => [.tables, .pool, .messages]
  | .calMeasureDone => [.pool, .free]
  | .bankWriteDone _ | .hallTimeout _ | .dwellEnd _ | .alignEnd _ | .attemptPauseEnd _ | .homePinEdge _ _ _ | .holdDelayEnd _ => [.engines]
  | .slotComputationDone _ _ | .hitRateUpdate _ | .hallEdge _ _ _ _ | .encoderEdge _ _ _ | .catchWindowEnd _ | .pulseSequenceDone _
  | .handoverWaitExpire _ => [.engines, .messages]
  | .pendingComputationDone _ | .fullComputationDone _ => [.ledger, .edges, .engines, .line, .free, .messages]
  | .stepTick | .profileTick => [.ledger, .engines, .line, .messages]
  | .standstillCheckpointDone _ => [.ledger, .engines, .line, .seat, .messages]
  | .moveDwellEnd _ => [.ledger, .engines, .messages]
  | .serviceTick => [.ledger, .gates, .edges, .engines, .line, .services, .seat, .external, .messages, .entries, .log]
  | .dryDetected _ | .tempSourceLost _ => [.engines, .services, .messages]
  | .airlockPhaseEnd _ => [.engines, .services]
  | .dryWaitEnd _ | .blockWaitEnd _ => [.ledger, .gates, .edges, .engines, .line, .services, .messages]
  | .pinch _ | .seatEndStop => [.ledger, .engines, .line, .seat]
  | .tempSourceValid _ => [.services]
  | .reinEdge _ _ _ | .reinFailsafeExit _ => [.reins]
  | .reinFailsafe _ => [.reins, .messages]
  | .thermalReading _ _ _ _ _ => [.supply, .sensors, .messages]
  | .riseRateUpdate => [.sensors, .messages]
  | .faultIntake _ _ => [.ledger, .gates, .edges, .engines, .line, .services, .networks, .free, .messages, .entries, .log]
  | .handleEscalation _ => [.ledger, .gates, .edges, .engines, .line, .free, .messages, .entries, .log]
  | .logRecordWritten _ => [.log]
  | .timerSelfCheck _ => [.ledger, .gates, .edges, .engines, .line, .free, .messages]
  | .scanDone => [.free, .messages]
  | .assaySelfTest _ => [.assay, .free, .messages]
  | .canFrameRx _ _ _ _ | .reassemblyTimeout _ | .udpDatagramRx _ _ _ | .linRequestRx _ _ | .spiWrite _ | .spiRead _ | .spiStatus | .gptpSyncRx _ _ _
  | .e2eContextTimeout _ _ | .busOffRecovery | .plcaRestored | .linResponseHeaderRx | .ethernetFrameRx _ _ => [.networks]
  | .notifyTimer _ | .syncMasterTimer => [.networks, .free]
  | .sync _ _ _ _ _ | .followUp _ _ _ _ _ | .syncLost | .plcaLost => [.networks, .messages]
  | .tamperAlarm _ => [.tables, .fuses, .ledger, .server, .vault, .free, .messages]
  | .updateTimeout => [.vault]
  | .rollbackAdvance => [.fuses]
  | .gateCommandEdge _ _ => [.gates, .edges]
  | .vcc5UvClear _ => [.supply, .pool, .messages]
  | _ => Part.all

end Sys2Proof.Machine
end

