-- ==== Sys2Proof/Certificates/Slice0/Obligations.lean ====
section
/-! DEFINITION. The statements for the provers, by chapter of the spec: what each command does and leaves alone, what a step is, what reset leaves, and what every step keeps. -/

open Sys2Proof Sys2Proof.Machine

/-! ### Girth link and Pacer (chapter 1) -/

/-- The bytes of a Girth frame under an ALIVE value, received whole, are read back as that frame and that ALIVE value (R8, Table 1.3): no bit of TYPE, CHAN, ALIVE or the payload is lost, and the CRC of what is sent is the CRC that is tested. -/
def Obligations.GirthFrameReadsBack : Prop :=
  ∀ (f : GirthFrame) (alive : Nat), f.type < 16 → f.chan < 16 → f.payload.length ≤ 32 → alive < 256 →
    parseFrame (f.bytes alive) = some (f, alive)

/-- The timers of the Girth link put frames on the wire under the next ALIVE value (R8): an IDLE frame after 5 µs without one (R9 rule 1), a restart frame while the end counts the link down (R10 rule 1), and the frame in flight again, up to three times, where no ACK came (R9 rule 4), which `GTH_RESENDS` counts. The readings and choices it rests on: log entry 2. -/
def Obligations.GirthTimersSend : Prop :=
  (∀ s side, s.dev.isRunning = true → (s.dev.girth.at side).up = true →
    Does (.girthIdleTimer side) s fun t =>
      (t.dev.girth.at side).lastSent = GirthFrame.bytes ⟨0, 0, []⟩ (s.dev.girth.at side).nextAlive
        ∧ (t.dev.girth.at side).nextAlive = ((s.dev.girth.at side).nextAlive + 1) % 256)
  ∧ (∀ s side, s.dev.isRunning = true → (s.dev.girth.at side).up = false →
    Does (.girthRestartTimer side) s fun t =>
      (t.dev.girth.at side).lastSent = GirthFrame.bytes ⟨0, 0, [(s.dev.girth.at side).code]⟩ (s.dev.girth.at side).nextAlive
        ∧ (t.dev.girth.at side).nextAlive = ((s.dev.girth.at side).nextAlive + 1) % 256)
  ∧ (∀ s side fl, s.dev.isRunning = true → (s.dev.girth.at side).up = true → (s.dev.girth.at side).inFlight = some fl → fl.resends < 3 →
    Does (.girthAckTimeout side) s fun t =>
      (t.dev.girth.at side).lastSent = fl.frame.bytes (s.dev.girth.at side).nextAlive
        ∧ (t.dev.girth.at side).inFlight = some ⟨fl.frame, (s.dev.girth.at side).nextAlive, fl.resends + 1⟩
        ∧ t.dev.rd Ix.GTH_RESENDS = min (s.dev.rd Ix.GTH_RESENDS + 1) 0xFFFF_FFFF)

/-- A frame that reaches an end that counts the link up (R9). One in ALIVE sequence that needs an ACK, other than REG_READ, is taken and acknowledged with its ALIVE; a whole frame out of ALIVE sequence is discarded and answered with NAK, which carries the ALIVE of the last frame accepted, and kind 0x41 is posted with its direction; one whose length or CRC is wrong is discarded and answered likewise, with kind 0x40, and counted. The readings and choices it rests on: log entry 3. -/
def Obligations.GirthFrameIsTaken : Prop :=
  (∀ s side bytes f alive, s.dev.isRunning = true → (s.dev.girth.at side).up = true → parseFrame bytes = some (f, alive) →
    f.restartCode = none → alive = ((s.dev.girth.at side).rxAlive + 1) % 256 → needsAck f.type = true → f.type ≠ 2 →
    Does (.girthFrameRx side bytes) s fun t =>
      (t.dev.girth.at side).rxAlive = alive
        ∧ (t.dev.girth.at side).lastSent = GirthFrame.bytes ⟨6, 0, [alive]⟩ (s.dev.girth.at side).nextAlive
        ∧ s.Reports t [])
  ∧ (∀ s side bytes f alive, s.dev.isRunning = true → (s.dev.girth.at side).up = true → parseFrame bytes = some (f, alive) →
    f.restartCode = none → alive ≠ ((s.dev.girth.at side).rxAlive + 1) % 256 →
    Does (.girthFrameRx side bytes) s fun t =>
      (t.dev.girth.at side).rxAlive = (s.dev.girth.at side).rxAlive
        ∧ (t.dev.girth.at side).lastSent = GirthFrame.bytes ⟨7, 0, [(s.dev.girth.at side).rxAlive]⟩ (s.dev.girth.at side).nextAlive
        ∧ s.Reports t [message 0x30 0x41 (dirFrom (otherSide side))])
  ∧ (∀ s side bytes, s.dev.isRunning = true → (s.dev.girth.at side).up = true → parseFrame bytes = none →
    Does (.girthFrameRx side bytes) s fun t =>
      (t.dev.girth.at side).rxAlive = (s.dev.girth.at side).rxAlive
        ∧ (t.dev.girth.at side).lastSent = GirthFrame.bytes ⟨7, 0, [(s.dev.girth.at side).rxAlive]⟩ (s.dev.girth.at side).nextAlive
        ∧ t.dev.rd Ix.GTH_CRC_ERR_TX (if side = .saddle then 1 else 2)
            = min (s.dev.rd Ix.GTH_CRC_ERR_TX (if side = .saddle then 1 else 2) + 1) 0xFFFF_FFFF
        ∧ s.Reports t [message 0x30 0x40 (dirFrom (otherSide side))])

/-- An end that counts the link up declares it down after 20 µs without a valid frame (R9 rule 5) and after the third failed resend of one frame (rule 4): it restarts its ALIVE counter at 0 and sends restart frames whose payload names the rule (R10 rule 1), UP of `GTH_STATUS` falls, and the Rider end posts kind 0x04 with the direction toward it, or kind 0x42 with its own direction. A restart frame (R10): an end that counts the link up takes it as the other end's declaration: it goes down, repeats the payload, and the Rider end posts the kind that the payload names. Once both ends have accepted 32 restart frames in ALIVE sequence the link is up again: UP is set, DOWN_TX and DOWN_RX are cleared, and `GTH_RESTARTS` counts. The readings and choices it rests on: log entries 2, 16. -/
def Obligations.GirthLinkGoesDownAndRestarts : Prop :=
  (∀ s side, s.dev.isRunning = true → (s.dev.girth.at side).up = true →
    Does (.girthRxSilence side) s fun t =>
      (t.dev.girth.at side).up = false ∧ (t.dev.girth.at side).nextAlive = 0 ∧ (t.dev.girth.at side).code = 0xA5
        ∧ t.dev.bitOf Ix.GTH_STATUS 0 = false
        ∧ (side = .rider → t.dev.bitOf Ix.GTH_STATUS 2 = true ∧ s.Reports t [message 0x30 0x04 1])
        ∧ (side = .saddle → s.Reports t []))
  ∧ (∀ s side fl, s.dev.isRunning = true → (s.dev.girth.at side).up = true → (s.dev.girth.at side).inFlight = some fl → 3 ≤ fl.resends →
    Does (.girthAckTimeout side) s fun t =>
      (t.dev.girth.at side).up = false ∧ (t.dev.girth.at side).nextAlive = 0 ∧ (t.dev.girth.at side).code = 0x5A
        ∧ t.dev.bitOf Ix.GTH_STATUS 0 = false
        ∧ (side = .rider → t.dev.bitOf Ix.GTH_STATUS 1 = true ∧ s.Reports t [message 0x30 0x42 0])
        ∧ (side = .saddle → s.Reports t []))
  ∧ (∀ s side bytes f alive code, s.dev.isRunning = true → (s.dev.girth.at side).up = true → parseFrame bytes = some (f, alive) →
    f.restartCode = some code →
    Does (.girthRestartFrameRx side bytes) s fun t =>
      (t.dev.girth.at side).up = false ∧ (t.dev.girth.at side).code = code ∧ (t.dev.girth.at side).nextAlive = 0
        ∧ t.dev.bitOf Ix.GTH_STATUS 0 = false
        ∧ (side = .rider → s.Reports t [if code = 0x5A then message 0x30 0x42 1 else message 0x30 0x04 0]))
  ∧ (∀ s side bytes f alive code, s.dev.isRunning = true → (s.dev.girth.at side).up = false → (s.dev.girth.at (otherSide side)).up = false →
    parseFrame bytes = some (f, alive) → f.restartCode = some code → alive ≠ 0 → alive = ((s.dev.girth.at side).rxAlive + 1) % 256 →
    31 ≤ (s.dev.girth.at side).accepted → 32 ≤ (s.dev.girth.at (otherSide side)).accepted →
    Does (.girthRestartFrameRx side bytes) s fun t =>
      t.dev.girth.rider.up = true ∧ t.dev.girth.saddle.up = true
        ∧ t.dev.bitOf Ix.GTH_STATUS 0 = true ∧ t.dev.bitOf Ix.GTH_STATUS 1 = false ∧ t.dev.bitOf Ix.GTH_STATUS 2 = false
        ∧ t.dev.rd Ix.GTH_RESTARTS = min (s.dev.rd Ix.GTH_RESTARTS + 1) 0xFFFF_FFFF)

/-- The Pacer's reference and its delay lines (R9 rule 6, R20). A strobe at a count that is a multiple of 256 is recorded. A crystal that is lost while it is selected gives way, once, to the internal oscillator, and PAC 0x40 is posted; a write of `PAC_SOURCE` takes the reference it names. A delay line whose calibration fits takes over with its taps per tick, and is counted; one that does not fit leaves the other in service, and PAC 0x41 is posted. Pace changes (R18, R83, R85). An admitted request for another mode than the one in force, while no change is in progress, is answered OK and starts a change: `SUP_PACE_ACTIVE` reads 3 until Groom completes it, when the mode is in force, is shown and is counted. A failed change leaves the previous mode in force, which `SUP_PACE_REQ` then reads, and SUP 0x48 is posted with the mode asked for. A request for Walk is answered RANGE while an enabled axis has a current-loop rate above 50 kHz. The readings and choices it rests on: log entries 2, 15. -/
def Obligations.PacerAndPace : Prop :=
  (∀ s, s.dev.isRunning = true → s.now % 256 = 0 → Does .pacerStrobe s fun t => t.dev.girth.lastStrobe = s.now)
  ∧ (∀ s, s.dev.isRunning = true → s.dev.rd Ix.PAC_SOURCE = 0 → s.dev.supply.xtalLost = false →
    Does .xtalLost s fun t => t.dev.rd Ix.PAC_SOURCE_ACTIVE = 1 ∧ t.dev.supply.xtalLost = true ∧ s.Reports t [message 0x20 0x40 (s.dev.peekFree 16)])
  ∧ (∀ s, s.dev.isRunning = true → s.dev.rd Ix.PAC_SOURCE ≠ 0 ∨ s.dev.supply.xtalLost = true →
    Does .xtalLost s fun t => t.dev.supply.xtalStable = false ∧ s.Reports t [] ∧ s.dev.SameObjects t.dev [])
  ∧ (∀ s rq value, value ≤ 1 → s.admits rq Ix.PAC_SOURCE 0 = true →
    Does (.pacSourceWrite rq value) s fun t =>
      t.dev.rd Ix.PAC_SOURCE = value ∧ t.dev.rd Ix.PAC_SOURCE_ACTIVE = value ∧ t.dev.supply.xtalLost = false
        ∧ t.dev.server.answer = ⟨0, 0, []⟩)
  ∧ (∀ s taps, s.dev.isRunning = true →
    Does (.delayLineSwap taps true) s fun t =>
      t.dev.supply.delayLine ≠ s.dev.supply.delayLine ∧ t.dev.rd Ix.PAC_DL_STEPS = taps % 65536
        ∧ t.dev.rd Ix.PAC_DL_CAL_COUNT = min (s.dev.rd Ix.PAC_DL_CAL_COUNT + 1) 0xFFFF_FFFF)
  ∧ (∀ s taps, s.dev.isRunning = true →
    Does (.delayLineSwap taps false) s fun t =>
      t.dev.supply.delayLine = s.dev.supply.delayLine ∧ s.Reports t [message 0x20 0x41 (s.dev.peekFree 16)])
  ∧ (∀ s rq value, value ≤ 2 → s.admits rq Ix.SUP_PACE_REQ 0 = true → s.dev.supply.phase ≠ .service → s.dev.supply.paceTarget = none →
    (value = 0 → s.heard.tooFastForWalk = false) → (value = 2 → s.heard.gallopBarred = false) → value ≠ s.dev.supply.pace →
    Does (.paceRequest rq value) s fun t =>
      t.dev.rd Ix.SUP_PACE_REQ = value ∧ t.dev.rd Ix.SUP_PACE_ACTIVE = 3 ∧ t.dev.supply.paceTarget = some value
        ∧ t.dev.supply.pace = s.dev.supply.pace ∧ t.dev.server.answer = ⟨0, 0, []⟩)
  ∧ (∀ s rq, s.admits rq Ix.SUP_PACE_REQ 0 = true → s.dev.supply.phase ≠ .service → s.dev.supply.paceTarget = none →
    s.heard.tooFastForWalk = true →
    Does (.paceRequest rq 0) s fun t =>
      t.dev.server.answer = ⟨4, 0, []⟩ ∧ t.dev.supply = s.dev.supply ∧ s.Reports t [message 0x10 0x0A Ix.SUP_PACE_REQ])
  ∧ (∀ s mode, s.dev.isRunning = true → s.dev.supply.paceTarget = some mode → s.dev.supply.paceKept = none →
    Does .paceChangeDone s fun t =>
      t.dev.supply.pace = mode ∧ t.dev.supply.paceTarget = none ∧ t.dev.rd Ix.SUP_PACE_ACTIVE = mode % 256
        ∧ t.dev.rd Ix.SUP_PACE_CHANGES = min (s.dev.rd Ix.SUP_PACE_CHANGES + 1) 0xFFFF_FFFF)
  ∧ (∀ s mode, s.dev.isRunning = true → s.dev.supply.paceTarget = some mode →
    Does .paceFail s fun t =>
      t.dev.supply.pace = s.dev.supply.pace ∧ t.dev.supply.paceTarget = none
        ∧ t.dev.rd Ix.SUP_PACE_ACTIVE = s.dev.supply.pace % 256 ∧ t.dev.rd Ix.SUP_PACE_REQ = s.dev.supply.pace % 256
        ∧ s.Reports t [message 0x10 0x48 mode])

/-! ### Requests (chapter 3) -/

/-- A READ that reaches the server is answered OK with the type code and the bytes of what the object shows, for every object that a READ serves: one that exists, is no BLOB, TABLE or STRING, is no pending-view object asked for over a field network, can be read, and is no object of assay unit 3 while that unit is suspended. But for its counter `DEV_REQ_COUNT` and the slack objects, which a read sets back, no object changes. The readings and choices it rests on: log entries 30, 35. -/
def Obligations.ReadAnswersTheValue : Prop :=
  ∀ (s : State) (rq : Requester) (key : ObjKey) (role : Role) (r : ObjRow),
    s.reaches (.of rq) (askedRead key) = some role → rowOf (keyIndex key) (keySub key) = some r →
    r.type.isSegmented = false → r.type ≠ .string → (∀ w, r.access ≠ .wo w) →
    (viewObject (keyIndex key) = true → rq.port = .spi) → (asyObject (keyIndex key) = true → s.dev.bitOf Ix.ASY_STATUS 9 = false) →
    Does (.read rq key false) s fun t =>
      t.dev.server.answer
          = ⟨0, 0, r.type.code :: leBytes r.type.size (s.heard.shown s.now role (keyIndex key) (keySub key))⟩
        ∧ (slackObject (keyIndex key) = false → s.dev.SameObjects t.dev [keyOf Ix.DEV_REQ_COUNT 0])

/-- A READ or a WRITE that names no object is answered NO_SUBINDEX where its index holds an object and NO_OBJECT where it holds none; a WRITE of an object that exists is answered LENGTH where the number of its bytes is not the object's, DENIED where the role ranks below the one that writes it, and READ_ONLY where no role writes it; none of these posts a fault or is recorded in `DEV_LAST_REJECT` (Table 3.5). The readings and choices it rests on: log entries 29, 30. -/
def Obligations.RequestsRefusedBeforeTheValue : Prop :=
  (∀ (s : State) (rq : Requester) (key : ObjKey) (role : Role) (staged : Bool), s.reaches (.of rq) (askedRead key) = some role →
    rowOf (keyIndex key) (keySub key) = none →
    Does (.read rq key staged) s fun t =>
      t.dev.server.answer = ⟨if indexHeld (keyIndex key) then 2 else 1, 0, []⟩ ∧ s.Reports t [])
  ∧ (∀ (s : State) (rq : Requester) (index sub : Nat) (bytes : List Nat) (role : Role), sub < 256 →
    s.reaches (.of rq) (askedWrite index sub) = some role → rowOf index sub = none →
    Does (.write rq (keyOf index sub) bytes) s fun t =>
      t.dev.server.answer = ⟨if indexHeld index then 2 else 1, 0, []⟩ ∧ s.Reports t [])
  ∧ (∀ (s : State) (rq : Requester) (index sub : Nat) (bytes : List Nat) (role : Role) (r : ObjRow), sub < 256 →
    s.reaches (.of rq) (askedWrite index sub) = some role → rowOf index sub = some r → r.type.isSegmented = false →
    lengthOk r.type bytes = false →
    Does (.write rq (keyOf index sub) bytes) s fun t =>
      t.dev.server.answer = ⟨3, 0, []⟩ ∧ s.Reports t [] ∧ s.dev.SameObjects t.dev [keyOf Ix.DEV_REQ_COUNT 0, keyOf Ix.DEV_ERR_COUNT 0])
  ∧ (∀ (s : State) (rq : Requester) (index sub : Nat) (bytes : List Nat) (role : Role) (r : ObjRow), sub < 256 →
    s.reaches (.of rq) (askedWrite index sub) = some role → rowOf index sub = some r → r.type.isSegmented = false →
    lengthOk r.type bytes = true → r.access.writer = none →
    Does (.write rq (keyOf index sub) bytes) s fun t =>
      t.dev.server.answer = ⟨6, 0, []⟩ ∧ s.Reports t [] ∧ s.dev.SameObjects t.dev [keyOf Ix.DEV_REQ_COUNT 0, keyOf Ix.DEV_ERR_COUNT 0])
  ∧ (∀ (s : State) (rq : Requester) (index sub : Nat) (bytes : List Nat) (role need : Role) (r : ObjRow), sub < 256 →
    s.reaches (.of rq) (askedWrite index sub) = some role → rowOf index sub = some r → r.type.isSegmented = false →
    lengthOk r.type bytes = true → r.access.writer = some need → (s.heard.writeRole (.of rq) role index).holds need = false →
    Does (.write rq (keyOf index sub) bytes) s fun t =>
      t.dev.server.answer = ⟨5, 0, []⟩ ∧ s.Reports t [] ∧ s.dev.SameObjects t.dev [keyOf Ix.DEV_REQ_COUNT 0, keyOf Ix.DEV_ERR_COUNT 0])

/-- A write of a Staged object (R49), with a value that its range admits: where no set of its block is owned by another requester, it is answered OK and changes nothing that reads see, and the requester's set holds the value; where another requester owns the set, it is answered STAGED_BY_OTHER and no set changes. The readings and choices it rests on: log entry 32. -/
def Obligations.StagedWriteGoesIntoTheSet : Prop :=
  (∀ (s : State) (rq : Requester) (index sub v : Nat) (r : ObjRow) (b : Block), sub < 256 → s.admits rq index sub = true →
    rowOf index sub = some r → r.cls = .staged → r.type.isSegmented = false → r.type ≠ .string → v < 256 ^ r.type.size →
    r.takes index v = true → blockOf index = some b → (∀ x, s.dev.stagedOf b = some x → x.owner = (Caller.of rq).owner) →
    Does (.write rq (keyOf index sub) (leBytes r.type.size v)) s fun t =>
      t.dev.server.answer = ⟨0, 0, []⟩ ∧ s.dev.SameObjects t.dev [keyOf Ix.DEV_REQ_COUNT 0]
        ∧ ∃ x, t.dev.stagedOf b = some x ∧ x.owner = (Caller.of rq).owner ∧ cellGet x.values (keyOf index sub) = some v)
  ∧ (∀ (s : State) (rq : Requester) (index sub v : Nat) (r : ObjRow) (b : Block) (x : StagedSet), sub < 256 →
    s.admits rq index sub = true → rowOf index sub = some r → r.cls = .staged → r.type.isSegmented = false → r.type ≠ .string →
    v < 256 ^ r.type.size → r.takes index v = true → blockOf index = some b → s.dev.stagedOf b = some x → x.owner ≠ (Caller.of rq).owner →
    Does (.write rq (keyOf index sub) (leBytes r.type.size v)) s fun t =>
      t.dev.server.answer = ⟨9, 0, []⟩ ∧ t.dev.server.staged = s.dev.server.staged)

/-- An admitted commit (R50) by the owner of a block's staged set, while no swap of that block's banks is pending: where every condition of the block's rule holds over the merged set, it is answered OK, the set is gone, the commit object reads 1, and the block takes the merged set; where a condition fails, it is answered COMMIT_REJECTED, every staged set stays, the commit object reads 2, and `DEV_LAST_REJECT` names the number of the first failing condition. The readings and choices it rests on: log entries 31, 32. -/
def Obligations.CommitTakesOrKeepsTheSet : Prop :=
  (∀ (s : State) (rq : Requester) (b : Block) (x : StagedSet), s.admits rq b.commit 0 = true → s.heard.stagedOf b = some x →
    x.owner = (Caller.of rq).owner → s.heard.swapBlocks b = false → firstFailing (b.conds s.heard (s.heard.merge x)) = none →
    exec (commitCommand rq b) s
        = .next (s.served ((b.apply s.heard ((s.heard.merge x).dropStaged b)).wr b.commit 0 1))
      ∧ (s.served ((b.apply s.heard ((s.heard.merge x).dropStaged b)).wr b.commit 0 1)).dev.rd b.commit = 1)
  ∧ (∀ (s : State) (rq : Requester) (b : Block) (x : StagedSet) (k : Nat), s.admits rq b.commit 0 = true → s.heard.stagedOf b = some x →
    x.owner = (Caller.of rq).owner → s.heard.swapBlocks b = false → firstFailing (b.conds s.heard (s.heard.merge x)) = some k →
    Does (commitCommand rq b) s fun t =>
      t.dev.server.answer = ⟨8, 0, []⟩ ∧ t.dev.server.staged = s.dev.server.staged ∧ t.dev.rd b.commit = 2
        ∧ t.dev.rd Ix.DEV_LAST_REJECT 3 = k % 256 ∧ t.dev.rd Ix.DEV_LAST_REJECT 4 = 8)

/-- Writing 2 to the commit object of a block (R50 rule 1) discards the set of its owner and changes nothing else but the request counter; from any other requester it is answered STAGED_BY_OTHER (rule 6), and so is a commit; an empty set is committed and discarded with OK and without effect (rule 5). The readings and choices it rests on: log entry 32. -/
def Obligations.StagedSetsAreDiscardedByTheirOwner : Prop :=
  (∀ (s : State) (rq : Requester) (b : Block) (x : StagedSet), s.admits rq b.commit 0 = true → s.heard.stagedOf b = some x →
    x.owner = (Caller.of rq).owner →
    Does (.stagedDiscard rq b) s fun t =>
      t.dev.server.answer = ⟨0, 0, []⟩ ∧ t.dev.stagedOf b = none ∧ (∀ c, c ≠ b → t.dev.stagedOf c = s.dev.stagedOf c)
        ∧ s.dev.SameObjects t.dev [keyOf Ix.DEV_REQ_COUNT 0])
  ∧ (∀ (s : State) (rq : Requester) (b : Block) (x : StagedSet) (c : Instr), c = .stagedDiscard rq b ∨ c = commitCommand rq b →
    s.admits rq b.commit 0 = true → s.heard.stagedOf b = some x → x.owner ≠ (Caller.of rq).owner →
    Does c s fun t =>
      t.dev.server.answer = ⟨9, 0, []⟩ ∧ t.dev.server.staged = s.dev.server.staged
        ∧ s.dev.SameObjects t.dev [keyOf Ix.DEV_REQ_COUNT 0, keyOf Ix.DEV_ERR_COUNT 0])
  ∧ (∀ (s : State) (rq : Requester) (b : Block) (c : Instr), c = .stagedDiscard rq b ∨ c = commitCommand rq b →
    s.admits rq b.commit 0 = true → s.heard.stagedOf b = none →
    Does c s fun t =>
      t.dev.server.answer = ⟨0, 0, []⟩ ∧ t.dev.server.staged = s.dev.server.staged
        ∧ s.dev.SameObjects t.dev [keyOf Ix.DEV_REQ_COUNT 0])

/-- A WRITE_MULTI of 1 to 16 entries that reaches the server (R47): where an entry fails, no entry is accepted, every staged set stays, and the answer gives the error and the position of the first failing entry; where every entry passes and none is an ENABLE whose conditions changed, all take effect, each over what the ones before it left; a WRITE_MULTI of no or of more than 16 entries is answered MALFORMED. The readings and choices it rests on: log entry 34. -/
def Obligations.WriteMultiIsAllOrNothing : Prop :=
  (∀ (s : State) (rq : Requester) (es : List WriteEntry) (late : Option Nat) (role : Role) (i : Nat) (r : Refused),
    s.reaches (.of rq) ⟨es.map (·.key), false, false⟩ = some role → es ≠ [] → es.length ≤ 16 →
    Device.writeEntries s.now (.of rq) role es.length 1 es s.heard = .error (i, r) →
    exec (.writeMulti rq es late) s = .next (s.into (Reply.give ⟨r.status, i, [], s.heard.rejected s.now rq.session r⟩))
      ∧ 1 ≤ i ∧ i ≤ es.length
      ∧ (s.into (Reply.give ⟨r.status, i, [], s.heard.rejected s.now rq.session r⟩)).dev.server.staged = s.dev.server.staged
      ∧ (s.into (Reply.give ⟨r.status, i, [], s.heard.rejected s.now rq.session r⟩)).dev.server.answer = ⟨r.status, i, []⟩)
  ∧ (∀ (s : State) (rq : Requester) (es : List WriteEntry) (role : Role) (d : Device),
    s.reaches (.of rq) ⟨es.map (·.key), false, false⟩ = some role → es ≠ [] → es.length ≤ 16 →
    Device.writeEntries s.now (.of rq) role es.length 1 es s.heard = .ok d → exec (.writeMulti rq es none) s = .next (s.served d))
  ∧ (∀ (s : State) (rq : Requester) (es : List WriteEntry) (late : Option Nat) (role : Role),
    s.reaches (.of rq) ⟨es.map (·.key), false, false⟩ = some role → es = [] ∨ 16 < es.length →
    exec (.writeMulti rq es late) s = .next (s.turnedAway 0x11 s.heard))

/-- DESCRIBE of an object that exists, while assay unit 3 is not suspended, is answered OK with its attributes, READ_MULTI of 1 to 16 objects with the entries read in order, and neither changes an object but the request counter and the slack objects read. The readings and choices it rests on: log entry 35. -/
def Obligations.DescribeAndReadMultiAnswer : Prop :=
  (∀ (s : State) (rq : Requester) (key : ObjKey) (role : Role) (r : ObjRow), s.reaches (.of rq) (askedRead key) = some role →
    rowOf (keyIndex key) (keySub key) = some r → s.dev.bitOf Ix.ASY_STATUS 9 = false →
    Does (.describe rq key) s fun t =>
      t.dev.server.answer = ⟨0, 0, describeBytes r (keyIndex key) (keySub key)⟩ ∧ s.dev.SameObjects t.dev [keyOf Ix.DEV_REQ_COUNT 0])
  ∧ (∀ (s : State) (rq : Requester) (keys : List ObjKey) (role : Role), s.reaches (.of rq) ⟨keys, true, false⟩ = some role →
    keys ≠ [] → keys.length ≤ 16 →
    Does (.readMulti rq keys) s fun t =>
      t.dev.server.answer = ⟨0, 0, (s.heard.readMany s.now (.of rq) role keys).1⟩
        ∧ ((∀ k ∈ keys, slackObject (keyIndex k) = false) → s.dev.SameObjects t.dev [keyOf Ix.DEV_REQ_COUNT 0]))

/-- Segmented transfer (R54). A start of a write that the object, its range, its length and the other transfers allow opens the requester's one transfer; data at the offset that follows is kept while bytes are missing; the last bytes, when their CRC-32C matches, make one write; when it does not, they are answered CHECK and discarded; a read start captures bytes and answers their number and CRC, and read data returns the part asked for; a transfer that times out ends. The readings and choices it rests on: log entries 2, 33. -/
def Obligations.SegmentedTransfer : Prop :=
  (∀ (s : State) (rq : Requester) (key : ObjKey) (first count length crc n : Nat) (role : Role) (r : ObjRow),
    s.reaches (.of rq) ⟨[key], false, false⟩ = some role → rowOf (keyIndex key) (keySub key) = some r → r.type.isSegmented = true →
    s.heard.writeBar (.of rq) role r (keyIndex key) (keySub key) false = 0 → entryRange (keyIndex key) first count = some n →
    length ≤ 8192 → (∀ m, rangeBytes (keyIndex key) n = some m → m = length) →
    (∀ t ∈ s.dev.server.transfers, t.writing = true → t.key = key → t.owner = (Caller.of rq).owner) →
    Does (.segWriteStart rq key first count length crc) s fun t =>
      t.dev.server.answer = ⟨0, 0, []⟩
        ∧ t.dev.transferOf (Caller.of rq).owner = some ⟨(Caller.of rq).owner, key, true, first, n, length, crc, []⟩)
  ∧ (∀ (s : State) (rq : Requester) (offset : Nat) (bytes : List Nat) (role : Role) (x : Transfer),
    s.reaches (.of rq) ⟨s.dev.openKeys rq, false, false⟩ = some role → s.dev.transferOf (Caller.of rq).owner = some x →
    x.owner = (Caller.of rq).owner → x.writing = true → offset = x.data.length → bytes ≠ [] → bytes.length ≤ 1024 →
    offset + bytes.length < x.length →
    Does (.segWriteData rq offset bytes) s fun t =>
      t.dev.server.answer = ⟨0, 0, []⟩ ∧ t.dev.transferOf (Caller.of rq).owner = some { x with data := x.data ++ bytes })
  ∧ (∀ (s : State) (rq : Requester) (offset : Nat) (bytes : List Nat) (role : Role) (x : Transfer),
    s.reaches (.of rq) ⟨s.dev.openKeys rq, false, false⟩ = some role → s.dev.transferOf (Caller.of rq).owner = some x →
    x.writing = true → offset = x.data.length → bytes ≠ [] → bytes.length ≤ 1024 → offset + bytes.length = x.length →
    crc32c (x.data ++ bytes) ≠ x.crc →
    Does (.segWriteData rq offset bytes) s fun t =>
      t.dev.server.answer = ⟨0x0E, 0, []⟩ ∧ t.dev.transferOf (Caller.of rq).owner = none
        ∧ s.dev.SameObjects t.dev [keyOf Ix.DEV_REQ_COUNT 0, keyOf Ix.DEV_ERR_COUNT 0] ∧ t.dev.tabs = s.dev.tabs)
  ∧ (∀ (s : State) (rq : Requester) (key : ObjKey) (first count n : Nat) (role : Role) (r : ObjRow),
    s.reaches (.of rq) ⟨[key], true, false⟩ = some role → rowOf (keyIndex key) (keySub key) = some r → r.type.isSegmented = true →
    s.dev.bitOf Ix.ASY_STATUS 9 = false → entryRange (keyIndex key) first count = some n →
    (s.heard.bulk s.now (.of rq) (keyIndex key) (keySub key) first n).length ≤ 8192 →
    Does (.segReadStart rq key first count) s fun t =>
      t.dev.server.answer = ⟨0, 0, leBytes 2 (s.heard.bulk s.now (.of rq) (keyIndex key) (keySub key) first n).length
          ++ leBytes 4 (crc32c (s.heard.bulk s.now (.of rq) (keyIndex key) (keySub key) first n))⟩
        ∧ (t.dev.transferOf (Caller.of rq).owner).map (·.data) = some (s.heard.bulk s.now (.of rq) (keyIndex key) (keySub key) first n))
  ∧ (∀ (s : State) (rq : Requester) (offset length : Nat) (role : Role) (x : Transfer),
    s.reaches (.of rq) ⟨s.dev.openKeys rq, true, false⟩ = some role → s.dev.transferOf (Caller.of rq).owner = some x →
    x.writing = false → 1 ≤ length → length ≤ 1024 → offset + length ≤ x.length →
    Does (.segReadData rq offset length) s fun t =>
      t.dev.server.answer = ⟨0, 0, (x.data.drop offset).take length⟩ ∧ t.dev.transferOf (Caller.of rq).owner = some x)
  ∧ (∀ (s : State) (rq : Requester) (x : Transfer), s.dev.isRunning = true → s.dev.transferOf (Caller.of rq).owner = some x →
    Does (.segTransferTimeout rq) s fun t =>
      t.dev.transferOf (Caller.of rq).owner = none ∧ (Caller.of rq).owner ∈ t.dev.server.timedOut)

/-- A write of 0 to `AXn_SAT` clears every SAT flag of every block of the axis, and `AXn_SAT` with them (R30). -/
def Obligations.SatClearClearsEveryFlag : Prop :=
  ∀ (s : State) (rq : Requester) (n : Fin 8), s.admits rq (axIx Ix.AX_SAT n) 0 = true →
    Does (.satClear rq n) s fun t =>
      t.dev.server.answer = ⟨0, 0, []⟩ ∧ t.dev.rd (axIx Ix.AX_SAT n) = 0
        ∧ (∀ slot : Fin 6, bit (t.dev.rd (axIx Ix.AX_CE_SLOT_STATUS n) (slot + 1)) 1 = false)
        ∧ t.dev.bitOf (axIx Ix.AX_FE_STATUS n) 1 = false ∧ t.dev.bitOf (axIx Ix.AX_SC_STATUS n) 3 = false
        ∧ t.dev.bitOf (axIx Ix.AX_EDP_STATUS n) 2 = false ∧ t.dev.bitOf (axIx Ix.AX_PRF_STATUS n) 10 = false

/-- Sessions (R45, R402, R403). An OPEN_SESSION that the Vault serves, whose role and slot are in range, whose node is not locked out, that R402 allows and that no limit stands against is answered with a number of 1 to 15 that no open session has and a nonce of 8 bytes; the new session is bound to port and node and holds no role. A proof by method 0 while the device is Blank, and a symmetric proof whose tag matches, make it hold its role; the latter is answered with the device's own tag. A symmetric proof whose tag does not match is answered DENIED, ends the session and posts AUTH_FAIL with its node. The readings and choices it rests on: log entries 4, 5, 36. -/
def Obligations.SessionsOpenAndAreProven : Prop :=
  (∀ (s : State) (rq : Requester) (role slot : Nat) (r : Role), s.reaches (.of { rq with session := 0 }) plainAsked = some r →
    s.heard.openShut = false → 1 ≤ role → role ≤ 3 → slot ≤ 15 → rq.node ∉ s.dev.server.locked → s.heard.openAllowed rq role slot = true →
    s.dev.server.sessions.length < 8 → (role = 3 → ∀ x ∈ s.dev.server.sessions, x.role ≠ 3) →
    Does (.openSession rq role slot) s fun t =>
      ∃ x : Session, t.dev.server.sessions = s.dev.server.sessions ++ [x] ∧ t.dev.server.answer = ⟨0, 0, x.number :: x.nonce⟩
        ∧ x.role = role ∧ x.slot = slot ∧ x.port = rq.port ∧ x.node = rq.node ∧ x.proven = false ∧ x.nonce.length = 8
        ∧ 1 ≤ x.number ∧ x.number ≤ 15 ∧ (∀ y ∈ s.dev.server.sessions, y.number ≠ x.number)
        ∧ t.dev.rd Ix.DEV_SESSIONS_OPEN = (s.dev.server.sessions.length + 1) % 256)
  ∧ (∀ (s : State) (rq : Requester) (dest : Nat) (x : Session) (r : Role), s.reaches (.of { rq with session := 0 }) plainAsked = some r →
    s.dev.sessionOf rq = some x → s.heard.vaultShut = false → x.proven = false → x.slot = 0 → s.heard.lifecycle = 0 →
    Does (.prove rq dest [0]) s fun t =>
      t.dev.server.answer = ⟨0, 0, []⟩ ∧ t.dev.sessionOf rq = some { x with proven := true, method := 0, key := [] })
  ∧ (∀ (s : State) (rq : Requester) (dest : Nat) (nh tag : List Nat) (x : Session) (r : Role),
    s.reaches (.of { rq with session := 0 }) plainAsked = some r → s.dev.sessionOf rq = some x → s.heard.vaultShut = false →
    x.proven = false → s.heard.methodOf x = 1 → nh.length = 8 → tag.length = 8 →
    Does (.prove rq dest (1 :: nh ++ tag)) s fun t =>
      if tag = (Config.cmac (Config.cmac (s.heard.keySlot x.slot).key ([1] ++ proofText x dest ++ nh)) ([2] ++ proofText x dest ++ nh)).take 8 then
        t.dev.sessionOf rq
            = some { x with proven := true, method := 1, key := Config.cmac (s.heard.keySlot x.slot).key ([1] ++ proofText x dest ++ nh) }
          ∧ t.dev.server.answer
            = ⟨0, 0, (Config.cmac (Config.cmac (s.heard.keySlot x.slot).key ([1] ++ proofText x dest ++ nh)) ([3] ++ nh ++ proofText x dest)).take 8⟩
      else
        t.dev.server.answer = ⟨5, 0, []⟩ ∧ (∀ y ∈ t.dev.server.sessions, y.number ≠ x.number) ∧ s.Reports t [message 0xD4 0x41 x.node])

/-- The end of a session (R13, R45 rules 4 and 5, R402, R403): CLOSE_SESSION by the session itself, its idle timer, and 2 s without a proof each end it, and with it go its staged sets and its transfer. The lockout of a node ends after 60 s. A lockstep mismatch of the Teamster pair ends every session and stops the service of requests until the pair is back, when every axis is disabled. The readings and choices it rests on: log entries 2, 36. -/
def Obligations.SessionsEnd : Prop :=
  (∀ (s : State) (rq : Requester) (role : Role), s.reaches (.of rq) plainAsked = some role → rq.session ≠ 0 →
    Does (.closeSession rq) s fun t =>
      t.dev.server.answer = ⟨0, 0, []⟩ ∧ (∀ x ∈ t.dev.server.sessions, x.number ≠ rq.session)
        ∧ (∀ x ∈ t.dev.server.staged, x.owner ≠ .session rq.session) ∧ (∀ x ∈ t.dev.server.transfers, x.owner ≠ .session rq.session))
  ∧ (∀ (s : State) (n : Nat), s.dev.isRunning = true →
    Does (.sessionIdleTimeout n) s fun t =>
      (∀ x ∈ t.dev.server.sessions, x.number ≠ n) ∧ (∀ x ∈ t.dev.server.staged, x.owner ≠ .session n)
        ∧ (∀ x ∈ t.dev.server.transfers, x.owner ≠ .session n)
        ∧ (∀ x, x.number ≠ n → (x ∈ t.dev.server.sessions ↔ x ∈ s.dev.server.sessions)))
  ∧ (∀ (s : State) (n : Nat), s.dev.isRunning = true → (∃ x ∈ s.dev.server.sessions, x.number = n ∧ x.proven = false) →
    Does (.proofTimeout n) s fun t => ∀ x ∈ t.dev.server.sessions, x.number ≠ n)
  ∧ (∀ (s : State) (node : Nat), s.dev.isRunning = true →
    Does (.lockoutExpire node) s fun t =>
      node ∉ t.dev.server.locked ∧ (∀ x ∈ t.dev.server.failed, x.1 ≠ node)
        ∧ (∀ m, m ≠ node → (m ∈ t.dev.server.locked ↔ m ∈ s.dev.server.locked)))
  ∧ (∀ s : State, s.dev.isRunning = true →
    Does .lockstep s fun t => t.dev.server.teamster = false ∧ t.dev.server.sessions = [])
  ∧ (∀ s : State, s.dev.isRunning = true → s.dev.server.teamster = false →
    Does .teamsterRestarted s fun t => t.dev.server.teamster = true ∧ ∀ n : Fin 8, t.dev.countsEnabled n = false)

/-- The requests that name no object and change no session. DISCOVER is answered with the serial and the node number in force (R376); an allowed ASSIGN of a node number up to 0x3FFF, while a post can start, puts it in force and starts a post (R378); RECEIPT with a nonce of 16 bytes, while the Vault serves it, is answered with a receipt over the measurement registers asked for (R406). The readings and choices it rests on: log entries 5, 37. -/
def Obligations.AssignDiscoverReceipt : Prop :=
  (∀ (s : State) (rq : Requester) (role : Role), s.reaches (.of rq) plainAsked = some role →
    Does (.discover rq) s fun t =>
      t.dev.server.answer = ⟨0, 0, leBytes 8 (s.dev.rd Ix.DEV_SERIAL) ++ leBytes 2 (s.dev.netSetting Ix.NET_NODE 0)⟩
        ∧ s.dev.SameObjects t.dev [keyOf Ix.DEV_REQ_COUNT 0])
  ∧ (∀ (s : State) (rq : Requester) (serial node : Nat) (role : Role), s.reaches (.of rq) ⟨[], false, false⟩ = some role →
    s.heard.assignAllowed (.of rq) role serial = true → node ≤ 0x3FFF → s.heard.postStatus = 0 →
    Does (.assign rq serial node) s fun t =>
      t.dev.server.answer = ⟨0, 0, []⟩ ∧ t.dev.rd Ix.NET_NODE = node ∧ t.dev.netSetting Ix.NET_NODE 0 = node
        ∧ t.dev.ledger.post.isSome = true ∧ t.dev.rd Ix.STO_POST = 1)
  ∧ (∀ (s : State) (rq : Requester) (nonce : List Nat) (mask : Nat) (role : Role), s.reaches (.of rq) plainAsked = some role →
    nonce.length = 16 → mask < 256 → s.heard.receiptOk = true →
    Does (.receipt rq nonce mask) s fun t =>
      t.dev.server.answer = ⟨0, 0, (s.heard.receipt s.now nonce mask).1⟩ ∧ s.dev.SameObjects t.dev [keyOf Ix.DEV_REQ_COUNT 0])

/-- The supply monitors (R63, R74, R78, R92, Table 5.2). Each row shows the voltage that its monitor read and the flag of `SUP_STATUS` that the threshold moves, and no other object changes beside the objects named. A device asleep that loses VBAT is held for a power-on reset (log 24). An overvoltage posts 0x42 once per onset; VGD undervoltage turns every gate off and posts 0x43, and its end lets gates be driven again unless the power-loss sequence holds them; VCC5 undervoltage stops transceivers and slices, clears LIN ready and posts 0x44; a rise of the hold-up supply gives its capacitance, and one below 120 µF posts 0x45. The readings and choices it rests on: log entries 3, 20. -/
def Obligations.SupplyMonitorsAreShown : Prop :=
  (∀ (s : State) (mv : Nat), mv < 65536 →
    Does (.vbatStart mv) s fun t =>
      t.dev.rd Ix.SUP_VBAT = mv ∧ t.dev.bitOf Ix.SUP_STATUS 0 = true ∧ t.dev.supply.vbatAbsent = false
        ∧ t.dev.supply.phase = (if s.dev.supply.phase = .dormant then .held else s.dev.supply.phase)
        ∧ s.dev.SameObjects t.dev [keyOf Ix.SUP_VBAT 0, keyOf Ix.SUP_STATUS 0])
  ∧ (∀ (s : State) (mv : Nat), mv < 65536 → s.dev.supply.phase = .asleep →
    Does (.vbatAbsent mv) s fun t =>
      t.dev.rd Ix.SUP_VBAT = mv ∧ t.dev.bitOf Ix.SUP_STATUS 0 = false ∧ t.dev.supply.vbatAbsent = true
        ∧ t.pacer = 0 ∧ t.dev.supply.phase = .held ∧ t.dev.bitOf Ix.SUP_RESET_CAUSE 0 = true)
  ∧ (∀ (s : State) (mv : Nat), mv < 65536 → s.dev.supply.phase ≠ .asleep →
    Does (.vbatAbsent mv) s fun t =>
      t.dev.rd Ix.SUP_VBAT = mv ∧ t.dev.bitOf Ix.SUP_STATUS 0 = false ∧ t.dev.supply.vbatAbsent = true
        ∧ s.dev.SameObjects t.dev [keyOf Ix.SUP_VBAT 0, keyOf Ix.SUP_STATUS 0])
  ∧ (∀ (s : State) (mv : Nat), s.dev.isRunning = true → mv < 65536 →
    Does (.vbatOv mv) s fun t =>
      t.dev.rd Ix.SUP_VBAT = mv ∧ t.dev.bitOf Ix.SUP_STATUS 2 = true
        ∧ s.Reports t (if s.dev.bitOf Ix.SUP_STATUS 2 then [] else [message 0x10 0x42 (mv / 10)])
        ∧ s.dev.SameObjects t.dev [keyOf Ix.SUP_VBAT 0, keyOf Ix.SUP_STATUS 0])
  ∧ (∀ (s : State) (mv : Nat), s.dev.isRunning = true → mv < 65536 →
    Does (.vbatOvClear mv) s fun t =>
      t.dev.rd Ix.SUP_VBAT = mv ∧ t.dev.bitOf Ix.SUP_STATUS 2 = false ∧ s.Reports t []
        ∧ s.dev.SameObjects t.dev [keyOf Ix.SUP_VBAT 0, keyOf Ix.SUP_STATUS 0])
  ∧ (∀ (s : State) (mv : Nat), s.dev.isRunning = true → mv < 65536 →
    Does (.vgdUv mv) s fun t =>
      t.dev.rd Ix.SUP_VGD = mv ∧ t.dev.bitOf Ix.SUP_STATUS 3 = false ∧ t.dev.gda.allOff = true
        ∧ (∀ l, l < 24 → (t.dev.leg l).high = false ∧ (t.dev.leg l).low = false) ∧ s.Reports t [message 0x10 0x43 (mv / 10)]
        ∧ s.dev.SameObjects t.dev [keyOf Ix.SUP_VGD 0, keyOf Ix.SUP_STATUS 0])
  ∧ (∀ (s : State) (mv : Nat), s.dev.isRunning = true → mv < 65536 →
    Does (.vgdUvClear mv) s fun t =>
      t.dev.rd Ix.SUP_VGD = mv ∧ t.dev.bitOf Ix.SUP_STATUS 3 = true ∧ t.dev.gda.allOff = s.dev.bitOf Ix.SUP_STATUS 7
        ∧ s.dev.SameObjects t.dev [keyOf Ix.SUP_VGD 0, keyOf Ix.SUP_STATUS 0])
  ∧ (∀ (s : State) (mv : Nat), s.dev.isRunning = true → mv < 65536 →
    Does (.vcc5Uv mv) s fun t =>
      t.dev.rd Ix.SUP_VCC5 = mv ∧ t.dev.bitOf Ix.SUP_STATUS 4 = false ∧ t.dev.supply.transceivers = false ∧ t.dev.cnv.stopped = true
        ∧ s.Reports t [message 0x10 0x44 (mv / 10)]
        ∧ s.dev.SameObjects t.dev [keyOf Ix.SUP_VCC5 0, keyOf Ix.SUP_STATUS 0, keyOf Ix.NET_STATUS 0])
  ∧ (∀ (s : State) (mv : Nat), s.dev.isRunning = true → mv < 65536 →
    Does (.vcc5UvClear mv) s fun t =>
      t.dev.rd Ix.SUP_VCC5 = mv ∧ t.dev.bitOf Ix.SUP_STATUS 4 = true ∧ t.dev.supply.transceivers = true ∧ t.dev.cnv.stopped = false)
  ∧ (∀ (s : State) (mv us : Nat), mv < 65536 → us < 0x8_0000 →
    Does (.vholdReady mv (some us)) s fun t =>
      t.dev.rd Ix.SUP_VHOLD = mv ∧ t.dev.bitOf Ix.SUP_STATUS 6 = true ∧ t.dev.rd Ix.SUP_HOLD_CAP = us / 8 ∧ t.dev.supply.chargeRetry = false
        ∧ s.Reports t (if us / 8 < 120 then [message 0x10 0x45 (us / 8)] else []))
  ∧ (∀ (s : State) (mv : Nat), mv < 65536 →
    Does (.vholdReady mv none) s fun t =>
      t.dev.rd Ix.SUP_VHOLD = mv ∧ t.dev.bitOf Ix.SUP_STATUS 6 = true ∧ s.Reports t []
        ∧ s.dev.SameObjects t.dev [keyOf Ix.SUP_VHOLD 0, keyOf Ix.SUP_STATUS 0])
  ∧ (∀ s : State, Does .vholdReadyTimeout s fun t => t.dev = ({ s.dev with supply := { s.dev.supply with chargeRetry := true } } : Device).settle)

/-- Brown-out and power loss (R89 to R91). The onset of a warning, at a reading not above `SUP_BOW_LEVEL`, posts SUP 0x40 and takes one checkpoint, marked with LOSS, with the serial after the last; its end, at 300 mV above the level, lets the next one take its own, but in the power-loss sequence the checkpoint taken still counts. A reading beyond the tolerance of Table 5.2 on the wrong side of the level is shown and nothing else (log 81). VBAT undervoltage clears VBAT_OK, starts the power-loss sequence, posts SUP 0x41, turns every gate off and takes a checkpoint where the warning took none. When that sequence ends, with no post in progress, the device is held in reset, with VBAT_LOSS and every cause that waited among the causes of the reset; VIO undervoltage resets a running device with cause 2, and in the power-loss sequence waits for its end. The readings and choices it rests on: log entries 3, 19, 22. -/
def Obligations.WarningAndPowerLoss : Prop :=
  (∀ (s : State) (mv : Nat), s.dev.isRunning = true → mv < 65536 → s.dev.bitOf Ix.SUP_STATUS 1 = false → mv ≤ s.dev.rd Ix.SUP_BOW_LEVEL →
    Does (.brownOutWarn mv) s fun t =>
      t.dev.rd Ix.SUP_VBAT = mv ∧ t.dev.bitOf Ix.SUP_STATUS 1 = true ∧ t.dev.supply.cpDone = true
        ∧ s.Reports t [message 0x10 0x40 (mv / 10)]
        ∧ t.dev.rd Ix.STO_CP_SERIAL = (s.dev.rd Ix.STO_CP_SERIAL + 1) % 2 ^ 32
        ∧ (t.dev.ledger.ring.head?.map fun c => (c.serial, c.loss, c.time)) = some (t.dev.rd Ix.STO_CP_SERIAL, true, s.now))
  ∧ (∀ (s : State) (mv : Nat) (c : Instr), s.dev.isRunning = true → mv < 65536 →
    (c = .brownOutWarn mv ∧ s.dev.belowLevel mv = false) ∨ (c = .brownOutClear mv ∧ s.dev.aboveLevel mv = false) →
    Does c s fun t => t.dev.rd Ix.SUP_VBAT = mv ∧ s.Reports t [] ∧ s.dev.SameObjects t.dev [keyOf Ix.SUP_VBAT 0])
  ∧ (∀ (s : State) (mv : Nat), s.dev.isRunning = true → mv < 65536 → s.dev.rd Ix.SUP_BOW_LEVEL + 300 ≤ mv →
    Does (.brownOutClear mv) s fun t =>
      t.dev.rd Ix.SUP_VBAT = mv ∧ t.dev.bitOf Ix.SUP_STATUS 1 = false ∧ s.Reports t []
        ∧ t.dev.supply.cpDone = (s.dev.supply.cpDone && s.dev.bitOf Ix.SUP_STATUS 7))
  ∧ (∀ (s : State) (mv : Nat), s.dev.isRunning = true → mv < 65536 → s.dev.bitOf Ix.SUP_STATUS 7 = false →
    Does (.vbatUv mv) s fun t =>
      t.dev.rd Ix.SUP_VBAT = mv ∧ t.dev.bitOf Ix.SUP_STATUS 0 = false ∧ t.dev.bitOf Ix.SUP_STATUS 7 = true
        ∧ t.dev.gda.allOff = true ∧ (∀ l, l < 24 → (t.dev.leg l).high = false ∧ (t.dev.leg l).low = false)
        ∧ t.dev.supply.cpDone = true ∧ s.Reports t [message 0x10 0x41 0]
        ∧ t.dev.rd Ix.STO_CP_SERIAL
            = (if s.dev.supply.cpDone then s.dev.rd Ix.STO_CP_SERIAL else (s.dev.rd Ix.STO_CP_SERIAL + 1) % 2 ^ 32))
  ∧ (∀ (s : State), s.dev.isRunning = true → s.dev.bitOf Ix.SUP_STATUS 7 = true → s.dev.ledger.post = none → s.dev.supply.cpDone = true →
    Does .powerLossEnd s fun t =>
      t.dev.bitOf Ix.SUP_STATUS 7 = false ∧ t.dev.bitOf Ix.SUP_RESET_CAUSE 5 = true ∧ t.dev.isRunning = false
        ∧ (∀ c, c < 16 → bit s.dev.supply.deferred c = true → t.dev.bitOf Ix.SUP_RESET_CAUSE c = true))
  ∧ (∀ (s : State) (mv : Nat), s.dev.isRunning = true → mv < 65536 → s.dev.bitOf Ix.SUP_STATUS 7 = false →
    Does (.vioUv mv) s fun t =>
      t.dev.rd Ix.SUP_VIO = mv ∧ t.dev.bitOf Ix.SUP_STATUS 5 = false ∧ t.dev.supply.phase = .held
        ∧ t.dev.bitOf Ix.SUP_RESET_CAUSE 2 = true ∧ t.dev.ledger.ring = s.dev.ledger.ring)
  ∧ (∀ (s : State) (mv : Nat), s.dev.isRunning = true → mv < 65536 → s.dev.bitOf Ix.SUP_STATUS 7 = true →
    Does (.vioUv mv) s fun t =>
      t.dev.rd Ix.SUP_VIO = mv ∧ t.dev.supply.phase = .running ∧ t.dev.supply.deferred = withBit s.dev.supply.deferred 2 true)

/-- Device resets (R76, R77, Table 5.3). NRST held low for 1 µs outside the power-loss sequence, in which every cause waits for its end, holds the device in reset, sets its cause bit and counts; every object but those that a device reset keeps goes back to its reset value, and MRAM and OTP stay, with no post or OTP command in progress; only an update that is cut off loses the header of its target (R408). A pulse of 200 ns or less does nothing. An admitted write of 1 to `SUP_RESET`, and a stalled handshake of a Groom channel, reset the same way with causes 3 and 4; a stalled handshake of another block is posted with its channel. The readings and choices it rests on: log entries 14, 20, 21, 22. -/
def Obligations.DeviceResets : Prop :=
  (∀ (s : State) (ns : Nat), 1000 ≤ ns → s.dev.bitOf Ix.SUP_STATUS 7 = true →
    Does (.nrstLow ns) s fun t =>
      t.dev.supply.phase = s.dev.supply.phase ∧ t.dev.supply.deferred = withBit s.dev.supply.deferred 1 true ∧ s.dev.SameObjects t.dev [])
  ∧ (∀ (s : State) (ns : Nat), 1000 ≤ ns → s.dev.bitOf Ix.SUP_STATUS 7 = false →
    Does (.nrstLow ns) s fun t =>
      t.dev.supply.phase = .held ∧ t.dev.bitOf Ix.SUP_RESET_CAUSE 1 = true
        ∧ t.dev.rd Ix.SUP_RESET_COUNT = min (s.dev.rd Ix.SUP_RESET_COUNT % 2 ^ 32 + 1) 0xFFFF_FFFF
        ∧ (∀ index sub, sub < 256 → index ∉ keptObjects → index ≠ Ix.SUP_STATUS → keyOf index sub ∉ followers →
            t.dev.rd index sub = defaultAt index sub)
        ∧ (s.dev.updating = false → t.dev.boot = s.dev.boot) ∧ (s.dev.updating = true → (t.dev.fwBank s.dev.updTarget).headerIntact = false)
        ∧ t.dev.ledger.ring = s.dev.ledger.ring
        ∧ (s.dev.ledger.post = none → t.dev.ledger = s.dev.ledger)
        ∧ (s.dev.otp.job = none → t.dev.otp.fuses = s.dev.otp.fuses)
        ∧ s.SameTime t)
  ∧ (∀ (s : State) (ns : Nat), ns ≤ 200 → Does (.nrstLow ns) s fun t => t.dev = s.dev.settle)
  ∧ (∀ (s : State) (rq : Requester), s.admits rq Ix.SUP_RESET 0 = true → s.dev.bitOf Ix.SUP_STATUS 7 = false →
    Does (.softwareReset rq) s fun t =>
      t.dev.supply.phase = .held ∧ t.dev.bitOf Ix.SUP_RESET_CAUSE 3 = true ∧ t.dev.server.sessions = [] ∧ s.SameTime t)
  ∧ (∀ (s : State) (channel : Nat), s.dev.isRunning = true → s.dev.bitOf Ix.SUP_STATUS 7 = false →
    Does (.handshakeStall 0 channel) s fun t => t.dev.supply.phase = .held ∧ t.dev.bitOf Ix.SUP_RESET_CAUSE 4 = true)
  ∧ (∀ (s : State) (source channel : Nat), s.dev.isPowered = true → source ≠ 0 →
    Does (.handshakeStall source channel) s fun t => s.Reports t [message source 3 channel] ∧ s.dev.SameObjects t.dev [])

/-- Power-on resets (R76, R79, R86 to R88, Table 5.3). VHOLD below its minimum outside Sleep and service mode, where the Rider runs from another supply (log 22), an armed wake source in Sleep, the WAKE pin by the edge or level of `SUP_WAKE_PIN_MODE` and the host SPI port with VIO present, and the exit from Ledger service mode with no post in progress restart the Pacer count at 0 and hold the device in reset; the cause is POR, with WAKE after a wake, whose source `SUP_WAKE_CAUSE` names, and the service exit alone after a service exit, which waits for a post in progress. An admitted write to `SUP_SLEEP` with a wake source armed turns every gate off, ends every session and records the armed sources. The readings and choices it rests on: log entries 3, 23, 24. -/
def Obligations.PowerOnResetsAndSleep : Prop :=
  (∀ s : State, s.dev.supply.phase ≠ .asleep → s.dev.supply.phase ≠ .service →
    Does .vholdMinimum s fun t =>
      t.pacer = 0 ∧ t.pending = s.pending ∧ t.dev.isRunning = false ∧ t.dev.bitOf Ix.SUP_STATUS 6 = false ∧ t.dev.bitOf Ix.SUP_RESET_CAUSE 0 = true
        ∧ (s.dev.bitOf Ix.SUP_STATUS 7 = true → t.dev.bitOf Ix.SUP_RESET_CAUSE 5 = true))
  ∧ (∀ s : State, s.dev.supply.phase = .asleep ∨ s.dev.supply.phase = .service →
    Does .vholdMinimum s fun t =>
      t.pacer = s.pacer ∧ t.dev.bitOf Ix.SUP_STATUS 6 = false ∧ t.dev.supply.phase = s.dev.supply.phase
        ∧ s.dev.SameObjects t.dev [keyOf Ix.SUP_STATUS 0])
  ∧ (∀ (s : State) (source : WakeSource), s.dev.supply.phase = .asleep → bit s.dev.supply.wakeArmed (wakeNumber source) = true →
    (∀ did, source = .pin did → did.val = s.dev.rd Ix.SUP_WAKE_PIN_MODE) → (source = .hostSpi → s.dev.bitOf Ix.SUP_STATUS 5 = true) →
    Does (.wakeEvent source) s fun t =>
      t.pacer = 0 ∧ t.pending = s.pending ∧ t.dev.supply.phase = .held ∧ t.dev.bitOf Ix.SUP_RESET_CAUSE 0 = true
        ∧ t.dev.bitOf Ix.SUP_RESET_CAUSE 6 = true ∧ t.dev.rd Ix.SUP_WAKE_CAUSE = wakeNumber source)
  ∧ (∀ s : State, s.dev.supply.phase = .asleep → bit s.dev.supply.wakeArmed 4 = true →
    Does .wakeTimer s fun t =>
      t.pacer = 0 ∧ t.pending = s.pending ∧ t.dev.supply.phase = .held ∧ t.dev.bitOf Ix.SUP_RESET_CAUSE 6 = true
        ∧ t.dev.rd Ix.SUP_WAKE_CAUSE = 4)
  ∧ (∀ s : State, s.dev.supply.phase = .service → s.dev.ledger.post = none →
    Does .serviceExit s fun t =>
      t.pacer = 0 ∧ t.pending = s.pending ∧ t.dev.supply.phase = .held ∧ t.dev.rd Ix.SUP_RESET_CAUSE = 0x200)
  ∧ (∀ s : State, s.dev.supply.phase = .service → s.dev.ledger.post ≠ none →
    Does .serviceExit s fun t => t.pacer = s.pacer ∧ t.dev.supply.exitPending = true ∧ t.dev.supply.phase = .service)
  ∧ (∀ (s : State) (rq : Requester), s.admits rq Ix.SUP_SLEEP 0 = true → s.heard.sleepStatus = 0 →
    Does (.sleepEnter rq) s fun t =>
      t.dev.server.answer = ⟨0, 0, []⟩ ∧ t.dev.supply.phase = .asleep ∧ t.dev.supply.wakeArmed = s.dev.armed
        ∧ t.dev.supply.transceivers = false ∧ (∀ l, l < 24 → (t.dev.leg l).high = false ∧ (t.dev.leg l).low = false)
        ∧ t.dev.server.sessions = [])

/-- Boot (R78 to R82). A device in reset whose release conditions hold boots: where a firmware bank passes its checks the steps of R80 run in order on the bank chosen, and where none does the boot ROM serves UPDATE; otherwise it stays as it is. Without VBAT it enters Ledger service mode instead. The crystal becomes the Pacer's reference once it is stable, where `PAC_SOURCE` selects it and it was not lost; 60 s in READY or RUN confirm a TRIAL bank; an admitted write of `SUP_BOOT_BANK_PREF` is accepted only for a bank that passes its checks, and ends a trial. The readings and choices it rests on: log entries 10, 12, 25. -/
def Obligations.BootRuns : Prop :=
  (∀ (s : State) (vbat vio vgd vcc5 vhold bootUs selfTest k : Nat) (d : Device), s.dev.supply.phase = .held → s.dev.releases ⟨vbat, vio, vgd, vcc5, vhold⟩ = true →
    ((s.dev.showRails ⟨vbat, vio, vgd, vcc5, vhold⟩).bootSense s.now selfTest).chooseBank s.now = (some k, d) →
    exec (.resetRelease vbat vio vgd vcc5 vhold bootUs selfTest) s
      = .next (s.into (((((d.bootBank k).bootSaddle s.now).bootLoad s.now).bootPacer s.now).bootEnd s.now bootUs)))
  ∧ (∀ (s : State) (vbat vio vgd vcc5 vhold bootUs selfTest : Nat) (d : Device), s.dev.supply.phase = .held → s.dev.releases ⟨vbat, vio, vgd, vcc5, vhold⟩ = true →
    ((s.dev.showRails ⟨vbat, vio, vgd, vcc5, vhold⟩).bootSense s.now selfTest).chooseBank s.now = (none, d) →
    exec (.resetRelease vbat vio vgd vcc5 vhold bootUs selfTest) s = .next (s.into (d.romUpdate s.now)))
  ∧ (∀ (s : State) (vbat vio vgd vcc5 vhold bootUs selfTest : Nat),
    s.dev.supply.phase ≠ .held ∨ s.dev.releases ⟨vbat, vio, vgd, vcc5, vhold⟩ = false →
    Does (.resetRelease vbat vio vgd vcc5 vhold bootUs selfTest) s fun t => t.dev = s.dev.settle)
  ∧ (∀ (s : State) (vio : Nat), s.dev.supply.phase = .held → s.dev.supply.vbatAbsent = true →
    Does (.serviceModeEnter vio) s fun t =>
      t.dev.supply.phase = .service ∧ t.dev.supply.pace = 0 ∧ t.dev.server.teamster = true ∧ t.dev.state = devService)
  ∧ (∀ s : State, s.dev.isRunning = true → s.dev.rd Ix.PAC_SOURCE = 0 → s.dev.supply.xtalLost = false →
    Does .crystalStable s fun t => t.dev.supply.xtalStable = true ∧ t.dev.rd Ix.PAC_SOURCE_ACTIVE = 0)
  ∧ (∀ s : State, s.dev.isRunning = true → s.dev.supply.trialRunning = true → (s.dev.state = devReady ∨ s.dev.state = devRun) →
    Does .trialConfirm s fun t =>
      t.dev.boot.trial = false ∧ t.dev.boot.trialCount = 0 ∧ t.dev.rd Ix.SUP_BOOT_TRIAL = 0 ∧ t.dev.supply.trialRunning = false)
  ∧ (∀ (s : State) (rq : Requester) (k : Nat), k ≤ 1 → s.admits rq Ix.SUP_BOOT_BANK_PREF 0 = true → s.heard.bankOk k = true →
    Does (.bootBankPrefWrite rq k) s fun t =>
      t.dev.server.answer = ⟨0, 0, []⟩ ∧ t.dev.boot.preferred.val = k ∧ t.dev.boot.trial = false ∧ t.dev.rd Ix.SUP_BOOT_BANK_PREF = k)
  ∧ (∀ (s : State) (rq : Requester) (k : Nat), k ≤ 1 → s.admits rq Ix.SUP_BOOT_BANK_PREF 0 = true → s.heard.bankOk k = false →
    Does (.bootBankPrefWrite rq k) s fun t =>
      t.dev.server.answer = ⟨4, 0, []⟩ ∧ t.dev.boot = s.dev.boot ∧ s.Reports t [message 0x10 0x0A Ix.SUP_BOOT_BANK_PREF])

/-- Posting the persistent set (R55, R89, R103, R108). An admitted `STO_POST` while no post and no OTP command runs and the supply holds is answered OK and captures the set in effect; POST_COMPLETE makes the new head with the next serial, its entry in the slot that the head did not name, in three equal copies, and shows the time taken. A failed read-back leaves the heads and the slot that were in force, and LDG 0x45 names the record; one of a head finds all three areas of the other slot written. A post whose serial would exceed 0xFFFF_FFFE changes nothing and is posted the same way, with the detail of the heads (log 82). The readings and choices it rests on: log entries 2, 21. -/
def Obligations.PostIsCapturedAndCompleted : Prop :=
  (∀ (s : State) (rq : Requester), s.admits rq Ix.STO_POST 0 = true → s.heard.postStatus = 0 →
    Does (.stoPost rq) s fun t =>
      t.dev.server.answer = ⟨0, 0, []⟩ ∧ t.dev.rd Ix.STO_POST = 1
        ∧ t.dev.ledger = { s.dev.ledger with post := some (s.heard.records (s.dev.rd Ix.STO_LEDGER_HEAD + 1)) })
  ∧ (∀ (s : State) (rq : Requester), s.admits rq Ix.STO_POST 0 = true → s.heard.postStatus = 0x0A →
    Does (.stoPost rq) s fun t => t.dev.server.answer = ⟨0x0A, 0, []⟩ ∧ t.dev.ledger = s.dev.ledger)
  ∧ (∀ (s : State) (rs : List LedgerRecord) (us : Nat), s.dev.ledger.post = some rs → s.dev.supply.exitPending = false →
    s.dev.rd Ix.STO_LEDGER_HEAD + 1 ≤ 0xFFFF_FFFE →
    Does (.postComplete us none) s fun t =>
      t.dev.rd Ix.STO_POST = 2 ∧ t.dev.rd Ix.STO_POST_TIME = us % 2 ^ 32 ∧ t.dev.rd Ix.STO_LEDGER_HEAD = s.dev.rd Ix.STO_LEDGER_HEAD + 1
        ∧ t.dev.ledger.post = none ∧ t.dev.bitOf Ix.STO_LEDGER_STATUS 0 = !s.dev.bitOf Ix.STO_LEDGER_STATUS 0
        ∧ (t.dev.ledger.head1.map fun h => (h.serial, h.slot)) = some (t.dev.rd Ix.STO_LEDGER_HEAD, if s.dev.bitOf Ix.STO_LEDGER_STATUS 0 then 0 else 1)
        ∧ t.dev.ledger.head2 = t.dev.ledger.head1 ∧ t.dev.ledger.head3 = t.dev.ledger.head1
        ∧ (t.dev.ledger.slotAt (if s.dev.bitOf Ix.STO_LEDGER_STATUS 0 then 0 else 1)) = ⟨rs.map (·.id), rs, rs, rs⟩
        ∧ (t.dev.ledger.slotAt (if s.dev.bitOf Ix.STO_LEDGER_STATUS 0 then 1 else 0))
            = s.dev.ledger.slotAt (if s.dev.bitOf Ix.STO_LEDGER_STATUS 0 then 1 else 0))
  ∧ (∀ (s : State) (rs : List LedgerRecord) (us k : Nat), s.dev.ledger.post = some rs → s.dev.supply.exitPending = false →
    s.dev.rd Ix.STO_LEDGER_HEAD + 1 ≤ 0xFFFF_FFFE →
    Does (.postComplete us (some k)) s fun t =>
      t.dev.rd Ix.STO_POST = 3 ∧ s.Reports t [message 0xE1 0x45 k] ∧ t.dev.rd Ix.STO_LEDGER_HEAD = s.dev.rd Ix.STO_LEDGER_HEAD
        ∧ t.dev.ledger.post = none ∧ t.dev.ledger.ring = s.dev.ledger.ring
        ∧ [t.dev.ledger.head1, t.dev.ledger.head2, t.dev.ledger.head3] = [s.dev.ledger.head1, s.dev.ledger.head2, s.dev.ledger.head3]
        ∧ t.dev.ledger.slotAt (1 - s.dev.postSlot) = s.dev.ledger.slotAt (1 - s.dev.postSlot)
        ∧ (k = 0xFFFF → t.dev.ledger.slotAt s.dev.postSlot = (s.dev.ledger.slotAt s.dev.postSlot).part rs (3 * rs.length) false))
  ∧ (∀ (s : State) (rs : List LedgerRecord) (us : Nat) (failed : Option Nat), s.dev.ledger.post = some rs → s.dev.supply.exitPending = false →
    0xFFFF_FFFE < s.dev.rd Ix.STO_LEDGER_HEAD + 1 →
    Does (.postComplete us failed) s fun t =>
      t.dev.rd Ix.STO_POST = 3 ∧ s.Reports t [message 0xE1 0x45 0xFFFF] ∧ t.dev.ledger = { s.dev.ledger with post := none })

/-- Defaults, checkpoints and the calibration record (R57, R89, R112, R114). An admitted `DEV_RESTORE_DEFAULTS` discards every staged set. Between warnings the checkpoint timer takes a checkpoint with the next serial. A calibration record that fits replaces the one that was, with its write count one higher and its CRC made again; one that does not fit is answered RANGE and leaves it. The readings and choices it rests on: log entries 2, 19, 27, 28. -/
def Obligations.DefaultsCheckpointsCalibration : Prop :=
  (∀ (s : State) (rq : Requester), s.admits rq Ix.DEV_RESTORE_DEFAULTS 0 = true →
    Does (.restoreDefaults rq) s fun t => t.dev.server.answer = ⟨0, 0, []⟩ ∧ t.dev.server.staged = [])
  ∧ (∀ s : State, s.dev.isRunning = true → s.dev.bitOf Ix.SUP_STATUS 1 = false → s.dev.bitOf Ix.SUP_STATUS 7 = false →
    Does .checkpointTimer s fun t =>
      t.dev.rd Ix.STO_CP_SERIAL = (s.dev.rd Ix.STO_CP_SERIAL + 1) % 2 ^ 32
        ∧ (t.dev.ledger.ring.head?.map fun c => (c.serial, c.loss, c.brownOut, c.time, c.counters))
            = some (t.dev.rd Ix.STO_CP_SERIAL, false, false, s.now, s.dev.counters)
        ∧ s.dev.SameObjects t.dev [keyOf Ix.STO_CP_SERIAL 0, keyOf Ix.SUP_CHECKPOINTS 0])
  ∧ (∀ (s : State) (rq : Requester) (bytes : List Octet), s.admitsBlob rq Ix.STO_CAL_RECORD = true → s.heard.calRecordOk bytes = true →
    Does (.calRecordWrite rq bytes) s fun t =>
      t.dev.server.answer = ⟨0, 0, []⟩
        ∧ t.dev.tab Ix.STO_CAL_RECORD
            = sealRecord (bytes.take 12 ++ leBytes 4 (bytesAt (s.dev.tab Ix.STO_CAL_RECORD) 12 4 + 1) ++ (bytes.take 252).drop 16))
  ∧ (∀ (s : State) (rq : Requester) (bytes : List Octet), s.admitsBlob rq Ix.STO_CAL_RECORD = true → s.heard.calRecordOk bytes = false →
    Does (.calRecordWrite rq bytes) s fun t =>
      t.dev.server.answer = ⟨4, 0, []⟩ ∧ t.dev.tab Ix.STO_CAL_RECORD = s.dev.tab Ix.STO_CAL_RECORD
        ∧ s.Reports t [message 0xE1 0x0A Ix.STO_CAL_RECORD])

/-- OTP commands (R103 to R105). PROGRAM, SEAL, LOCK and LOCK_VOID that nothing stands against are answered OK and run: PROGRAM drives the codeword of the data word into the word addressed, SEAL the check word of the bank into its word 15; LOCK and LOCK_VOID blow both lock fuses of the bank at once. A command is BUSY while another runs. When it is done every fuse driven reads 1 but those that are missing or marginal; where the word does not read back CLEAN with the intended value, as after a PROGRAM of 0, it is spoiled and OTP 0x48 names it. The readings and choices it rests on: log entries 26, 27. -/
def Obligations.OtpCommands : Prop :=
  (∀ (s : State) (rq : Requester), s.admits rq Ix.STO_OTP_PROG_CMD 0 = true → s.heard.otpGate = 0 → s.heard.programBad = false →
    Does (.otpProgram rq) s fun t =>
      t.dev.server.answer = ⟨0, 0, []⟩ ∧ t.dev.rd Ix.STO_OTP_PROG_STATUS = 1
        ∧ t.dev.otp = { s.dev.otp with job := some ⟨s.dev.rd Ix.STO_OTP_PROG_ADDR, encodeWord (s.dev.rd Ix.STO_OTP_PROG_DATA)⟩ })
  ∧ (∀ (s : State) (rq : Requester), s.admits rq Ix.STO_OTP_PROG_CMD 0 = true → s.heard.otpGate = 0 → s.heard.sealBad = false →
    Does (.otpSeal rq) s fun t =>
      t.dev.server.answer = ⟨0, 0, []⟩ ∧ t.dev.rd Ix.STO_OTP_PROG_STATUS = 1
        ∧ t.dev.otp = { s.dev.otp with job := some ⟨16 * s.dev.rd Ix.STO_OTP_PROG_ADDR + 15, encodeWord (s.dev.checkWord (s.dev.rd Ix.STO_OTP_PROG_ADDR))⟩ })
  ∧ (∀ (s : State) (rq : Requester), s.admits rq Ix.STO_OTP_PROG_CMD 0 = true → s.heard.otpGate = 0 → s.heard.lockBad = false →
    Does (.otpLock rq) s fun t =>
      t.dev.server.answer = ⟨0, 0, []⟩ ∧ t.dev.rd Ix.STO_OTP_PROG_STATUS = 1
        ∧ t.dev.bankLocked (s.dev.rd Ix.STO_OTP_PROG_ADDR) = true
        ∧ t.dev.otp.job = some ⟨242, 3 * 4 ^ s.dev.rd Ix.STO_OTP_PROG_ADDR⟩)
  ∧ (∀ (s : State) (rq : Requester), s.admits rq Ix.STO_OTP_PROG_CMD 0 = true → s.heard.otpGate = 0 → s.heard.lockVoidBad = false →
    Does (.otpLockVoid rq) s fun t =>
      t.dev.server.answer = ⟨0, 0, []⟩ ∧ t.dev.rd Ix.STO_OTP_PROG_STATUS = 1
        ∧ t.dev.bankLocked (s.dev.rd Ix.STO_OTP_PROG_ADDR) = true
        ∧ t.dev.otp.job = some ⟨242, 3 * 4 ^ s.dev.rd Ix.STO_OTP_PROG_ADDR⟩)
  ∧ (∀ (s : State) (rq : Requester), s.admits rq Ix.STO_OTP_PROG_CMD 0 = true → s.heard.otpGate = 0x0A →
    Does (.otpProgram rq) s fun t => t.dev.server.answer = ⟨0x0A, 0, []⟩ ∧ t.dev.otp = s.dev.otp)
  ∧ (∀ (s : State) (j : OtpJob) (weak missing : Nat), s.dev.isRunning = true → s.dev.otp.job = some j → j.word < 240 →
    Does (.otpCommandDone weak missing) s fun t =>
      t.dev.otp.job = none
        ∧ ((fusesAt t.dev.otp.fuses j.word).blown &&& j.target) = j.target &&& (2 ^ 39 - 1) &&& ((2 ^ 39 - 1) ^^^ ((missing &&& j.target) ||| (weak &&& j.target)))
        ∧ (if (fusesAt t.dev.otp.fuses j.word).resolve = (1, j.target % 2 ^ 32) then
            t.dev.rd Ix.STO_OTP_PROG_STATUS = 2 ∧ t.dev.otp.spoiled = s.dev.otp.spoiled ∧ s.Reports t []
          else t.dev.rd Ix.STO_OTP_PROG_STATUS = 3 ∧ s.Reports t [message 0xE0 0x48 j.word] ∧ j.word ∈ t.dev.otp.spoiled))
  ∧ (∀ (s : State) (j : OtpJob), s.dev.isRunning = true → s.dev.otp.job = some j → 240 ≤ j.word →
    Does (.otpCommandDone 0 0) s fun t =>
      t.dev.otp.job = none ∧ t.dev.rd Ix.STO_OTP_PROG_STATUS = 2 ∧ t.dev.otp.spoiled = s.dev.otp.spoiled ∧ s.Reports t []
        ∧ ((fusesAt t.dev.otp.fuses j.word).blown &&& j.target) = j.target &&& (2 ^ 39 - 1))

/-- Trip sources (R123, R128 to R131, R133, Tables 7.3 and 7.5). A drain-source monitor whose gate is sensed on, a comparator that is on, a gate fault, a trip pin held low for at least 10 ns, a lost strobe and the rise of the Hobble command wire latch the legs of their scope and no others, and are posted. A gate fault takes its legs to OFF whatever their trip state. A drain-source or overcurrent condition still inside its filter is active and no more, and a monitor that is off sees nothing. A gate fault or a lost strobe while the device is held in reset is remembered for boot step 5, once for each source and leg (R130). The readings and choices it rests on: log entries 3, 17. -/
def Obligations.TripSourcesLatchTheirLegs : Prop :=
  (∀ (s : State) (l : Fin 24) (high : Bool), s.dev.isRunning = true → (s.dev.leg l).monitors = true →
    Does (.vdsAction ⟨l, true⟩ high) s fun t =>
      s.dev.Latches t.dev (s.dev.scopeLegs l (s.dev.dsScope l))
        ∧ s.Reports t [message (srcByte 4 (l / 4)) (if high then 0x40 else 0x41) l])
  ∧ (∀ (s : State) (l : Fin 24), s.dev.isRunning = true → (s.dev.leg l).monitors = true →
    Does (.overcurrent ⟨l, true⟩) s fun t =>
      s.dev.Latches t.dev (s.dev.scopeLegs l (s.dev.ocScope l)) ∧ s.Reports t [message (srcByte 4 (l / 4)) 0x07 l])
  ∧ (∀ (s : State) (l : Fin 24) (c : Instr) (src : Nat), s.dev.isRunning = true → (s.dev.leg l).monitors = true →
    (c = .vdsAction ⟨l, false⟩ true ∧ src = 2) ∨ (c = .vdsAction ⟨l, false⟩ false ∧ src = 3) ∨ (c = .overcurrent ⟨l, false⟩ ∧ src = 4) →
    Does c s fun t =>
      src ∈ (t.dev.leg l).active ∧ (∀ k, k < 24 → (t.dev.leg k).latched = (s.dev.leg k).latched) ∧ s.Reports t []
        ∧ s.dev.SameObjects t.dev [])
  ∧ (∀ (s : State) (l : Fin 24) (high acts : Bool) (c : Instr), (c = .vdsAction ⟨l, acts⟩ high ∨ c = .overcurrent ⟨l, acts⟩) →
    s.dev.isRunning = true → (s.dev.leg l).monitors = false → Does c s fun t => t.dev = s.dev.settle)
  ∧ (∀ (s : State) (l : Fin 24) (high toOff : Bool), s.dev.isRunning = true →
    Does (.gateFault l high toOff) s fun t =>
      (∀ k ∈ s.dev.scopeLegs l (s.dev.dsScope l), (t.dev.leg k).latched = true ∧ (t.dev.leg k).high = false ∧ (t.dev.leg k).low = false)
        ∧ (∀ k, k < 24 → k ∉ s.dev.scopeLegs l (s.dev.dsScope l) → t.dev.leg k = s.dev.leg k)
        ∧ s.Reports t [message (srcByte 4 (l / 4)) 0x45 (l + bitIf (!high) 8 + bitIf toOff 9)])
  ∧ (∀ (s : State) (pinB : Bool) (ns : Nat), s.dev.isRunning = true → 10 ≤ ns →
    Does (.tripPin pinB ns) s fun t =>
      s.dev.Latches t.dev (s.dev.maskLegs (if pinB then Ix.GDA_TRIPB_MASK else Ix.GDA_TRIPA_MASK))
        ∧ s.Reports t [message 0x47 0x42 (if pinB then 1 else 0)])
  ∧ (∀ s : State, s.dev.isRunning = true →
    Does .strobeLost s fun t =>
      s.dev.Latches t.dev (List.range 24) ∧ t.dev.bitOf Ix.GTH_STATUS 3 = true ∧ s.Reports t [message 0x20 0x42 0])
  ∧ (∀ (s : State) (rq : Requester), s.admits rq Ix.GDA_HOBBLE_CMD 0 = true → s.dev.hobbleWire = false →
    Does (.hobbleCmdWrite rq 1) s fun t =>
      s.dev.Latches t.dev (List.range 24) ∧ t.dev.rd Ix.GDA_HOBBLE_CMD = 1 ∧ t.dev.server.answer = ⟨0, 0, []⟩
        ∧ s.Reports t [message 0x47 0x43 0])
  ∧ (∀ (s : State) (l : Fin 24) (high toOff : Bool), s.dev.supply.phase = .held → (∀ x ∈ s.dev.gda.early, x.src ≠ 7 ∨ x.leg ≠ l.val) →
    Does (.gateFault l high toOff) s fun t =>
      t.dev.gda.early = s.dev.gda.early ++ [⟨7, l, srcByte 4 (l / 4), 0x45, l + bitIf (!high) 8 + bitIf toOff 9⟩]
        ∧ (∀ k, k < 24 → (t.dev.leg k).latched = (s.dev.leg k).latched) ∧ s.Reports t [])
  ∧ (∀ s : State, s.dev.supply.phase = .held → (∀ x ∈ s.dev.gda.early, x.src ≠ 6) →
    Does .strobeLost s fun t =>
      t.dev.gda.early = s.dev.gda.early ++ [⟨6, 0, 0x20, 0x42, 0⟩] ∧ s.Reports t [])

/-- Clearing the latch (R133). An admitted `GDA_TRIP_CLEAR` of legs whose axes are disabled and whose sources are all qualified inactive clears their latch bits, and each leg follows its gate command wires again; where a source is still active or unqualified nothing is cleared, and the refusal is counted. A source leaves the active ones when it is qualified inactive. The readings and choices it rests on: log entries 2, 17. -/
def Obligations.TripLatchIsCleared : Prop :=
  (∀ (s : State) (rq : Requester) (mask : Nat), s.admits rq Ix.GDA_TRIP_CLEAR 0 = true → s.heard.tripClearStatus mask = 0 →
    Does (.tripClear rq mask) s fun t =>
      t.dev.server.answer = ⟨0, 0, []⟩
        ∧ ∀ k, k < 24 →
          (bit mask k = true → (t.dev.leg k).latched = false ∧ (t.dev.leg k).high = (s.dev.leg k).cmdHigh
            ∧ (t.dev.leg k).low = (s.dev.leg k).cmdLow ∧ t.dev.bitOf Ix.GDA_TRIP_LATCH k = false)
          ∧ (bit mask k = false → t.dev.leg k = s.dev.leg k ∧ t.dev.bitOf Ix.GDA_TRIP_LATCH k = s.dev.bitOf Ix.GDA_TRIP_LATCH k))
  ∧ (∀ (s : State) (rq : Requester) (mask : Nat), s.admits rq Ix.GDA_TRIP_CLEAR 0 = true → s.heard.tripClearStatus mask = 0x10 →
    Does (.tripClear rq mask) s fun t =>
      t.dev.server.answer = ⟨0x10, 0, []⟩ ∧ t.dev.gda = s.dev.gda ∧ t.dev.rd Ix.GDA_TRIP_LATCH = s.dev.rd Ix.GDA_TRIP_LATCH
        ∧ t.dev.rd Ix.GDA_CLEAR_REFUSED_COUNT = min (s.dev.rd Ix.GDA_CLEAR_REFUSED_COUNT + 1) 0xFFFF_FFFF)
  ∧ (∀ (s : State) (source : Nat) (l : Fin 24), s.dev.isRunning = true → source = 2 ∨ source = 3 ∨ source = 4 ∨ source = 7 →
    Does (.tripQualEnd source l) s fun t =>
      source ∉ (t.dev.leg l).active ∧ (∀ k, k < 24 → k ≠ l.val → t.dev.leg k = s.dev.leg k) ∧ s.dev.SameObjects t.dev [])
  ∧ (∀ (s : State) (source : Nat) (l : Fin 24), s.dev.isRunning = true → source = 0 ∨ source = 1 ∨ source = 6 →
    Does (.tripQualEnd source l) s fun t => source ∉ t.dev.gda.active ∧ t.dev.gda.legs = s.dev.gda.legs)

/-- The guard and the supplies of a leg (R121, R124, R125, R127, R131). A turn-on that waits for the guard is made once the opposite gate is off, in a leg that is not latched; in trip state LOW the low side turns on under the same rule. A low bootstrap supply of a leg of an axis holds its high side off and is posted at its onset; a low VGD is posted once per episode while VBAT is at least 5.5 V. The monitors of every leg that joined an axis come on together. The readings and choices it rests on: log entries 2, 3, 18. -/
def Obligations.GuardAndLegSupplies : Prop :=
  (∀ (s : State) (l : Fin 24), s.dev.isRunning = true → (s.dev.leg l).latched = false → s.dev.gda.allOff = false →
    (s.dev.leg l).waitHigh = true → (s.dev.leg l).low = false →
    Does (.guardDelayEnd l true) s fun t => t.dev.leg l = { s.dev.leg l with high := true, waitHigh := false })
  ∧ (∀ (s : State) (l : Fin 24), s.dev.isRunning = true → (s.dev.leg l).latched = false → s.dev.gda.allOff = false →
    (s.dev.leg l).waitLow = true → (s.dev.leg l).high = false →
    Does (.guardDelayEnd l false) s fun t => t.dev.leg l = { s.dev.leg l with low := true, waitLow := false })
  ∧ (∀ (s : State) (l : Fin 24), s.dev.isRunning = true → (s.dev.leg l).latched = true → (s.dev.leg l).waitTrip = true →
    (s.dev.leg l).forceOff = false → s.dev.gda.allOff = false → (s.dev.leg l).high = false →
    Does (.tripLowTurnOn l) s fun t => t.dev.leg l = { s.dev.leg l with low := true, waitTrip := false })
  ∧ (∀ (s : State) (l : Fin 24), s.dev.isRunning = true → s.dev.legOwner l < 8 → s.dev.bitOf Ix.GDA_BST_UV l = false →
    Does (.bstUv l) s fun t =>
      t.dev.bitOf Ix.GDA_BST_UV l = true ∧ t.dev.leg l = { s.dev.leg l with high := false, waitHigh := false }
        ∧ s.Reports t [message (srcByte 4 (l / 4)) 0x44 l])
  ∧ (∀ (s : State) (l : Fin 24), s.dev.isRunning = true →
    Does (.bstUvRelease l) s fun t =>
      t.dev.bitOf Ix.GDA_BST_UV l = false ∧ t.dev.gda = s.dev.gda ∧ s.dev.SameObjects t.dev [keyOf Ix.GDA_BST_UV 0] ∧ s.Reports t [])
  ∧ (∀ (s : State) (vgd vbat : Nat), s.dev.isRunning = true → vgd < 9000 → 5500 ≤ vbat → vbat < 65536 →
    Does (.vgdLow vgd vbat) s fun t =>
      t.dev.rd Ix.SUP_VGD = vgd ∧ t.dev.rd Ix.SUP_VBAT = vbat ∧ t.dev.gda.vgdLow = true
        ∧ s.Reports t (if s.dev.gda.vgdLow then [] else [message 0x46 0x47 (vgd / 10)]))
  ∧ (∀ (s : State) (vgd : Nat), s.dev.isRunning = true → 9000 ≤ vgd → vgd < 65536 →
    Does (.vgdLowEpisodeEnd vgd) s fun t => t.dev.rd Ix.SUP_VGD = vgd ∧ t.dev.gda.vgdLow = false ∧ s.Reports t [])
  ∧ (∀ s : State, s.dev.isRunning = true →
    Does .monitorsOn s fun t => ∀ k, k < 24 →
      t.dev.leg k = (if (s.dev.leg k).monitorsDue then { s.dev.leg k with monitors := true, monitorsDue := false } else s.dev.leg k))

/-- No leg ever has both gates on (R127): every command that changes a gate outside a write of `GDA_TRIP_CLEAR` keeps it so. The readings and choices it rests on: log entries 17, 18. -/
def Obligations.GuardKeepsNoShootThrough : Prop :=
  ∀ (s : State) (c : Instr) (t : State), s.dev.NoShootThrough → exec c s = .next t →
    (match c with
      | .guardDelayEnd _ _ | .tripLowTurnOn _ | .vdsAction _ _ | .overcurrent _ | .gateFault _ _ _ | .tripPin _ _ | .bstUv _
      | .strobeLost | .vgdUv _ | .vbatUv _ | .gateCommandEdge _ _ | .monitorsOn => True
      | _ => False) → t.dev.NoShootThrough

/-- Edge sets arrive (R142, R144). A set for the next period to be decided that comes by its post-by time and by the limit of its own first edge is accepted with its arrival; one for the period after that is kept; a set that no period takes is counted in `AXn_EDP_LATE_SETS`. Each is the newest set from then on. The readings and choices it rests on: log entry 39. -/
def Obligations.PostedSetsAreTaken : Prop :=
  (∀ (s : State) (n : Fin 8) (fine : Fin 32) (set : EdgeSet), s.dev.isRunning = true → (s.dev.edpOf n).mailbox = some set →
    (s.dev.edpOf n).running = true → s.dev.manual n = false → set.seq = ((s.dev.edpOf n).decided + 1) % 2 ^ 32 →
    ((s.now * 32 + fine : Nat) : Int) ≤ s.dev.postBy n → ((s.now * 32 + fine : Nat) : Int) ≤ s.dev.limitFor n (s.dev.earliestOf n (s.dev.treatSet n set.cmp)) →
    Does (.setPosted n fine) s fun t =>
      (t.dev.edpOf n).accepted = some ⟨set, s.now * 32 + fine⟩ ∧ (t.dev.edpOf n).mailbox = none ∧ (t.dev.edpOf n).newest = set.cmp
        ∧ (t.dev.edpOf n).decided = (s.dev.edpOf n).decided ∧ s.dev.SameObjects t.dev [] ∧ s.Reports t [])
  ∧ (∀ (s : State) (n : Fin 8) (fine : Fin 32) (set : EdgeSet), s.dev.isRunning = true → (s.dev.edpOf n).mailbox = some set →
    (s.dev.edpOf n).running = true → s.dev.manual n = false → set.seq = ((s.dev.edpOf n).decided + 2) % 2 ^ 32 →
    Does (.setPosted n fine) s fun t =>
      (t.dev.edpOf n).early = some ⟨set, s.now * 32 + fine⟩ ∧ (t.dev.edpOf n).mailbox = none ∧ s.dev.SameObjects t.dev [])
  ∧ (∀ (s : State) (n : Fin 8) (fine : Fin 32) (set : EdgeSet), s.dev.isRunning = true → (s.dev.edpOf n).mailbox = some set →
    (s.dev.edpOf n).running = true → s.dev.manual n = false → set.seq = ((s.dev.edpOf n).decided + 1) % 2 ^ 32 →
    s.dev.postBy n < ((s.now * 32 + fine : Nat) : Int) →
    Does (.setPosted n fine) s fun t =>
      (t.dev.edpOf n).accepted = (s.dev.edpOf n).accepted ∧ (t.dev.edpOf n).newest = set.cmp
        ∧ t.dev.rd (axIx Ix.AX_EDP_LATE_SETS n) = min (s.dev.rd (axIx Ix.AX_EDP_LATE_SETS n) + 1) 0xFFFF_FFFF
        ∧ s.dev.SameObjects t.dev [keyOf (axIx Ix.AX_EDP_LATE_SETS n) 0])

/-- A period is decided (R142, R143, R145). With an accepted set LATE_RUN ends and the edges of the set come about; without one the newest earlier set is repeated and counted in `AXn_EDP_LATE_COUNT`. Either way the next period number is decided, the one after it starts a carrier period later, and the newest set is its candidate. The readings and choices it rests on: log entries 2, 39. -/
def Obligations.PeriodIsDecided : Prop :=
  (∀ (s : State) (n : Fin 8) (a : AcceptedSet), s.dev.isRunning = true → (s.dev.edpOf n).running = true → s.dev.manual n = false →
    (s.dev.edpOf n).accepted = some a → (s.dev.edpOf n).early = none →
    Does (.periodDecided n) s fun t =>
      (t.dev.edpOf n).decided = ((s.dev.edpOf n).decided + 1) % 2 ^ 32
        ∧ (t.dev.edpOf n).nextStart = (s.dev.edpOf n).nextStart + (s.dev.edpPend n).len * (s.dev.edpPend n).unit
        ∧ (t.dev.edpOf n).edges = (s.dev.edpOf n).edges ++ (s.dev.edpOf n).placed
        ∧ (t.dev.edpOf n).accepted = none ∧ (t.dev.edpOf n).candidate = (s.dev.edpOf n).newest ∧ t.dev.lateRun n = 0)
  ∧ (∀ (s : State) (n : Fin 8), s.dev.isRunning = true → (s.dev.edpOf n).running = true → s.dev.manual n = false →
    (s.dev.edpOf n).accepted = none → (s.dev.edpOf n).early = none →
    Does (.periodDecided n) s fun t =>
      (t.dev.edpOf n).decided = ((s.dev.edpOf n).decided + 1) % 2 ^ 32
        ∧ (t.dev.edpOf n).nextStart = (s.dev.edpOf n).nextStart + (s.dev.edpPend n).len * (s.dev.edpPend n).unit
        ∧ (t.dev.edpOf n).candidate = (s.dev.edpOf n).newest ∧ t.dev.bitOf (axIx Ix.AX_EDP_STATUS n) 0 = true
        ∧ t.dev.rd (axIx Ix.AX_EDP_LATE_COUNT n) = min (s.dev.rd (axIx Ix.AX_EDP_LATE_COUNT n) + 1) 0xFFFF_FFFF)

/-- Events (R137 rule 5, R152 to R154). The first period of an armed axis starts once every leg has its monitors on: the axis runs, its period has the next number, and no compare set is active in it. At an instant that is none of ZERO, PERIOD, the markers and the compares nothing happens. ZERO, at the end of the period before, begins a period with the next number; events that no channel selects have no other effect, and an event channel that selects a source and routes it to neither the capture group nor the engines counts it, notifies the Teamster where it is routed there, and leaves a MARKER record in the trace. Each source occurs once in a period. The readings and choices it rests on: log entries 2, 40. -/
def Obligations.EventsAndFirstPeriod : Prop :=
  (∀ (s : State) (n : Fin 8) (t0 : Nat), s.dev.isRunning = true → (s.dev.edpOf n).armed = some t0 → (s.dev.edpOf n).running = false →
    (∀ l ∈ s.dev.axisLegs n, (s.dev.leg l).monitors = true) → s.dev.rd Ix.CNV_IL_STATUS ≠ 1 → s.dev.cnv.delivered = [] →
    (∀ c ∈ [1, 2, 3, 4], (s.dev.edpSet n).dest c 24 = false ∧ (s.dev.edpSet n).dest c 25 = false) →
    Does (.firstPeriodStart n) s fun t =>
      (t.dev.edpOf n).running = true ∧ (t.dev.edpOf n).armed = none ∧ (t.dev.edpOf n).decided = (s.dev.edpOf n).nextSeq
        ∧ t.dev.rd (axIx Ix.AX_EDP_PERIOD_SEQ n) = (s.dev.edpOf n).nextSeq % 2 ^ 32 ∧ (t.dev.edpOf n).edges = [])
  ∧ (∀ (s : State) (n : Fin 8) (q : Fin 4) (e : Fin 8), s.dev.isRunning = true → s.dev.eventsAt n (s.now * 32 + (8 * q + e)) = ([], none) →
    Does (.eventFire n q e) s fun t => t.dev = s.dev.settle)
  ∧ (∀ (s : State) (n : Fin 8) (q : Fin 4) (e : Fin 8) (old new : List Nat), s.dev.isRunning = true → s.dev.cnv.delivered = [] →
    s.dev.eventsAt n (s.now * 32 + (8 * q + e)) = (old, some new) → (∀ x ∈ (s.dev.edpOf n).owed, x.1 ≠ s.dev.rd (axIx Ix.AX_EDP_PERIOD_SEQ n)) →
    s.dev.freshPeriod n ((s.dev.rd (axIx Ix.AX_EDP_PERIOD_SEQ n) + 1) % 2 ^ 32) = false →
    (∀ c ∈ [1, 2, 3, 4], (((s.dev.frameOf n ((s.dev.rd (axIx Ix.AX_EDP_PERIOD_SEQ n) + 1) % 2 ^ 32)).map (·.cfg)).getD (s.dev.edpSet n)).source c ∉ old ++ new) →
    Does (.eventFire n q e) s fun t =>
      t.dev.rd (axIx Ix.AX_EDP_PERIOD_SEQ n) = (s.dev.rd (axIx Ix.AX_EDP_PERIOD_SEQ n) + 1) % 2 ^ 32
        ∧ s.dev.SameObjects t.dev [keyOf (axIx Ix.AX_EDP_PERIOD_SEQ n) 0] ∧ s.Reports t [])
  ∧ (∀ (s : State) (n : Fin 8) (q : Fin 4) (e : Fin 8) (old : List Nat), s.dev.isRunning = true →
    s.dev.eventsAt n (s.now * 32 + (8 * q + e)) = (old, none) → s.dev.evtSource n 1 ∈ old → (∀ c ∈ [2, 3, 4], s.dev.evtSource n c ∉ old) →
    s.dev.evtDest n 1 24 = false → s.dev.evtDest n 1 25 = false → s.dev.evtDest n 1 27 = true →
    s.dev.rd Ix.CNV_IL_STATUS ≠ 1 → s.dev.cnv.delivered = [] → (s.dev.edpOf n).occurs.getD 0 0 % s.dev.evtN n 1 = 0 →
    Does (.eventFire n q e) s fun t =>
      bit (t.dev.edpOf n).marks 0 = true ∧ (t.dev.edpOf n).occurs.getD 0 0 = (s.dev.edpOf n).occurs.getD 0 0 + 1
        ∧ (∀ x ∈ old, x ∈ (t.dev.edpOf n).fired)
        ∧ bit (t.dev.edpOf n).notified 0 = (bit (s.dev.edpOf n).notified 0 || s.dev.evtDest n 1 26)
        ∧ (t.dev.sc n).trace = ((s.dev.traceAdd n false
            (traceBytes (s.dev.rd (axIx Ix.AX_EDP_PERIOD_SEQ n)) 3 0 ((s.now * 32 + (8 * q + e)) % 2 ^ 32) (0, 0) (0, 0) (0, 0) 0)).sc n).trace
        ∧ s.dev.SameObjects t.dev [keyOf (axIx Ix.AX_SC_STATUS n) 0])

/-- A gate command edge (R126, R127, R139). The next edge in order of time falls due and moves the gate command wire of its output; a leg of a running axis that is not latched turns its gate off at once, and on where the guard lets it, with the opposite gate off. The readings and choices it rests on: log entries 18, 39. -/
def Obligations.GateEdgesMoveTheirWires : Prop :=
  (∀ (s : State) (n : Fin 8) (clear : Bool) (x : DueEdge) (e : Edp) (l : Nat), s.dev.isRunning = true →
    (s.dev.edpOf n).nextEdge = some (x, e) → s.dev.outputLeg n x.output = some l → l < 24 →
    Does (.gateCommandEdge n clear) s fun t =>
      (if x.output % 2 = 0 then (t.dev.leg l).cmdHigh else (t.dev.leg l).cmdLow) = x.on
        ∧ (∀ k, k < 24 → k ≠ l → t.dev.leg k = s.dev.leg k) ∧ (t.dev.edpOf n).edges = e.edges ∧ (t.dev.edpOf n).placed = e.placed)
  ∧ (∀ (s : State) (n : Fin 8) (clear : Bool) (x : DueEdge) (e : Edp) (l : Nat), s.dev.isRunning = true →
    (s.dev.edpOf n).nextEdge = some (x, e) → s.dev.outputLeg n x.output = some l → l < 24 → x.on = false → s.dev.legOwner l < 8 →
    (s.dev.leg l).latched = false → s.dev.gda.allOff = false →
    Does (.gateCommandEdge n clear) s fun t => (if x.output % 2 = 0 then (t.dev.leg l).high else (t.dev.leg l).low) = false)
  ∧ (∀ (s : State) (n : Fin 8) (x : DueEdge) (e : Edp) (l : Nat), s.dev.isRunning = true →
    (s.dev.edpOf n).nextEdge = some (x, e) → s.dev.outputLeg n x.output = some l → l < 24 → x.on = true → s.dev.legOwner l < 8 →
    (s.dev.leg l).latched = false → s.dev.gda.allOff = false → s.dev.bitOf Ix.GDA_BST_UV l = false →
    (if x.output % 2 = 0 then (s.dev.leg l).low else (s.dev.leg l).high) = false →
    Does (.gateCommandEdge n true) s fun t => (if x.output % 2 = 0 then (t.dev.leg l).high else (t.dev.leg l).low) = true)

/-- The speculative pair (R209, R217, R219, R224). A pending set that is complete waits for its measurement, unless one came already; a full computation is posted as the edge set of its cycle's period; the hit rate of a full window of 1,024 cycles is shown in permille, and one below its minimum is posted once. The readings and choices it rests on: log entries 48, 49. -/
def Obligations.SpeculativePair : Prop :=
  (∀ (s : State) (n : Fin 8) (p : PendingSet), s.dev.isRunning = true → (s.dev.sc n).pending = some p → p.done = false →
    (s.dev.sc n).waiting = none → (∀ k, k < 6 → (s.dev.slot n k).due = false) →
    (s.dev.ce n).check = none → (s.dev.ce n).lookups = [] →
    Does (.pendingComputationDone n) s fun t =>
      (t.dev.sc n).pending = some { p with done := true, time := s.now * 32 % 2 ^ 32 } ∧ s.dev.SameObjects t.dev [] ∧ s.Reports t [])
  ∧ (∀ (s : State) (n : Fin 8) (j : FullJob), s.dev.isRunning = true → (s.dev.sc n).full = some j →
    Does (.fullComputationDone n) s fun t =>
      (t.dev.sc n).full = none ∧ (t.dev.edpOf n).mailbox = some ⟨j.meas.cycle.seq, j.cmp.map Int.toNat⟩)
  ∧ (∀ (s : State) (n : Fin 8) (hits : Nat), s.dev.isRunning = true → (s.dev.sc n).full1k = some hits → hits ≤ 1024 →
    (s.dev.rd (axIx Ix.AX_SC_RATE_MIN n) = 0 ∨ ¬ divRne ((hits : Int) * 1000) 1024 < s.dev.rd (axIx Ix.AX_SC_RATE_MIN n)
      ∨ s.dev.bitOf (axIx Ix.AX_SC_STATUS n) 4 = true) →
    Does (.hitRateUpdate n) s fun t =>
      t.dev.rd (axIx Ix.AX_SC_HIT_RATE n) = (divRne ((hits : Int) * 1000) 1024).toNat ∧ (t.dev.sc n).full1k = none
        ∧ s.dev.SameObjects t.dev [keyOf (axIx Ix.AX_SC_HIT_RATE n) 0] ∧ s.Reports t [])
  ∧ (∀ (s : State) (n : Fin 8) (hits : Nat), s.dev.isRunning = true → (s.dev.sc n).full1k = some hits →
    s.dev.rd (axIx Ix.AX_SC_RATE_MIN n) ≠ 0 → (divRne ((hits : Int) * 1000) 1024).toNat < s.dev.rd (axIx Ix.AX_SC_RATE_MIN n) →
    s.dev.bitOf (axIx Ix.AX_SC_STATUS n) 4 = false →
    Does (.hitRateUpdate n) s fun t =>
      t.dev.bitOf (axIx Ix.AX_SC_STATUS n) 4 = true
        ∧ s.Reports t [message (srcByte 8 n) 0x40 (divRne ((hits : Int) * 1000) 1024).toNat])

/-- The conversion pool (R160, R167 to R170, R173, R175). A slice's monitor conversion with good parity shows the supply it read; one with bad parity is counted and posted; with nothing else to do the slice is free again. A held input's conversion completes its hold, which is delivered as the group's latest result. An owed monitor conversion starts on the monitor slice where that is free, and is queued while a burst suspends them. Inputs whose wait reaches the group's window are released as MISSING, counted and posted at the first. An equalisation trims the slice within ±100 ps, and the third failed check in a row withdraws it. A channel whose common mode leaves its band is remembered and posted once. The readings and choices it rests on: log entries 2, 42, 43. -/
def Obligations.ConversionPool : Prop :=
  (∀ (s : State) (sl : Fin 8) (fine : Fin 32) (raw : Int) (mv : Nat), s.dev.isRunning = true → s.dev.cnv.stopped = false → s.dev.PoolQuiet →
    (s.dev.cnv.slices.getD sl ⟨false, .idle, 0, false⟩).job = .monitor 0x70 → s.dev.cnv.delivered = [] → mv < 65536 →
    Does (.sliceConversionDone ⟨sl, fine⟩ raw true mv) s fun t =>
      t.dev.rd Ix.SUP_VBAT = mv ∧ (∀ x, t.dev.cnv.slices[sl]? = some x → x.job = .idle) ∧ s.Reports t [])
  ∧ (∀ (s : State) (sl : Fin 8) (fine : Fin 32) (raw : Int) (mv code : Nat), s.dev.isRunning = true → s.dev.cnv.stopped = false → s.dev.PoolQuiet →
    (s.dev.cnv.slices.getD sl ⟨false, .idle, 0, false⟩).job = .monitor code → s.dev.cnv.delivered = [] →
    Does (.sliceConversionDone ⟨sl, fine⟩ raw false mv) s fun t =>
      t.dev.rd Ix.GTH_PARITY_ERR = min (s.dev.rd Ix.GTH_PARITY_ERR + 1) 0xFFFF_FFFF
        ∧ s.dev.SameObjects t.dev [keyOf Ix.GTH_PARITY_ERR 0] ∧ s.Reports t [message 0x78 0x40 sl])
  ∧ (∀ (s : State) (sl g : Fin 8) (fine : Fin 32) (raw : Int) (mv code time flags prio window : Nat), s.dev.isRunning = true → s.dev.cnv.stopped = false → s.dev.PoolQuiet →
    (s.dev.cnv.slices.getD sl ⟨false, .idle, 0, false⟩).job = .held g time 0 →
    s.dev.cnv.holds = [⟨g, time, prio, window, [⟨code, false, true, 0, flags, false⟩]⟩] → s.dev.cnv.delivered = [] → (s.dev.sc g).cycles = [] →
    (s.dev.threePhase g = true → s.dev.stState g ≠ 1) →
    Does (.sliceConversionDone ⟨sl, fine⟩ raw true mv) s fun t =>
      t.dev.cnv.holds = [] ∧ t.dev.rd (Ix.CNV_LAST + g) 1 = pat 16 (s.dev.result g code sl raw).val
        ∧ t.dev.rd (Ix.CNV_LAST + g) 6 = time % 2 ^ 32 ∧ (∀ x, t.dev.cnv.slices[sl]? = some x → x.job = .idle))
  ∧ (∀ (s : State) (x : Slice), s.dev.isRunning = true → s.dev.bursting = false → s.dev.cnv.stopped = false → s.dev.PoolQuiet →
    s.dev.cnv.slices[s.dev.monitorSlice]? = some x → x.inService = true → x.job = .idle →
    Does .monitorConversionOwed s fun t =>
      t.dev.cnv.owed = [] ∧ t.dev.cnv.slices[s.dev.monitorSlice]?
          = some { x with job := .monitor (s.dev.monitorEntries.getD (s.dev.cnv.round % s.dev.monitorEntries.length) 0x70) }
        ∧ s.dev.SameObjects t.dev [])
  ∧ (∀ s : State, s.dev.isRunning = true → s.dev.bursting = true →
    Does .monitorConversionOwed s fun t => t.dev.cnv = { s.dev.cnv with owed := s.dev.cnv.owed ++ [s.now] } ∧ s.dev.SameObjects t.dev [])
  ∧ (∀ (s : State) (n : Fin 8) (code time prio window : Nat), s.dev.isRunning = true →
    s.dev.cnv.holds = [⟨n, time, prio, window, [⟨code, true, false, 0, 0, false⟩]⟩] → time + window * 32 ≤ s.now * 32 →
    (∀ x ∈ s.dev.cnv.slices, x.inService = true → x.job ≠ .idle ∧ x.job ≠ .equalise ∧ x.job ≠ .calibrate) → s.dev.cnv.delivered = [] → (s.dev.sc n).cycles = [] →
    (s.dev.threePhase n = true → s.dev.stState n ≠ 1) → s.dev.rd (Ix.CNV_GROUP_CNT + n) 2 = 0 →
    Does (.dropped n) s fun t =>
      t.dev.cnv.holds = [] ∧ t.dev.rd (Ix.CNV_GROUP_CNT + n) 2 = 1 ∧ t.dev.rd (Ix.CNV_LAST + n) 5 = missingFlags 0
        ∧ t.dev.rd (Ix.CNV_LAST + n) 6 = time % 2 ^ 32 ∧ s.Reports t [message (srcByte 7 n) 0x42 code])
  ∧ (∀ (s : State) (sl : Fin 8) (x : Slice) (trim : Int), s.dev.isRunning = true →
    s.dev.cnv.slices[sl]? = some x → x.inService = true → -100 < trim → trim < 100 →
    Does (.equalisationDue sl trim true) s fun t =>
      t.dev.rdS 8 Ix.CNV_SKEW (sl + 1) = trim ∧ (t.dev.cnv.slices[sl]?.map fun y => (y.inService, y.fails)) = some (true, 0) ∧ s.Reports t [])
  ∧ (∀ (s : State) (sl : Fin 8) (x : Slice) (trim : Int), s.dev.isRunning = true →
    s.dev.cnv.slices[sl]? = some x → x.inService = true → x.fails = 2 → -100 < trim → trim < 100 →
    Does (.equalisationDue sl trim false) s fun t =>
      t.dev.cnv.slices[sl]? = some { x with fails := 3, due := true, inService := false } ∧ t.dev.bitOf Ix.CNV_SLICES sl = false
        ∧ t.dev.bitOf Ix.CNV_STATUS 2 = true ∧ s.Reports t [message 0x78 0x45 sl])
  ∧ (∀ (s : State) (l : Fin 24), s.dev.isRunning = true → l.val ∉ s.dev.cnv.outside →
    Does (.csCommonMode l true) s fun t =>
      t.dev.cnv.outside = s.dev.cnv.outside ++ [l.val] ∧ s.dev.SameObjects t.dev [] ∧ s.Reports t [message (srcByte 6 (l / 4)) 0x40 l])
  ∧ (∀ (s : State) (l : Fin 24), s.dev.isRunning = true →
    Does (.csCommonMode l false) s fun t => l.val ∉ t.dev.cnv.outside ∧ s.dev.SameObjects t.dev [] ∧ s.Reports t [])

/-- Bursts and system calibration (R176, R178, R179). An admitted ARM that nothing stands against arms a burst, which starts at once where no event triggers it; ABORT ends it with status 4, and the last sample with status 3; a sample that arrives with a parity error leaves its entry and is counted and posted (R7). ZERO and FULL start a measurement; when its 2^k conversions are in, ZERO shows their mean; APPLY of results that are in range takes gain and offset of the channel into the calibration record, and otherwise shows why not. The readings and choices it rests on: log entry 43. -/
def Obligations.BurstsAndCalibration : Prop :=
  (∀ (s : State) (rq : Requester), s.admits rq Ix.CNV_IL_CMD 0 = true → s.heard.burstStatus s.now = 0 →
    Does (.ilArm rq) s fun t =>
      t.dev.server.answer = ⟨0, 0, []⟩ ∧ t.dev.bitOf Ix.CNV_STATUS 0 = true
        ∧ t.dev.rd Ix.CNV_IL_STATUS = (if s.dev.rd Ix.CNV_IL_TRIG = 0xFF then 2 else 1)
        ∧ (s.dev.rd Ix.CNV_IL_TRIG = 0xFF → t.dev.rd Ix.CNV_IL_T0 = s.now * 32 % 2 ^ 32))
  ∧ (∀ (s : State) (rq : Requester), s.admits rq Ix.CNV_IL_CMD 0 = true → s.dev.bitOf Ix.CNV_STATUS 0 = true →
    Does (.ilAbort rq) s fun t =>
      t.dev.server.answer = ⟨0, 0, []⟩ ∧ t.dev.rd Ix.CNV_IL_STATUS = 4 ∧ t.dev.bitOf Ix.CNV_STATUS 0 = false ∧ t.dev.cnv.burstEnd = some s.now)
  ∧ (∀ (s : State) (raws : List SliceResult), s.dev.isRunning = true → s.dev.bursting = true →
    Does (.ilBurstDone raws) s fun t =>
      t.dev.rd Ix.CNV_IL_STATUS = 3 ∧ t.dev.bitOf Ix.CNV_STATUS 0 = false ∧ t.dev.cnv.burstEnd = some s.now)
  ∧ (∀ s : State, s.dev.isRunning = true → s.dev.bursting = true → s.dev.rd Ix.CNV_IL_COUNT ≠ 0 → s.dev.cnv.holds = [] →
    Does (.ilBurstDone [none]) s fun t =>
      t.dev.tab Ix.CNV_IL_DATA = s.dev.tab Ix.CNV_IL_DATA ∧ t.dev.rd Ix.GTH_PARITY_ERR = min (s.dev.rd Ix.GTH_PARITY_ERR + 1) 0xFFFF_FFFF
        ∧ s.Reports t [message 0x78 0x40 0])
  ∧ (∀ (s : State) (rq : Requester), s.admits rq Ix.CNV_CAL_CMD 0 = true → s.heard.calStatus 1 = 0 →
    Does (.calZero rq) s fun t =>
      t.dev.server.answer = ⟨0, 0, []⟩ ∧ t.dev.rd Ix.CNV_CAL_STATUS = 1 ∧ t.dev.cnv.calPhase = 1 ∧ t.dev.cnv.calCount = 0 ∧ t.dev.cnv.calSum = 0)
  ∧ (∀ (s : State) (rq : Requester), s.admits rq Ix.CNV_CAL_CMD 0 = true → s.heard.calStatus 2 = 0 →
    Does (.calFull rq) s fun t =>
      t.dev.server.answer = ⟨0, 0, []⟩ ∧ t.dev.rd Ix.CNV_CAL_STATUS = 1 ∧ t.dev.cnv.calPhase = 2 ∧ t.dev.cnv.calCount = 0)
  ∧ (∀ s : State, s.dev.isRunning = true → s.dev.cnv.calPhase = 1 → 2 ^ s.dev.rd Ix.CNV_CAL_AVG ≤ s.dev.cnv.calCount → s.dev.cnv.calBad = false →
    Does .calMeasureDone s fun t =>
      t.dev.rd Ix.CNV_CAL_STATUS = 2 ∧ t.dev.cnv.calPhase = 0
        ∧ t.dev.rd Ix.CNV_CAL_RESULT 1 = pat 32 (divRne (s.dev.cnv.calSum * 16) ((2 ^ s.dev.rd Ix.CNV_CAL_AVG : Nat) : Int)))
  ∧ (∀ s : State, s.dev.isRunning = true → s.dev.cnv.calPhase ≠ 0 → 2 ^ s.dev.rd Ix.CNV_CAL_AVG ≤ s.dev.cnv.calCount → s.dev.cnv.calBad = true →
    Does .calMeasureDone s fun t => t.dev.rd Ix.CNV_CAL_STATUS = 8 ∧ t.dev.cnv.calPhase = 0)
  ∧ (∀ (s : State) (rq : Requester), s.admits rq Ix.CNV_CAL_CMD 0 = true → s.heard.calStatus 3 = 0 → s.heard.calRefusal = 0 →
    (s.dev.tab Ix.STO_CAL_RECORD).length = 256 → s.dev.rd Ix.CNV_CAL_CHAN < 56 →
    Does (.calApply rq) s fun t =>
      t.dev.server.answer = ⟨0, 0, []⟩ ∧ t.dev.rd Ix.CNV_CAL_STATUS = 4
        ∧ bytesAt (t.dev.tab Ix.STO_CAL_RECORD) (16 + 4 * s.dev.rd Ix.CNV_CAL_CHAN) 2 = s.dev.rd Ix.CNV_CAL_RESULT 3 % 65536
        ∧ bytesAt (t.dev.tab Ix.STO_CAL_RECORD) (18 + 4 * s.dev.rd Ix.CNV_CAL_CHAN) 2 = s.dev.rd Ix.CNV_CAL_RESULT 4 % 65536
        ∧ bytesAt (t.dev.tab Ix.STO_CAL_RECORD) 2 1 = 1)
  ∧ (∀ (s : State) (rq : Requester), s.admits rq Ix.CNV_CAL_CMD 0 = true → s.heard.calStatus 3 = 0 → s.heard.calRefusal ≠ 0 →
    Does (.calApply rq) s fun t =>
      t.dev.server.answer = ⟨0, 0, []⟩ ∧ t.dev.rd Ix.CNV_CAL_STATUS = s.heard.calRefusal ∧ t.dev.tabs = s.dev.tabs)

/-- The control engine's banks and slots (R199 to R204). While the inactive bank is written in the background, its completion leaves the accepted set in it. An admitted write of the active bank's number is answered OK and changes nothing; of the other bank's, with that bank in order, it swaps at once on a disabled axis, and on an enabled one the swap is pending. A completed computation of slot 2 to 5 that is not late is posted and ends the run of misses; a late one is counted as a miss. The readings and choices it rests on: log entries 2, 45, 46. -/
def Obligations.ControlBanksAndSlots : Prop :=
  (∀ (s : State) (n : Fin 8), s.dev.isRunning = true → (s.dev.ce n).writing = true →
    Does (.bankWriteDone n) s fun t =>
      (t.dev.ce n).writing = false
        ∧ (if s.dev.bankNo n = 1 then (t.dev.ce n).bankA else (t.dev.ce n).bankB) = s.dev.ceSnapshot n
        ∧ (if s.dev.bankNo n = 1 then (t.dev.ce n).bankB = (s.dev.ce n).bankB else (t.dev.ce n).bankA = (s.dev.ce n).bankA))
  ∧ (∀ (s : State) (rq : Requester) (n : Fin 8), s.admits rq (axIx Ix.AX_CE_BANK_SEL n) 0 = true → s.heard.swapPending n = false →
    s.heard.bankNo n ≤ 1 →
    Does (.bankSelWrite rq n (s.heard.bankNo n)) s fun t =>
      t.dev.server.answer = ⟨0, 0, []⟩ ∧ s.dev.SameObjects t.dev [keyOf Ix.DEV_REQ_COUNT 0])
  ∧ (∀ (s : State) (rq : Requester) (n : Fin 8) (bank : Nat), s.admits rq (axIx Ix.AX_CE_BANK_SEL n) 0 = true → s.heard.swapPending n = false →
    bank ≤ 1 → bank ≠ s.heard.bankNo n → firstFailing (s.heard.bankConds n) = none → s.heard.countsEnabled n = true →
    Does (.bankSelWrite rq n bank) s fun t => t.dev.server.answer = ⟨0, 0, []⟩ ∧ t.dev.swapPending n = true ∧ t.dev.bankNo n = s.dev.bankNo n)
  ∧ (∀ (s : State) (rq : Requester) (n : Fin 8) (bank : Nat), s.admits rq (axIx Ix.AX_CE_BANK_SEL n) 0 = true → s.heard.swapPending n = false →
    bank ≤ 1 → bank ≠ s.heard.bankNo n → firstFailing (s.heard.bankConds n) = none → s.heard.countsEnabled n = false →
    Does (.bankSelWrite rq n bank) s fun t =>
      t.dev.server.answer = ⟨0, 0, []⟩ ∧ t.dev.swapPending n = false ∧ t.dev.bankNo n = bank ∧ t.dev.rd (axIx Ix.AX_CE_BANK_SEL n) = bank)
  ∧ (∀ (s : State) (rq : Requester) (n : Fin 8) (bank : Nat), s.admits rq (axIx Ix.AX_CE_BANK_SEL n) 0 = true → s.heard.swapPending n = true →
    bank ≤ 1 → Does (.bankSelWrite rq n bank) s fun t => t.dev.server.answer = ⟨0x0A, 0, []⟩ ∧ t.dev.bankNo n = s.dev.bankNo n)
  ∧ (∀ (s : State) (n : Fin 8) (x : Fin 6) (y : Sample), s.dev.isRunning = true → (s.dev.slot n x).job = some y → (s.dev.slot n x).late = none →
    s.dev.pairBusy n = false → (∀ k, k < 6 → k ≠ x.val → (s.dev.slot n k).job = none) →
    (s.dev.slotState n x = 3 ∨ s.dev.slotState n x = 4) → (∀ k, k < 6 → (s.dev.slot n k).due = false) → (s.dev.ce n).slots.length = 6 →
    (∀ k, k < 2 → (s.dev.bank n).refSlot n k ≠ some x.val) →
    Does (.slotComputationDone n x) s fun t =>
      t.dev.rdAS 16 Ix.AX_CE_OUT n (x + 1) = sgn 16 (pat 16 y.out) ∧ (t.dev.slot n x).job = none ∧ (t.dev.slot n x).missRun = 0
        ∧ (t.dev.slot n x).posted = some s.now)
  ∧ (∀ (s : State) (n : Fin 8) (x : Fin 6) (y : Sample) (late : Nat), s.dev.isRunning = true → (s.dev.slot n x).job = some y →
    s.dev.pairBusy n = false → (∀ k, k < 6 → k ≠ x.val → (s.dev.slot n k).job = none) → (s.dev.slot n x).late = some late → (s.dev.slotState n x ≠ 3 ∧ s.dev.slotState n x ≠ 4) → (∀ k, k < 6 → (s.dev.slot n k).due = false) →
    (s.dev.ce n).slots.length = 6 →
    Does (.slotComputationDone n x) s fun t =>
      (t.dev.slot n x).job = none ∧ t.dev.bitOf (axIx Ix.AX_CE_SLOT_STATUS n) 2 (x + 1) = true
        ∧ t.dev.rd (axIx Ix.AX_CE_MISS_COUNT n) (x + 1) = min (s.dev.rd (axIx Ix.AX_CE_MISS_COUNT n) (x + 1) + 1) 0xFFFF_FFFF)

/-- Position sensors (R245 to R247). On a Hall axis an edge that moves the code to a neighbouring sector sets the angle to the boundary crossed, with the time at which the filter time began; a code that maps to no sector is posted with the code, and the angle keeps its last value. Without an edge for the Hall time the angle counts as stale. On an encoder axis each step of the Gray code counts up or down by one, and a step of two is posted; `POS_LEVELS` shows the levels of A, B and the index pin. The readings and choices it rests on: log entries 3, 54. -/
def Obligations.PositionSensors : Prop :=
  (∀ (s : State) (n : Fin 8) (u v w : Bool) (old : Nat), s.dev.isRunning = true → s.dev.rd (axIx Ix.AX_FE_ANGLE_SRC n) = 1 →
    (s.dev.fe n).sector = some old → old < 6 → s.dev.hallSector n (bitIf u 0 + bitIf v 1 + bitIf w 2) = some ((old + 1) % 6) →
    Does (.hallEdge n u v w) s fun t =>
      (t.dev.fe n).code = bitIf u 0 + bitIf v 1 + bitIf w 2 ∧ (t.dev.fe n).sector = some ((old + 1) % 6)
        ∧ (t.dev.fe n).angle = s.dev.sectorStart n ((old + 1) % 6) ∧ (t.dev.fe n).edge = s.now - s.dev.posFilter n ∧ (t.dev.fe n).kept = none ∧ (t.dev.fe n).stale = false
        ∧ t.dev.rd (axIx Ix.AX_FE_COMM_COUNT n) 1 = (s.dev.rd (axIx Ix.AX_FE_COMM_COUNT n) 1 + 1) % 2 ^ 32 ∧ s.Reports t [])
  ∧ (∀ (s : State) (n : Fin 8) (u v w : Bool), s.dev.isRunning = true → s.dev.rd (axIx Ix.AX_FE_ANGLE_SRC n) = 1 →
    s.dev.hallSector n (bitIf u 0 + bitIf v 1 + bitIf w 2) = none →
    Does (.hallEdge n u v w) s fun t =>
      (t.dev.fe n).sector = (s.dev.fe n).sector ∧ (t.dev.fe n).angle = (s.dev.fe n).angle
        ∧ (t.dev.fe n).kept = some (s.dev.hallAngle n (s.now - s.dev.posFilter n))
        ∧ s.Reports t [message (srcByte 9 n) 0x40 (bitIf u 0 + bitIf v 1 + bitIf w 2)]
        ∧ s.dev.SameObjects t.dev [keyOf Ix.POS_LEVELS 0])
  ∧ (∀ (s : State) (n : Fin 8) (k : Nat), s.dev.isRunning = true → s.dev.rd (axIx Ix.AX_FE_ANGLE_SRC n) = 1 → (s.dev.fe n).sector = some k →
    Does (.hallTimeout n) s fun t => (t.dev.fe n).stale = true ∧ (t.dev.fe n).angle = (s.dev.fe n).angle ∧ s.dev.SameObjects t.dev [])
  ∧ (∀ (s : State) (n : Fin 8) (index : Bool), s.dev.isRunning = true → s.dev.rd (axIx Ix.AX_FE_ANGLE_SRC n) = 2 → (s.dev.fe n).levels = 0 →
    Does (.encoderEdge n ⟨true, false⟩ index) s fun t =>
      (t.dev.fe n).count = ((s.dev.fe n).count + 1) % 2 ^ 32 ∧ (t.dev.fe n).levels = 1 ∧ s.Reports t []
        ∧ s.dev.SameObjects t.dev [keyOf Ix.POS_LEVELS 0])
  ∧ (∀ (s : State) (n : Fin 8) (index : Bool), s.dev.isRunning = true → s.dev.rd (axIx Ix.AX_FE_ANGLE_SRC n) = 2 → (s.dev.fe n).levels = 0 →
    Does (.encoderEdge n ⟨false, true⟩ index) s fun t =>
      (t.dev.fe n).count = ((s.dev.fe n).count + 2 ^ 32 - 1) % 2 ^ 32 ∧ (t.dev.fe n).levels = 2 ∧ s.Reports t [])
  ∧ (∀ (s : State) (n : Fin 8) (index : Bool), s.dev.isRunning = true → s.dev.rd (axIx Ix.AX_FE_ANGLE_SRC n) = 2 → (s.dev.fe n).levels = 0 →
    Does (.encoderEdge n ⟨true, true⟩ index) s fun t =>
      (t.dev.fe n).count = (s.dev.fe n).count ∧ s.Reports t [message (srcByte 9 n) 0x41 0])
  ∧ (∀ (s : State) (n : Fin 8) (a b index : Bool) (p q r : Nat), s.dev.isRunning = true → s.dev.rd (axIx Ix.AX_FE_ANGLE_SRC n) = 2 →
    s.dev.posPins n = [p, q, r] → p < 16 → q < 16 → r < 16 → p ≠ q → p ≠ r → q ≠ r →
    (∀ x ∈ [p, q, r], s.dev.rd Ix.POS_OWNER (x + 1) ≠ 0xFF) →
    Does (.encoderEdge n ⟨a, b⟩ index) s fun t =>
      t.dev.bitOf Ix.POS_LEVELS p = a ∧ t.dev.bitOf Ix.POS_LEVELS q = b ∧ t.dev.bitOf Ix.POS_LEVELS r = index)

/-- The start procedure (R256 to R265, R271, R276, Table 13.1). A request, and the end of a time of the procedure, take effect at the start of the next pending computation, where pending computations run on the axis, and at once where none does; until then they wait and change nothing. What takes effect: START in STOPPED begins a catch; STOP in a start or in RUN leaves STOPPED. A catch whose rotor is slow goes to DWELL, one without lock fails its attempt, one of a rotor that turns fast in the start's direction goes to RUN. DWELL leads to ALIGN or PULSE, ALIGN to RAMP where no injection is configured and to RUN where it is; a failed attempt is posted with its cause and its number is shown, and leads to the next attempt or, after the last, to FAILED; a pause ends with a new catch. A locked rotor is posted. The readings and choices it rests on: log entries 2, 56, 57. -/
def Obligations.StartProcedure : Prop :=
  (∀ (s : State) (n : Fin 8) (c : Instr) (e : StEvent), s.dev.isRunning = true →
    (c = .catchWindowEnd n ∧ e = .windowEnd ∧ s.dev.catching n = true) ∨ (c = .dwellEnd n ∧ e = .dwellEnd ∧ s.dev.stState n = 4)
      ∨ (c = .alignEnd n ∧ e = .alignEnd ∧ s.dev.stState n = 5) ∨ (c = .pulseSequenceDone n ∧ e = .pulsesDone ∧ s.dev.stState n = 6)
      ∨ (c = .handoverWaitExpire n ∧ e = .waitEnd ∧ s.dev.stState n = 7)
      ∨ (c = .attemptPauseEnd n ∧ e = .pauseEnd ∧ s.dev.stState n = 1 ∧ (s.dev.st n).pausing = true) →
    Does c s fun t =>
      if s.dev.pendingRuns n = true then
        (t.dev.st n).events = (s.dev.st n).events ++ [e] ∧ s.dev.SameObjects t.dev [] ∧ s.Reports t []
      else t.dev = (s.dev.stEvent s.now n e).settle)
  ∧ (∀ (s : State) (rq : Requester) (n : Fin 8), s.admits rq (axIx Ix.AX_ST_CMD n) 0 = true → s.heard.stState n = 9 →
    (s.dev.st n).events = [] →
    Does (.stStart rq n) s fun t =>
      t.dev.server.answer = ⟨0, 0, []⟩ ∧ (t.dev.st n).dir = s.heard.startDir n
        ∧ (if s.heard.pendingRuns n = true then t.dev.stState n = 9 ∧ (t.dev.st n).events = [.start]
          else t.dev.stState n = 1 ∧ (t.dev.st n).attempt = 0 ∧ (t.dev.st n).pausing = false))
  ∧ (∀ (s : State) (rq : Requester) (n : Fin 8), s.admits rq (axIx Ix.AX_ST_CMD n) 0 = true → 1 ≤ s.heard.stState n → s.heard.stState n ≤ 8 →
    Does (.stStop rq n) s fun t =>
      t.dev.server.answer = ⟨0, 0, []⟩
        ∧ (if s.heard.pendingRuns n = true then t.dev.stState n = s.heard.stState n ∧ (t.dev.st n).events = (s.dev.st n).events ++ [.stop]
          else t.dev.stState n = 9 ∧ (t.dev.st n).iEff = none))
  ∧ (∀ (s : State) (n : Fin 8), (s.dev.st n).events = [.stop] → 1 ≤ s.dev.stState n → s.dev.stState n ≤ 8 →
    (s.dev.speedLoop n = false) →
    ((s.dev.procedurePending s.now n).st n).events = [] ∧ (s.dev.procedurePending s.now n).stState n = 9)
  ∧ (∀ (s t : State) (n : Fin 8), s.dev.stState n = 1 → (s.dev.st n).pausing = false → s.dev.sensored n = false → (s.dev.st n).slow = true →
    t = s.into (s.dev.stEvent s.now n .windowEnd) →
    t.dev.stState n = 4 ∧ t.dev.rd (axIx Ix.AX_ST_RESULT n) 3 = 2 ∧ s.Reports t [])
  ∧ (∀ (s t : State) (n : Fin 8), s.dev.stState n = 1 → (s.dev.st n).pausing = false → s.dev.sensored n = false →
    (s.dev.st n).slow = false → (s.dev.st n).run < s.dev.scfg n Ix.AX_ST_CATCH 3 → (s.dev.st n).attempt < s.dev.lastAttempt n →
    t = s.into (s.dev.stEvent s.now n .windowEnd) →
    t.dev.stState n = 1 ∧ (t.dev.st n).attempt = (s.dev.st n).attempt + 1 ∧ t.dev.rd (axIx Ix.AX_ST_RESULT n) 3 = 5
      ∧ t.dev.rd (axIx Ix.AX_ST_RESULT n) 5 = ((s.dev.st n).attempt + 1) % 256 ∧ s.Reports t [message (srcByte 9 n) 0x48 4])
  ∧ (∀ (s t : State) (n : Fin 8), s.dev.stState n = 1 → (s.dev.st n).pausing = false → s.dev.sensored n = false →
    (s.dev.st n).slow = false → s.dev.scfg n Ix.AX_ST_CATCH 3 ≤ (s.dev.st n).run →
    speedAtLeast (s.dev.st n).catcher.omega (sgn 16 (s.dev.scfg n Ix.AX_ST_CATCH 1)) = true →
    sgnOf (s.dev.st n).catcher.omega = (s.dev.st n).dir → t = s.into (s.dev.stEvent s.now n .windowEnd) →
    t.dev.stState n = 8 ∧ (t.dev.st n).iEff = some 0 ∧ t.dev.rd (axIx Ix.AX_ST_RESULT n) 3 = 1
      ∧ t.dev.rd (axIx Ix.AX_ST_RESULT n) 5 = (s.dev.st n).attempt % 256 ∧ s.Reports t [])
  ∧ (∀ (s t : State) (n : Fin 8), s.dev.stState n = 4 → t = s.into (s.dev.stEvent s.now n .dwellEnd) →
    t.dev.stState n = (if s.dev.noReverse n || s.dev.scfg n Ix.AX_ST_RETRY 1 < (s.dev.st n).attempt then 6 else 5) ∧ s.Reports t [])
  ∧ (∀ (s t : State) (n : Fin 8), s.dev.stState n = 5 → s.dev.fcfg n Ix.AX_FE_INJ_CFG 1 ≠ 1 → t = s.into (s.dev.stEvent s.now n .alignEnd) →
    t.dev.stState n = 7 ∧ (t.dev.st n).thetaF = s.dev.scfg n Ix.AX_ST_ALIGN 1 * 65536 ∧ (t.dev.st n).omegaF = 0 ∧ s.Reports t [])
  ∧ (∀ (s t : State) (n : Fin 8), s.dev.stState n = 5 → s.dev.fcfg n Ix.AX_FE_INJ_CFG 1 = 1 → t = s.into (s.dev.stEvent s.now n .alignEnd) →
    t.dev.stState n = 8 ∧ t.dev.feState n = 2 ∧ (t.dev.st n).injected = true ∧ (t.dev.st n).iEff = some 0
      ∧ t.dev.rd (axIx Ix.AX_ST_RESULT n) 5 = ((s.dev.st n).attempt + 1) % 256 ∧ s.Reports t [])
  ∧ (∀ (s t : State) (n : Fin 8), s.dev.stState n = 6 → (s.dev.st n).readings = List.replicate 12 0 →
    0 < sgn 16 (s.dev.scfg n Ix.AX_ST_PULSE 4) → (s.dev.st n).attempt < s.dev.lastAttempt n →
    t = s.into (s.dev.stEvent s.now n .pulsesDone) →
    t.dev.stState n = 1 ∧ (t.dev.st n).attempt = (s.dev.st n).attempt + 1 ∧ s.Reports t [message (srcByte 9 n) 0x48 2])
  ∧ (∀ (s t : State) (n : Fin 8), s.dev.stState n = 7 → (s.dev.st n).attempt < s.dev.lastAttempt n →
    t = s.into (s.dev.stEvent s.now n .waitEnd) →
    t.dev.stState n = 1 ∧ (t.dev.st n).attempt = (s.dev.st n).attempt + 1 ∧ s.Reports t [message (srcByte 9 n) 0x48 1])
  ∧ (∀ (s t : State) (n : Fin 8), s.dev.stState n = 7 → s.dev.lastAttempt n ≤ (s.dev.st n).attempt →
    t = s.into (s.dev.stEvent s.now n .waitEnd) →
    t.dev.stState n = 12
      ∧ s.Reports t [message (srcByte 9 n) 0x48 1, message (srcByte 9 n) 0x44 ((s.dev.st n).attempt + 1)])
  ∧ (∀ (s t : State) (n : Fin 8), s.dev.stState n = 1 → (s.dev.st n).pausing = true → t = s.into (s.dev.stEvent s.now n .pauseEnd) →
    t.dev.stState n = 1 ∧ (t.dev.st n).pausing = false ∧ (t.dev.st n).run = 0 ∧ s.Reports t [])
  ∧ (∀ (s : State) (n : Fin 8), s.dev.isRunning = true → s.dev.stState n = 8 → 2 ≤ s.dev.feState n →
    sgn 16 (s.dev.scfg n Ix.AX_ST_LOCK 2) ≤ ((s.dev.ce n).refs.getD 1 0).natAbs →
    Does (.lockedRotor n) s fun t =>
      t.dev.stState n = 8 ∧ t.dev.bitOf (axIx Ix.AX_ST_STATUS n) 7 = true
        ∧ t.dev.rd (axIx Ix.AX_ST_COUNT n) 7 = min (s.dev.rd (axIx Ix.AX_ST_COUNT n) 7 + 1) 0xFFFF_FFFF
        ∧ s.Reports t [message (srcByte 9 n) 0x46 (s.dev.rd (axIx Ix.AX_FE_COMM_COUNT n) 4)])

/-- Commands of a generator and of the interpolator (R284, R285, R288, R293, R294). A PUSH that nothing stands against puts the held move at the tail of the queue; FLUSH and QUICK_STOP empty the queue and stop a moving axis at the move's DEC and at DSTOP, and a member of a group move leaves the line while the others go on (log 60); HOME of a stepper at standstill begins its homing, which waits for the checkpoint of its position. INT_CMD queues the held group move, and its FLUSH and QUICK_STOP end the group move and bring every member off its line. The readings and choices it rests on: log entries 58, 59, 60. -/
def Obligations.MoveCommands : Prop :=
  (∀ (s : State) (rq : Requester) (n : Fin 8), s.admits rq (axIx Ix.AX_PRF_CMD n) 0 = true → s.heard.pushStatus n = 0 →
    Does (.push rq n) s fun t =>
      t.dev.server.answer = ⟨0, 0, []⟩ ∧ (t.dev.prf n).queue = (s.dev.prf n).queue ++ [s.dev.heldMove n]
        ∧ t.dev.rd (axIx Ix.AX_PRF_QUEUE n) = ((s.dev.prf n).queue.length + 1) % 256)
  ∧ (∀ (s : State) (rq : Requester) (n : Fin 8), s.admits rq (axIx Ix.AX_PRF_CMD n) 0 = true → s.heard.pushStatus n = 0x0A →
    Does (.push rq n) s fun t => t.dev.server.answer = ⟨0x0A, 0, []⟩ ∧ t.dev.prf n = s.dev.prf n)
  ∧ (∀ (s : State) (rq : Requester) (n : Fin 8) (m : Move), s.admits rq (axIx Ix.AX_PRF_CMD n) 0 = true → s.heard.prfState n = 2 →
    (s.dev.prf n).move = some m → (s.dev.prf n).v ≠ 0 →
    Does (.flush rq n) s fun t =>
      t.dev.server.answer = ⟨0, 0, []⟩ ∧ (t.dev.prf n).queue = [] ∧ t.dev.prfState n = 4 ∧ (t.dev.prf n).stopDec = m.dec
        ∧ (t.dev.prf n).v = (s.dev.prf n).v)
  ∧ (∀ (s : State) (rq : Requester) (n : Fin 8), s.admits rq (axIx Ix.AX_PRF_CMD n) 0 = true →
    (s.heard.prfState n = 2 ∨ s.heard.prfState n = 4 ∨ s.heard.prfState n = 5) → (s.dev.prf n).v ≠ 0 →
    Does (.quickStop rq n) s fun t =>
      t.dev.server.answer = ⟨0, 0, []⟩ ∧ (t.dev.prf n).queue = [] ∧ t.dev.prfState n = 4 ∧ (t.dev.prf n).stopDec = s.dev.dStop n)
  ∧ (∀ (s : State) (rq : Requester) (n : Fin 8) (g : GroupMove) (c : Instr), c = .flush rq n ∨ c = .quickStop rq n →
    s.admits rq (axIx Ix.AX_PRF_CMD n) 0 = true → s.heard.prfState n = 6 → s.dev.interp.move = some g →
    Does c s fun t =>
      t.dev.server.answer = ⟨0, 0, []⟩ ∧ (t.dev.prf n).queue = [] ∧ (t.dev.prfState n = 1 ∨ t.dev.prfState n = 4)
        ∧ t.dev.interp = s.dev.interp ∧ (∀ k : Fin 8, k ≠ n → t.dev.prf k = s.dev.prf k ∧ t.dev.prfState k = s.heard.prfState k))
  ∧ (∀ (s : State) (rq : Requester) (n : Fin 8), s.admits rq (axIx Ix.AX_PRF_CMD n) 0 = true → s.heard.homeStatus n = 0 → s.dev.homeMethod n ≠ 0 →
    Does (.homeCmd rq n) s fun t =>
      t.dev.server.answer = ⟨0, 0, []⟩ ∧ t.dev.prfState n = 5 ∧ (t.dev.prf n).waits = true ∧ (t.dev.prf n).homing.isSome = true
        ∧ t.dev.rd Ix.STO_CP_SERIAL = (s.dev.rd Ix.STO_CP_SERIAL + 1) % 2 ^ 32)
  ∧ (∀ (s : State) (rq : Requester), s.admits rq Ix.INT_CMD 0 = true → s.heard.groupStatus s.heard.heldGroup = 0 →
    Does (.intPush rq) s fun t =>
      t.dev.server.answer = ⟨0, 0, []⟩ ∧ t.dev.interp.queue = s.dev.interp.queue ++ [s.dev.heldGroup])
  ∧ (∀ (s : State) (rq : Requester), s.admits rq Ix.INT_CMD 0 = true →
    Does (.intFlush rq) s fun t =>
      t.dev.server.answer = ⟨0, 0, []⟩ ∧ t.dev.interp.queue = [] ∧ t.dev.interp.move = none ∧ t.dev.rd Ix.INT_MASTER = 0xFF
        ∧ (∀ n : Fin 8, s.dev.interp.move ≠ none → s.dev.member n = true → s.dev.prfState n = 6 →
            t.dev.prfState n = 1 ∨ t.dev.prfState n = 4))
  ∧ (∀ (s : State) (rq : Requester), s.admits rq Ix.INT_CMD 0 = true →
    Does (.intQuickStop rq) s fun t =>
      t.dev.server.answer = ⟨0, 0, []⟩ ∧ t.dev.interp.queue = [] ∧ t.dev.interp.move = none ∧ t.dev.rd Ix.INT_MASTER = 0xFF
        ∧ (∀ n : Fin 8, s.dev.interp.move ≠ none → s.dev.member n = true → s.dev.prfState n = 6 →
            t.dev.prfState n = 1 ∨ t.dev.prfState n = 4))

/-- Steps and profiles (R278, R282 to R285, R288, R290). At a step tick an axis that moves adds its velocity to its accumulator, and a carry makes one microstep in its direction; at a profile tick a stopping axis slows by its deceleration and stands still once VSTART is reached, and an axis at standstill starts the absolute move at the head of its queue from VSTART, after a checkpoint where it has not moved since it came to rest, and discards one that lies 2^31 away. A dwell's end completes its entry; the end of HOLD_DELAY begins the current reduction; a switch that becomes active ends the search of a homing, and the index pin sets the position; the checkpoint of a position that was left lets its move begin. The readings and choices it rests on: log entries 2, 58, 59. -/
def Obligations.StepsAndProfiles : Prop :=
  (∀ (s : State) (n : Fin 8), s.dev.isRunning = true → s.dev.interp.move = none → s.dev.prfState n ≠ 6 → (s.dev.prf n).waits = false →
    (s.dev.prf n).v ≠ 0 → (s.dev.prfState n = 2 → (s.dev.prf n).target ≠ some (s.dev.rd (axIx Ix.AX_PRF_POS n))) → (∀ l ∈ s.dev.axisLegs n, (s.dev.leg l).latched = false) →
    Does .stepTick s fun t =>
      (t.dev.prf n).carry = ((s.dev.prf n).carry + (s.dev.prf n).v / 65536) % 2 ^ 32
        ∧ (t.dev.prf n).v = (s.dev.prf n).v
        ∧ t.dev.rd (axIx Ix.AX_PRF_POS n)
            = (if 2 ^ 32 ≤ (s.dev.prf n).carry + (s.dev.prf n).v / 65536 then
                pat 32 ((s.dev.rd (axIx Ix.AX_PRF_POS n) : Int) + (if s.dev.bitOf (axIx Ix.AX_PRF_STATUS n) 2 then -1 else 1))
              else s.dev.rd (axIx Ix.AX_PRF_POS n)))
  ∧ (∀ (s : State) (n : Fin 8), s.dev.isRunning = true → s.dev.interp.move = none → s.dev.interp.queue = [] → s.dev.prfState n = 4 →
    (s.dev.prf n).waits = false →
    Does .profileTick s fun t =>
      (t.dev.prf n).v = slowStep (s.dev.prf n).v (s.dev.prf n).stopDec (s.dev.vStart n)
        ∧ t.dev.prfState n = (if slowStep (s.dev.prf n).v (s.dev.prf n).stopDec (s.dev.vStart n) = 0 then 1 else 4))
  ∧ (∀ (s : State) (n : Fin 8) (m : Move) (rest : List Move), s.dev.isRunning = true → s.dev.interp.move = none → s.dev.interp.queue = [] →
    s.dev.prfState n = 1 → (s.dev.prf n).waits = false → (s.dev.prf n).v = 0 → (s.dev.prf n).move = none → (s.dev.prf n).queue = m :: rest →
    m.kind = 0 → s.dev.bitOf (axIx Ix.AX_PRF_STATUS n) 6 = false → posDiff m.target (s.dev.rd (axIx Ix.AX_PRF_POS n)) ≠ -2147483648 →
    Does .profileTick s fun t =>
      t.dev.prfState n = 2 ∧ (t.dev.prf n).move = some m ∧ (t.dev.prf n).target = some m.target ∧ (t.dev.prf n).queue = rest
        ∧ (t.dev.prf n).v = s.dev.vStart n * 65536 ∧ (t.dev.prf n).waits = (s.dev.stepper n && (s.dev.prf n).rested))
  ∧ (∀ (s : State) (n : Fin 8) (m : Move) (rest : List Move), s.dev.isRunning = true → s.dev.interp.move = none → s.dev.interp.queue = [] →
    s.dev.prfState n = 1 → (s.dev.prf n).waits = false → (s.dev.prf n).v = 0 → (s.dev.prf n).queue = m :: rest →
    m.kind = 0 → s.dev.bitOf (axIx Ix.AX_PRF_STATUS n) 6 = false → posDiff m.target (s.dev.rd (axIx Ix.AX_PRF_POS n)) = -2147483648 →
    Does .profileTick s fun t =>
      t.dev.prfState n = 1 ∧ (t.dev.prf n).move = none ∧ (t.dev.prf n).queue = [] ∧ t.dev.bitOf (axIx Ix.AX_PRF_STATUS n) 11 = true)
  ∧ (∀ (s : State) (n : Fin 8), s.dev.isRunning = true → s.dev.prfState n = 3 → (s.dev.prf n).queue = [] →
    Does (.moveDwellEnd n) s fun t =>
      t.dev.prfState n = 1 ∧ (t.dev.prf n).move = none
        ∧ t.dev.rd (axIx Ix.AX_PRF_COUNT n) 1 = min (s.dev.rd (axIx Ix.AX_PRF_COUNT n) 1 + 1) 0xFFFF_FFFF)
  ∧ (∀ (s : State) (n : Fin 8), s.dev.isRunning = true → s.dev.stepper n = true → s.dev.prfState n = 1 → (s.dev.prf n).hold = none →
    Does (.holdDelayEnd n) s fun t => (t.dev.prf n).hold = some 0 ∧ s.dev.SameObjects t.dev [])
  ∧ (∀ (s : State) (n : Fin 8) (steps : Nat), s.dev.isRunning = true → s.dev.pcfg n Ix.AX_PRF_HOME 3 < 16 → s.dev.prfState n = 5 →
    (s.dev.prf n).homing = some .search → s.dev.homeMethod n = 1 →
    Does (.homePinEdge n (s.dev.pcfg n Ix.AX_PRF_HOME 4 == 1) steps) s fun t =>
      (t.dev.prf n).homing = some .stopping ∧ s.dev.SameObjects t.dev [keyOf Ix.POS_LEVELS 0])
  ∧ (∀ (s : State) (n : Fin 8) (steps : Nat), s.dev.isRunning = true → s.dev.pcfg n Ix.AX_PRF_HOME 3 < 16 → s.dev.prfState n = 5 →
    (s.dev.prf n).homing = some .search → s.dev.homeMethod n = 3 →
    Does (.homePinEdge n (s.dev.pcfg n Ix.AX_PRF_HOME 4 == 1) steps) s fun t =>
      (t.dev.prf n).homing = some .ending
        ∧ t.dev.rd (axIx Ix.AX_PRF_POS n) = pat 32 ((s.dev.pcfg n Ix.AX_PRF_HOME 7 : Int) + s.dev.genSign n * steps))
  ∧ (∀ (s : State) (n : Fin 8), s.dev.isRunning = true → (s.dev.prf n).waits = true → s.dev.seat.push = none →
    Does (.standstillCheckpointDone n) s fun t =>
      (t.dev.prf n).waits = false ∧ (s.dev.member n = true → t.dev.interp.waits = false) ∧ s.dev.SameObjects t.dev [])

/-- The services (R301 to R307, R313). RUN in IDLE starts a service and is answered BUSY in STOPPING; STOP of a service that owns its axis leaves STOPPING, and STOP in FAULT leaves IDLE. At a service tick a service whose axis is no longer enabled goes to FAULT, a pump whose motor has started is RUNNING, a pump in MODE 0 writes its target to slot 2, a fan its demand, or 0 once that falls below W_OFF, and a flap at rest in STOPPING is disabled. Dry running begins the air-lock recovery, ends in FAULT, or stops the pump for a restart; the air-lock's phases alternate up to its last; a pump that waited restarts, a fan that waited runs again; a lost temperature source is posted and holds a pump's slot 5 at its limit until the source is valid. The readings and choices it rests on: log entries 2, 61. -/
def Obligations.ServicesRunTheirAxes : Prop :=
  (∀ (s : State) (rq : Requester) (n : Fin 8), s.admits rq Ix.SVC_CMD (n + 1) = true → s.heard.svcState n = 1 → s.heard.runStatus n = 0 →
    Does (.runCmd rq n) s fun t => t.dev.server.answer = ⟨0, 0, []⟩ ∧ t.dev.svcState n = 2)
  ∧ (∀ (s : State) (rq : Requester) (n : Fin 8), s.admits rq Ix.SVC_CMD (n + 1) = true → s.heard.svcState n = 5 →
    Does (.runCmd rq n) s fun t => t.dev.server.answer = ⟨0x0A, 0, []⟩ ∧ t.dev.svcState n = 5)
  ∧ (∀ (s : State) (rq : Requester) (n : Fin 8), s.admits rq Ix.SVC_CMD (n + 1) = true → 2 ≤ s.heard.svcState n → s.heard.svcState n ≤ 4 →
    Does (.stopCmd rq n) s fun t =>
      t.dev.server.answer = ⟨0, 0, []⟩ ∧ t.dev.svcState n = 5 ∧ (t.dev.svcOf n).recovery = .none)
  ∧ (∀ (s : State) (rq : Requester) (n : Fin 8), s.admits rq Ix.SVC_CMD (n + 1) = true → s.heard.svcState n = 6 →
    Does (.stopCmd rq n) s fun t => t.dev.server.answer = ⟨0, 0, []⟩ ∧ t.dev.svcState n = 1)
  ∧ (∀ (s : State) (n : Fin 8), s.dev.isRunning = true → s.dev.server.teamster = true → s.dev.OnlyService n → 1 ≤ s.dev.svcKind n → s.dev.svcKind n ≤ 3 →
    2 ≤ s.dev.svcState n → s.dev.svcState n ≤ 4 → s.dev.enabled n = false → (s.dev.svcOf n).recovery = .none → (s.dev.svcOf n).noticed = 0 → (s.dev.svcOf n).cause = 0 →
    Does .serviceTick s fun t =>
      t.dev.svcState n = 6 ∧ s.Reports t [message (svcSource (s.dev.svcKind n)) 0x49 n])
  ∧ (∀ (s : State) (n : Fin 8), s.dev.isRunning = true → s.dev.server.teamster = true → s.dev.OnlyService n → s.dev.svcKind n = 1 → s.dev.svcState n = 2 →
    s.dev.enabled n = true → s.dev.stState n = 8 →
    Does .serviceTick s fun t => t.dev.svcState n = 3 ∧ (t.dev.svcOf n).dry = 0 ∧ (t.dev.svcOf n).aired = false ∧ s.Reports t [])
  ∧ (∀ (s : State) (n : Fin 8), s.dev.isRunning = true → s.dev.server.teamster = true → s.dev.OnlyService n → s.dev.svcKind n = 1 → s.dev.svcState n = 3 →
    s.dev.enabled n = true → s.dev.rd (Ix.SVC_PUMP + n) 1 = 0 → s.dev.thermal n = false →
    Does .serviceTick s fun t =>
      t.dev.rdAS 16 Ix.AX_CE_REF n 3 = s.dev.rdS 16 (Ix.SVC_PUMP + n) 2 ∧ t.dev.svcState n = 3
        ∧ (t.dev.svcOf n).dry = (if s.dev.dryTick n then (s.dev.svcOf n).dry + 1 else 0) ∧ s.Reports t [])
  ∧ (∀ (s : State) (n : Fin 8), s.dev.isRunning = true → s.dev.server.teamster = true → s.dev.OnlyService n → s.dev.svcKind n = 2 → s.dev.svcState n = 3 →
    s.dev.enabled n = true → 2 ≤ s.dev.rd (Ix.SVC_FAN + n) 1 → (s.dev.svcOf n).noticed = 0 → (s.dev.svcOf n).demanded = true →
    s.dev.fanStopped n = false →
    Does .serviceTick s fun t =>
      t.dev.rdAS 16 Ix.AX_CE_REF n 3
          = (if s.dev.rdS 16 (Ix.SVC_FAN + n) 13 ≤ s.dev.rdS 16 (Ix.SVC_FAN + n) 2 then s.dev.rdS 16 (Ix.SVC_FAN + n) 2 else 0)
        ∧ t.dev.svcState n = 3)
  ∧ (∀ (s : State) (n : Fin 8), s.dev.isRunning = true → s.dev.server.teamster = true → s.dev.OnlyService n → s.dev.svcKind n = 3 → s.dev.svcState n = 5 →
    s.dev.enabled n = true → s.dev.prfState n = 1 → (s.dev.prf n).waits = false →
    Does .serviceTick s fun t => t.dev.svcState n = 1 ∧ t.dev.enabled n = false)
  ∧ (∀ (s : State) (n : Fin 8), s.dev.isRunning = true → s.dev.server.teamster = true → s.dev.svcKind n = 1 → s.dev.svcState n = 3 →
    s.dev.inTicks (s.dev.rd (Ix.SVC_PUMP + n) 7) ≤ (s.dev.svcOf n).dry → s.dev.rd (Ix.SVC_PUMP + n) 10 ≠ 0 →
    (s.dev.svcOf n).ticks ≤ s.dev.inTicks (s.dev.rd (Ix.SVC_PUMP + n) 10) → (s.dev.svcOf n).aired = false →
    Does (.dryDetected n) s fun t =>
      t.dev.svcState n = 4 ∧ (t.dev.svcOf n).recovery = .airLock 0 ∧ (t.dev.svcOf n).aired = true
        ∧ bit (t.dev.rd Ix.SVC_STATUS (n + 1)) 2 = true ∧ s.Reports t [message (svcSource 1) 0x41 n])
  ∧ (∀ (s : State) (n : Fin 8), s.dev.isRunning = true → s.dev.server.teamster = true → s.dev.svcKind n = 1 → s.dev.svcState n = 3 →
    s.dev.inTicks (s.dev.rd (Ix.SVC_PUMP + n) 7) ≤ (s.dev.svcOf n).dry → (s.dev.svcOf n).aired = true →
    s.dev.rd (Ix.SVC_PUMP + n) 9 ≤ (s.dev.svcOf n).retries →
    Does (.dryDetected n) s fun t => t.dev.svcState n = 6 ∧ s.Reports t [message (svcSource 1) 0x40 n])
  ∧ (∀ (s : State) (n : Fin 8), s.dev.isRunning = true → s.dev.server.teamster = true → s.dev.svcKind n = 1 → s.dev.svcState n = 3 →
    s.dev.inTicks (s.dev.rd (Ix.SVC_PUMP + n) 7) ≤ (s.dev.svcOf n).dry → (s.dev.svcOf n).aired = true →
    (s.dev.svcOf n).retries < s.dev.rd (Ix.SVC_PUMP + n) 9 →
    Does (.dryDetected n) s fun t => t.dev.svcState n = 4 ∧ (t.dev.svcOf n).recovery = .dryStop ∧ s.Reports t [])
  ∧ (∀ (s : State) (n : Fin 8) (k : Nat), s.dev.isRunning = true → s.dev.server.teamster = true → s.dev.svcState n = 4 → (s.dev.svcOf n).recovery = .airLock k →
    Does (.airlockPhaseEnd n) s fun t =>
      if 2 * s.dev.rd (Ix.SVC_PUMP + n) 11 ≤ k + 1 then t.dev.svcState n = 3 ∧ (t.dev.svcOf n).recovery = .none
      else t.dev.svcState n = 4 ∧ (t.dev.svcOf n).recovery = .airLock (k + 1))
  ∧ (∀ (s : State) (n : Fin 8), s.dev.isRunning = true → s.dev.server.teamster = true → s.dev.svcState n = 4 → (s.dev.svcOf n).recovery = .dryWait →
    Does (.dryWaitEnd n) s fun t =>
      t.dev.svcState n = 2 ∧ (t.dev.svcOf n).recovery = .none ∧ (t.dev.svcOf n).retries = (s.dev.svcOf n).retries + 1)
  ∧ (∀ (s : State) (n : Fin 8), s.dev.isRunning = true → s.dev.server.teamster = true → s.dev.svcState n = 4 → (s.dev.svcOf n).recovery = .blockWait →
    Does (.blockWaitEnd n) s fun t => t.dev.svcState n = 3 ∧ (t.dev.svcOf n).recovery = .none ∧ (t.dev.svcOf n).demanded = false)
  ∧ (∀ (s : State) (n : Fin 8) (src : Nat), s.dev.isRunning = true → s.dev.server.teamster = true → s.dev.svcTsrc n = some src → s.dev.svcOwner n = true →
    (s.dev.svcOf n).lost = false → s.dev.tempOk src = false → 5 ∉ (s.dev.svcOf n).held →
    Does (.tempSourceLost n) s fun t =>
      (t.dev.svcOf n).lost = true ∧ bit (t.dev.rd Ix.SVC_STATUS (n + 1)) 6 = true
        ∧ (s.dev.svcKind n = 1 → t.dev.rd (axIx Ix.AX_CE_MODE n) 6 = 1
            ∧ t.dev.rdAS 16 Ix.AX_CE_MANUAL n 6 = ((s.dev.bank n).coef n 5).outMax)
        ∧ s.Reports t [message (if s.dev.svcKind n = 1 then srcByte 0 12 else svcSource 2) 0x48 src])
  ∧ (∀ (s : State) (n : Fin 8) (src : Nat), s.dev.isRunning = true → s.dev.server.teamster = true → s.dev.svcTsrc n = some src → s.dev.svcOwner n = true →
    (s.dev.svcOf n).lost = true → s.dev.tempOk src = true → s.dev.svcState n ≠ 4 → s.dev.svcState n ≠ 5 →
    Does (.tempSourceValid n) s fun t =>
      (t.dev.svcOf n).lost = false ∧ (s.dev.svcKind n = 1 → t.dev.rd (axIx Ix.AX_CE_MODE n) 6 = 2) ∧ s.Reports t [])

/-- The Seat (R310 to R312). A motion that the Seat takes is prepared at once where every member stands still and no push waits, with a checkpoint written first; else the members are brought to standstill and the motion waits. The command STOP ends the motion, STORE keeps the members' positions in a memory. The checkpoint's completion makes the prepared motion the current one and queues its group move, and one of more than 2^31 − 1 counts is reported and moves nothing; a pinch reverses its member; a calibrating member that has met its end stands at position 0, which is known. The readings and choices it rests on: log entries 2, 62. -/
def Obligations.SeatMotions : Prop :=
  (∀ (s : State) (rq : Requester) (k : Fin 4) (up : Bool), s.admits rq Ix.SVC_SEAT_CMD 0 = true → s.heard.seatStatus 1 k = 0 →
    Does (.jog rq k up) s fun t =>
      t.dev.server.answer = ⟨0, 0, []⟩
        ∧ (s.heard.seatStill = true → s.dev.seat.push = none → t.dev.seat.push = some (.jog k up) ∧ t.dev.seat.next = none
            ∧ t.dev.rd Ix.STO_CP_SERIAL = (s.dev.rd Ix.STO_CP_SERIAL + 1) % 2 ^ 32)
        ∧ (s.heard.seatStill = false → t.dev.seat.push = none ∧ t.dev.seat.next = some (.jog k up) ∧ t.dev.interp.move = none))
  ∧ (∀ (s : State) (rq : Requester) (m : Fin 4), s.admits rq Ix.SVC_SEAT_CMD 0 = true → s.heard.seatStatus 3 m = 0 →
    Does (.recall rq m) s fun t =>
      t.dev.server.answer = ⟨0, 0, []⟩
        ∧ (s.heard.seatStill = true → s.dev.seat.push = none → t.dev.seat.push = some (.recall m) ∧ t.dev.seat.next = none)
        ∧ (s.heard.seatStill = false → t.dev.seat.push = none ∧ t.dev.seat.next = some (.recall m) ∧ t.dev.interp.move = none))
  ∧ (∀ (s : State) (rq : Requester) (k : Fin 4), s.admits rq Ix.SVC_SEAT_CMD 0 = true → s.heard.seatStatus 5 k = 0 →
    Does (.calibrate rq k) s fun t =>
      t.dev.server.answer = ⟨0, 0, []⟩
        ∧ (s.heard.seatStill = true → s.dev.seat.push = none → t.dev.seat.push = some (.calibrate k) ∧ t.dev.seat.next = none)
        ∧ (s.heard.seatStill = false → t.dev.seat.push = none ∧ t.dev.seat.next = some (.calibrate k) ∧ t.dev.interp.move = none))
  ∧ (∀ (s : State) (rq : Requester), s.admits rq Ix.SVC_SEAT_CMD 0 = true → s.heard.seatStatus 2 0 = 0 →
    Does (.seatStop rq) s fun t =>
      t.dev.server.answer = ⟨0, 0, []⟩ ∧ t.dev.seat.push = none ∧ t.dev.seat.next = none ∧ t.dev.interp.move = none ∧ t.dev.interp.queue = [])
  ∧ (∀ (s : State) (rq : Requester) (m k n : Nat) (h : m < 4), s.admits rq Ix.SVC_SEAT_CMD 0 = true → s.heard.seatStatus 4 m = 0 →
    s.dev.seatMembers[k]? = some n → k < 4 →
    Does (.storeCmd rq ⟨m, h⟩) s fun t =>
      t.dev.server.answer = ⟨0, 0, []⟩ ∧ t.dev.rd Ix.SVC_SEAT_MEM (4 * m + k + 1) = s.dev.rd (axIx Ix.AX_FE_POSITION n))
  ∧ (∀ (s : State) (n : Fin 8) (op : SeatOp), s.dev.isRunning = true → s.dev.seat.push = some op → s.dev.svcKind n = 4 → s.dev.svcState n = 3 →
    s.dev.seatTooFar op = true → (∀ k, op ≠ .reverse k) →
    Does (.standstillCheckpointDone n) s fun t =>
      t.dev.seat.push = none ∧ t.dev.seat.current = none ∧ t.dev.interp.queue = s.dev.interp.queue
        ∧ s.Reports t [message 0xA8 0x0A Ix.INT_CMD])
  ∧ (∀ (s : State) (n : Fin 8) (op : SeatOp), s.dev.isRunning = true → s.dev.seat.push = some op → s.dev.svcKind n = 4 → s.dev.svcState n = 3 →
    s.dev.seatTooFar op = false → s.dev.groupStatus (s.dev.seatMove op) = 0 →
    Does (.standstillCheckpointDone n) s fun t => t.dev.seat.push = none ∧ t.dev.seat.current = some op ∧ t.dev.seat.ticks = 0
        ∧ t.dev.interp.queue = s.dev.interp.queue ++ [s.dev.seatMove op])
  ∧ (∀ (s : State) (k : Fin 4) (n : Fin 8), s.dev.isRunning = true → s.dev.server.teamster = true → s.dev.svcKind n = 4 → s.dev.svcState n = 3 →
    max 1 (s.dev.inTicks (s.dev.rd Ix.SVC_SEAT 7)) ≤ s.dev.seat.beyond.getD k 0 →
    Does (.pinch k) s fun t =>
      t.dev.seat.next = some (.reverse k) ∧ t.dev.seat.beyond = [0, 0, 0, 0] ∧ t.dev.interp.move = none ∧ t.dev.interp.queue = [])
  ∧ (∀ (s : State) (k n : Nat), s.dev.isRunning = true → s.dev.server.teamster = true → s.dev.seat.current = some (.calibrate k) →
    max 1 (s.dev.inTicks (s.dev.rd Ix.SVC_SEAT 11)) ≤ s.dev.seat.atEnd → s.dev.seatMembers[k]? = some n →
    Does .seatEndStop s fun t =>
      t.dev.rd (axIx Ix.AX_FE_POSITION n) = 0 ∧ (t.dev.fe n).preset = some 0 ∧ t.dev.bitOf Ix.SVC_SEAT_KNOWN k = true
        ∧ t.dev.interp.move = none)

/-- Rein inputs and sensors (R314, R315, R320, R322, R324, R325). Two active edges give x as the duty or the frequency between them; no edge for TIMEOUT gives the duty of the level or frequency 0, and the bands give y. A band held for FS_TIME takes the fail-safe, which is posted and left by band. A Rider sensor's reading is its readout, a Saddle sensor's the latest conversion of the monitor path. A valid reading is shown, moves the peak, and sets and clears its thresholds with their hysteresis; the onset of T_SHUT on a protecting sensor is posted; a fourth interval without a reading breaks a sensor, which then reads its T_SHUT; the rate of rise is taken over ten updates, and an excess over two updates sets RATE; fast sampling ends below the warning; a recovered sensor shows its reading. The readings and choices it rests on: log entries 3, 63, 64. -/
def Obligations.ReinsAndSensors : Prop :=
  (∀ (s : State) (r : Fin 8) (ago : Nat), s.dev.isRunning = true → (s.dev.reinCfg r 1 = 2 ∨ s.dev.reinCfg r 1 = 3) →
    Does (.reinEdge r (s.dev.reinCfg r 4 == 1) ago) s fun t =>
      (t.dev.reinOfPin r).inactive = some (s.now - ago) ∧ (t.dev.reinOfPin r).active = (s.dev.reinOfPin r).active
        ∧ s.dev.SameObjects t.dev [])
  ∧ (∀ (s : State) (r : Fin 8) (ago t0 t1 : Nat), s.dev.isRunning = true → s.dev.reinCfg r 1 = 2 →
    (s.dev.reinOfPin r).active = some t0 → (s.dev.reinOfPin r).inactive = some t1 → t0 + reinShortest ≤ s.now - ago →
    Does (.reinEdge r (s.dev.reinCfg r 4 != 1) ago) s fun t =>
      t.dev.reinX r = clampI 0 hi16 (divRne (((t1 : Int) - t0) * 32768) (((s.now - ago : Nat) : Int) - t0))
        ∧ (t.dev.reinOfPin r).active = some (s.now - ago) ∧ (t.dev.reinOfPin r).inactive = none)
  ∧ (∀ (s : State) (r : Fin 8) (ago t0 : Nat), s.dev.isRunning = true → s.dev.reinCfg r 1 = 3 →
    (s.dev.reinOfPin r).active = some t0 → t0 + reinShortest ≤ s.now - ago →
    Does (.reinEdge r (s.dev.reinCfg r 4 != 1) ago) s fun t =>
      t.dev.reinX r = clampI 0 hi16 (divRne (32768 * 160000000)
        ((((s.now - ago : Nat) : Int) - t0) * (max 1 (s.dev.reinCfg r 13) : Nat))))
  ∧ (∀ (s : State) (r : Fin 8), s.dev.isRunning = true → s.dev.reinCfg r 1 = 3 → (s.dev.reinOfPin r).safe = false →
    s.dev.reinLim r 5 ≤ 0 → 0 < s.dev.reinLim r 6 → 0 ≤ s.dev.reinLim r 8 →
    Does (.reinTimeout r) s fun t => t.dev.reinX r = 0 ∧ t.dev.rd (Ix.REIN_VALUE + r) 2 = 0 ∧ t.dev.reinState r = 1)
  ∧ (∀ (s : State) (r : Fin 8), s.dev.isRunning = true → s.dev.reinCfg r 1 = 2 →
    Does (.reinTimeout r) s fun t =>
      t.dev.reinX r = (if (s.dev.reinOfPin r).level = (s.dev.reinCfg r 4 == 0) then hi16 else 0))
  ∧ (∀ (s : State) (r : Fin 8) (st : Nat), s.dev.isRunning = true → s.dev.reinCfg r 1 ≠ 0 → s.dev.reinBad r = some st →
    (s.dev.reinOfPin r).safe = false →
    Does (.reinFailsafe r) s fun t =>
      (t.dev.reinOfPin r).safe = true ∧ t.dev.reinState r = st ∧ t.dev.rdS 16 (Ix.REIN_VALUE + r) 2 = s.dev.reinLim r 11
        ∧ s.Reports t [message (srcByte 6 8) 0x41 (r + if st = 5 then 256 else 0)])
  ∧ (∀ (s : State) (r : Fin 8), s.dev.isRunning = true → s.dev.reinCfg r 1 ≠ 0 → s.dev.reinBad r = none →
    (s.dev.reinOfPin r).safe = true → s.dev.reinLim r 7 < s.dev.reinX r → s.dev.reinLim r 6 ≤ s.dev.reinX r →
    Does (.reinFailsafeExit r) s fun t =>
      (t.dev.reinOfPin r).safe = false ∧ t.dev.reinState r = 3 ∧ t.dev.rdS 16 (Ix.REIN_VALUE + r) 2 = s.dev.reinLim r 10 ∧ s.Reports t [])
  ∧ (∀ (s : State) (k : Fin 18) (v : Int), s.dev.isRunning = true → k.val < 4 → tempFloor ≤ v → v ≤ tempCeil → s.dev.thmBit k 4 = false →
    0 ≤ s.dev.thmLim k 4 →
    Does (.thermalReading k true false true v) s fun t =>
      t.dev.temp k = v ∧ t.dev.rdS 16 Ix.THM_PEAK (k + 1) = max (s.dev.rdS 16 Ix.THM_PEAK (k + 1)) v
        ∧ t.dev.thmBit k 0 = (decide (s.dev.thmLim k 1 ≤ v) || (s.dev.thmBit k 0 && decide (s.dev.thmLim k 1 - s.dev.thmLim k 4 ≤ v)))
        ∧ t.dev.thmBit k 1 = (decide (s.dev.thmLim k 2 ≤ v) || (s.dev.thmBit k 1 && decide (s.dev.thmLim k 2 - s.dev.thmLim k 4 ≤ v)))
        ∧ t.dev.thmBit k 2 = (decide (s.dev.thmLim k 3 ≤ v) || (s.dev.thmBit k 2 && decide (s.dev.thmLim k 3 - s.dev.thmLim k 4 ≤ v)))
        ∧ (s.dev.thmBit k 0 = true → s.dev.thmBit k 1 = true → s.dev.thmBit k 2 = false → s.dev.thmLim k 3 ≤ v →
            s.dev.thmLim k 1 ≤ v → s.dev.thmLim k 2 ≤ v → s.Reports t [message (thmSource k) 0x08 k]))
  ∧ (∀ (s : State) (k : Fin 18) (clip ok : Bool) (x v : Int), s.dev.isRunning = true → 4 ≤ k.val → k.val < 10 →
    s.dev.cnv.monitor.getD (k + 12) Mon.rest = ⟨v, false, false⟩ → tempFloor ≤ v → v ≤ tempCeil → s.dev.thmBit k 4 = false →
    Does (.thermalReading k true clip ok x) s fun t =>
      t.dev.temp k = v ∧ t.dev.rdS 16 Ix.THM_PEAK (k + 1) = max (s.dev.rdS 16 Ix.THM_PEAK (k + 1)) v ∧ (s.dev.therm k).history = (t.dev.therm k).history)
  ∧ (∀ (s : State) (k : Fin 18) (clip ok : Bool) (v : Int), s.dev.isRunning = true → s.dev.inService k = true → (s.dev.therm k).silent = 3 →
    Does (.thermalReading k false clip ok v) s fun t => t.dev.thmBit k 4 = true ∧ t.dev.temp k = s.dev.thmLim k 3)
  ∧ (∀ (s : State) (k : Fin 18) (old : Int), s.dev.isRunning = true → s.dev.inService k = true → (s.dev.therm k).history[9]? = some old →
    Does .riseRateUpdate s fun t =>
      t.dev.rdS 16 Ix.THM_RATE (k + 1) = (limit16 ((s.dev.temp k - old) * 10)).val
        ∧ ((s.dev.therm k).beyond = true → s.dev.thmLim k 5 < (limit16 ((s.dev.temp k - old) * 10)).val → t.dev.thmBit k 3 = true)
        ∧ ((s.dev.therm k).beyond = false → (limit16 ((s.dev.temp k - old) * 10)).val ≤ s.dev.thmLim k 5 → t.dev.thmBit k 3 = false))
  ∧ (∀ (s : State) (k : Fin 18), s.dev.isRunning = true → s.dev.thmBit k 5 = true → s.dev.thmBit k 3 = false →
    s.dev.temp k < s.dev.thmLim k 1 - s.dev.thmLim k 4 →
    Does (.fastSamplingExit k) s fun t => t.dev.thmBit k 5 = false ∧ t.dev.temp k = s.dev.temp k ∧ s.Reports t [])
  ∧ (∀ (s : State) (k : Fin 18), s.dev.isRunning = true → s.dev.thmBit k 4 = true → (s.dev.therm k).valid = true →
    -32768 ≤ (s.dev.therm k).value → (s.dev.therm k).value < 32768 →
    Does (.sensorRecovered k) s fun t => t.dev.thmBit k 4 = false ∧ t.dev.temp k = (s.dev.therm k).value)

/-- The Tally takes its messages (R331 to R339, R343, R345 to R347, Table 17.4). A Note is counted, latched if the latch is free and counted as an overflow if it is not, and changes no axis. An Immediate message of the device puts every ENABLED axis and the device into SAFE, drives ERRN low and becomes an entry; one of axes puts those into SAFE with itself as their cause; a Handle message becomes an entry with TLY_HANDLE_TIME and leaves the axes; a full table takes the device to SAFE. An entry not acknowledged in its time takes the safe state of its axes. Groom writes the queue's oldest record under the next serial, or stops after a failed write; a Handle timer that fails its check takes the device safe state. The readings and choices it rests on: log entries 2, 65, 66. -/
def Obligations.FaultsAndReactions : Prop :=
  (∀ (s : State) (p : Posted) (rest : List Posted), s.dev.isRunning = true → takeNext s.dev.tally.inbox = some (p, rest) →
    classOf p.message = 0 → p.message < 2 ^ 32 → s.dev.bitOf Ix.TLY_STATUS 0 = false →
    Does (.faultIntake [] 0) s fun t =>
      t.dev.tally.inbox = rest ∧ t.dev.rd Ix.TLY_FIRST 1 = p.message ∧ t.dev.rd Ix.TLY_FIRST 2 = s.now ∧ t.dev.rd Ix.TLY_FIRST 3 = 0
        ∧ t.dev.bitOf Ix.TLY_STATUS 0 = true ∧ t.dev.rd Ix.TLY_COUNT 1 = min (s.dev.rd Ix.TLY_COUNT 1 + 1) 0xFFFF_FFFF
        ∧ t.dev.tally.entries = s.dev.tally.entries ∧ (∀ n : Fin 8, t.dev.axisState n = s.dev.axisState n))
  ∧ (∀ (s : State) (p : Posted) (rest : List Posted), s.dev.isRunning = true → takeNext s.dev.tally.inbox = some (p, rest) →
    classOf p.message = 0 → s.dev.bitOf Ix.TLY_STATUS 0 = true →
    Does (.faultIntake [] 0) s fun t =>
      t.dev.tally.inbox = rest ∧ t.dev.rd Ix.TLY_FIRST 1 = s.dev.rd Ix.TLY_FIRST 1 ∧ t.dev.bitOf Ix.TLY_STATUS 1 = true
        ∧ t.dev.rd Ix.TLY_OVERFLOW_COUNT = min (s.dev.rd Ix.TLY_OVERFLOW_COUNT + 1) 0xFFFF_FFFF)
  ∧ (∀ (s : State) (p : Posted) (rest : List Posted), s.dev.isRunning = true → takeNext s.dev.tally.inbox = some (p, rest) →
    classOf p.message = 2 → p.message < 2 ^ 32 → s.dev.scopeOf p.message = none → s.dev.inDeviceSafe = false →
    s.dev.tally.entries.length < 32 → (∀ e ∈ s.dev.tally.entries, e.message ≠ p.message) →
    Does (.faultIntake [] 0) s fun t =>
      t.dev.inDeviceSafe = true ∧ t.dev.rd Ix.TLY_SAFE_CAUSE = p.message ∧ t.dev.tally.errnLow = true
        ∧ t.dev.tally.entries = s.dev.tally.entries ++ [⟨p.message, s.now, 0xFFFF, 2, false, true, 0xFF⟩]
        ∧ (∀ n : Fin 8, s.dev.enabled n = true → t.dev.axisState n = 2 ∧ t.dev.rd (axIx Ix.AX_SAFE_CAUSE n) = p.message)
        ∧ (s.dev.state = devReady ∨ s.dev.state = devRun → t.dev.state = devSafe))
  ∧ (∀ (s : State) (p : Posted) (rest : List Posted) (mask : Nat) (n : Fin 8), s.dev.isRunning = true →
    takeNext s.dev.tally.inbox = some (p, rest) → classOf p.message = 2 → p.message < 2 ^ 32 → s.dev.scopeOf p.message = some mask →
    bit mask n = true → s.dev.enabled n = true →
    Does (.faultIntake [] 0) s fun t =>
      t.dev.axisState n = 2 ∧ t.dev.rd (axIx Ix.AX_SAFE_CAUSE n) = p.message ∧ t.dev.tally.errnLow = true
        ∧ (∀ k : Fin 8, bit mask k = false → s.dev.tally.entries.length < 32 → t.dev.axisState k = s.dev.axisState k))
  ∧ (∀ (s : State) (p : Posted) (rest : List Posted) (mask : Nat) (n : Fin 8), s.dev.isRunning = true →
    takeNext s.dev.tally.inbox = some (p, rest) → classOf p.message = 1 → s.dev.scopeOf p.message = some mask →
    bit mask n = true → s.dev.countsEnabled n = true → s.dev.tally.entries.length < 32 → (∀ e ∈ s.dev.tally.entries, e.message ≠ p.message) →
    Does (.faultIntake [] 0) s fun t =>
      t.dev.tally.entries = s.dev.tally.entries ++ [⟨p.message, s.now, s.dev.rd Ix.TLY_HANDLE_TIME, 1, false, false, mask⟩]
        ∧ t.dev.tally.errnLow = true ∧ t.dev.inDeviceSafe = s.dev.inDeviceSafe ∧ (∀ k : Fin 8, t.dev.axisState k = s.dev.axisState k))
  ∧ (∀ (s : State) (p : Posted) (rest : List Posted), s.dev.isRunning = true → takeNext s.dev.tally.inbox = some (p, rest) →
    classOf p.message = 1 → s.dev.scopeOf p.message = none → s.dev.inDeviceSafe = false →
    32 ≤ s.dev.tally.entries.length → (∀ e ∈ s.dev.tally.entries, e.message ≠ p.message) →
    Does (.faultIntake [] 0) s fun t => t.dev.inDeviceSafe = true ∧ t.dev.bitOf Ix.TLY_STATUS 3 = true ∧ t.dev.tally.entries = s.dev.tally.entries)
  ∧ (∀ (s : State) (m : Message) (e : PendingEntry) (n : Fin 8), s.dev.isRunning = true →
    (s.dev.tally.entries.find? fun e => e.message == m && e.cls == 1 && !e.escalated) = some e → e.device = false → bit e.axes n = true →
    s.dev.enabled n = true → m < 2 ^ 32 →
    Does (.handleEscalation m) s fun t =>
      t.dev.axisState n = 2 ∧ t.dev.rd (axIx Ix.AX_SAFE_CAUSE n) = m
        ∧ t.dev.tally.entries = s.dev.tally.entries.map (fun x => if x.message == m then { x with escalated := true } else x)
        ∧ t.dev.rd Ix.TLY_COUNT 4 = min (s.dev.rd Ix.TLY_COUNT 4 + 1) 0xFFFF_FFFF)
  ∧ (∀ (s : State), s.dev.isRunning = true →
    Does .errTimeExpire s fun t =>
      t.dev.tally.errTiming = false ∧ t.dev.tally.entries = s.dev.tally.entries ∧ s.dev.SameObjects t.dev [])
  ∧ (∀ (s : State) (r : LogRecord) (rest : List LogRecord), s.dev.isRunning = true → s.dev.tally.logQueue = r :: rest → s.dev.tally.logStop = false →
    Does (.logRecordWritten true) s fun t =>
      t.dev.tally.logQueue = rest ∧ t.dev.tally.log.head? = some (s.dev.rd Ix.TLY_LOG_HEAD, r)
        ∧ t.dev.rd Ix.TLY_LOG_HEAD = (s.dev.rd Ix.TLY_LOG_HEAD + 1) % 2 ^ 32 ∧ t.dev.tally.logStop = false)
  ∧ (∀ (s : State) (r : LogRecord) (rest : List LogRecord), s.dev.isRunning = true → s.dev.tally.logQueue = r :: rest → s.dev.tally.logStop = false →
    Does (.logRecordWritten false) s fun t =>
      t.dev.tally.logStop = true ∧ t.dev.tally.log = s.dev.tally.log ∧ t.dev.bitOf Ix.TLY_HEALTH 0 = true)
  ∧ (∀ (s : State), s.dev.isRunning = true → Does (.timerSelfCheck true) s fun t => t.dev.tally.entries = s.dev.tally.entries ∧ s.dev.SameObjects t.dev [])
  ∧ (∀ (s : State), s.dev.isRunning = true → Does (.timerSelfCheck false) s fun t => t.dev.bitOf Ix.TLY_HEALTH 1 = true ∧ t.dev.inDeviceSafe = true)

/-- Requests to the Tally (R337, R340, R341, R344, R345, R348, Table 17.4a). TLY_ACK removes the entries it names and reads their number; ENABLE takes an axis to ENABLED where nothing pends on it, no leg of it is latched, the device is not in SAFE and every check is met, names the first check that fails, and is answered UNAVAILABLE while an entry covers the axis; DISABLE leaves DISABLED and acknowledges the axis's own entries. The device safe state and ERRN are released where their conditions hold, else CLEAR_REFUSED answers; a write of 0 clears the latch; an injected message joins the others in Farrier mode, and is answered UNAVAILABLE out of it. The readings and choices it rests on: log entries 65, 66. -/
def Obligations.RequestsToTheTally : Prop :=
  (∀ (s : State) (rq : Requester) (m : Nat), s.admits rq Ix.TLY_ACK 0 = true → m < 2 ^ 32 →
    Does (.tlyAck rq m) s fun t =>
      t.dev.server.answer = ⟨0, 0, []⟩
        ∧ t.dev.tally.entries = s.dev.tally.entries.filter (fun e => !(m == 0xFFFF_FFFF || e.message == m))
        ∧ t.dev.rd Ix.TLY_ACK = (s.dev.tally.entries.countP fun e => m == 0xFFFF_FFFF || e.message == m) % 2 ^ 32)
  ∧ (∀ (s : State) (rq : Requester) (n : Fin 8), s.admits rq (axIx Ix.AX_CMD n) 0 = true → s.heard.enabled n = false →
    (∀ e ∈ s.dev.tally.entries, e.device = false ∧ bit e.axes n = false) → (∀ l ∈ s.heard.axisLegs n, (s.dev.leg l).latched = false) →
    s.dev.state ≠ devSafe → (∀ c ∈ s.heard.enableChecks n, c.1 = true) →
    Does (.enable rq n) s fun t => t.dev.server.answer = ⟨0, 0, []⟩ ∧ t.dev.axisState n = 1 ∧ t.dev.state ≠ devReady)
  ∧ (∀ (s : State) (rq : Requester) (n : Fin 8) (i : Nat), s.admits rq (axIx Ix.AX_CMD n) 0 = true → s.heard.enabled n = false →
    (∀ e ∈ s.dev.tally.entries, e.device = false ∧ bit e.axes n = false) → (∀ l ∈ s.heard.axisLegs n, (s.dev.leg l).latched = false) →
    s.dev.state ≠ devSafe → ((s.heard.enableChecks n).findIdx? fun c => !c.1) = some i →
    Does (.enable rq n) s fun t =>
      t.dev.server.answer.status = 8 ∧ t.dev.axisState n = s.dev.axisState n ∧ t.dev.rd Ix.DEV_LAST_REJECT 1 = axIx Ix.AX_CMD n
        ∧ t.dev.rd Ix.DEV_LAST_REJECT 3 = i + 1)
  ∧ (∀ (s : State) (rq : Requester) (n : Fin 8) (e : PendingEntry), s.admits rq (axIx Ix.AX_CMD n) 0 = true → s.heard.enabled n = false →
    e ∈ s.dev.tally.entries → (e.device = true ∨ bit e.axes n = true) →
    Does (.enable rq n) s fun t => t.dev.server.answer = ⟨0x0F, 0, []⟩ ∧ t.dev.axisState n = s.dev.axisState n)
  ∧ (∀ (s : State) (rq : Requester) (n : Fin 8), s.admits rq (axIx Ix.AX_CMD n) 0 = true →
    Does (.disable rq n) s fun t =>
      t.dev.server.answer = ⟨0, 0, []⟩ ∧ (s.heard.countsEnabled n = true → t.dev.axisState n = 0)
        ∧ t.dev.tally.entries = s.dev.tally.entries.filter (fun e => !(!e.device && e.axes == 2 ^ n.val)))
  ∧ (∀ (s : State) (rq : Requester), s.admits rq Ix.TLY_SAFE_RELEASE 0 = true → s.heard.safeRefused = false →
    Does (.safeRelease rq) s fun t =>
      t.dev.server.answer = ⟨0, 0, []⟩ ∧ t.dev.inDeviceSafe = false ∧ t.dev.gda.hobbleSafe = false ∧ t.dev.state ≠ devSafe)
  ∧ (∀ (s : State) (rq : Requester), s.admits rq Ix.TLY_SAFE_RELEASE 0 = true → s.heard.safeRefused = true →
    Does (.safeRelease rq) s fun t => t.dev.server.answer = ⟨0x10, 0, []⟩ ∧ t.dev.inDeviceSafe = s.dev.inDeviceSafe ∧ t.dev.gda = s.dev.gda)
  ∧ (∀ (s : State) (rq : Requester), s.admits rq Ix.TLY_ERRN_RELEASE 0 = true → s.heard.releasable = true →
    Does (.errnRelease rq) s fun t => t.dev.server.answer = ⟨0, 0, []⟩ ∧ t.dev.tally.errnLow = false)
  ∧ (∀ (s : State) (rq : Requester), s.admits rq Ix.TLY_ERRN_RELEASE 0 = true → s.heard.releasable = false →
    Does (.errnRelease rq) s fun t => t.dev.server.answer = ⟨0x10, 0, []⟩ ∧ t.dev.tally.errnLow = s.dev.tally.errnLow)
  ∧ (∀ (s : State) (rq : Requester), s.admits rq Ix.TLY_FIRST 1 = true →
    Does (.firstClear rq) s fun t =>
      t.dev.server.answer = ⟨0, 0, []⟩ ∧ t.dev.rd Ix.TLY_FIRST 1 = 0 ∧ t.dev.rd Ix.TLY_FIRST 2 = 0 ∧ t.dev.rd Ix.TLY_FIRST 3 = 0
        ∧ t.dev.bitOf Ix.TLY_STATUS 0 = false ∧ t.dev.bitOf Ix.TLY_STATUS 1 = false)
  ∧ (∀ (s : State) (rq : Requester) (m : Nat), s.admits rq Ix.TLY_INJECT 0 = true → m < 2 ^ 32 → s.dev.vault.farrier = true →
    Does (.tlyInject rq m) s fun t =>
      t.dev.server.answer = ⟨0, 0, []⟩ ∧ t.dev.tally.inbox = s.dev.tally.inbox ++ [⟨s.now, m, true⟩])
  ∧ (∀ (s : State) (rq : Requester) (m : Nat), s.admits rq Ix.TLY_INJECT 0 = true → m < 2 ^ 32 → s.dev.vault.farrier = false →
    Does (.tlyInject rq m) s fun t => t.dev.server.answer = ⟨0x0F, 0, []⟩ ∧ t.dev.tally.inbox = s.dev.tally.inbox)

/-- The assay units (R351 to R356, R362 to R365, R367). SCAN and SCAN_COMPARE start from INIT and CONTINUE from the running value; ABORT ends the scan, keeps the last result, and changes nothing where no scan runs. A scan that is done has fed the bytes of its range, and a compare that fails is posted and kept in the status. Bytes fed move the running value by the parameters, RESTART and a preset set it to INIT, and a parameter that fits is taken with PRESET 0, one that does not is answered RANGE. A unit that fails its test twice in a row is withdrawn for the spare, and a firmware scan that differs is posted. The readings and choices it rests on: log entry 67. -/
def Obligations.AssayUnits : Prop :=
  (∀ (s : State) (rq : Requester), s.admits rq Ix.ASY_SCAN_CMD 0 = true → s.heard.scanStatus 1 = 0 →
    Does (.scan rq) s fun t =>
      t.dev.server.answer = ⟨0, 0, []⟩ ∧ t.dev.rd Ix.ASY_SCAN_STATUS = 1 ∧ t.dev.rd Ix.ASY_RUNNING = s.dev.rd Ix.ASY_INIT
        ∧ t.dev.asy.compare = false ∧ t.dev.bitOf Ix.ASY_STATUS 7 = true)
  ∧ (∀ (s : State) (rq : Requester), s.admits rq Ix.ASY_SCAN_CMD 0 = true → s.heard.scanStatus 2 = 0 →
    Does (.continueCmd rq) s fun t =>
      t.dev.server.answer = ⟨0, 0, []⟩ ∧ t.dev.rd Ix.ASY_SCAN_STATUS = 1 ∧ t.dev.rd Ix.ASY_RUNNING = s.dev.rd Ix.ASY_RUNNING
        ∧ t.dev.asy.compare = false)
  ∧ (∀ (s : State) (rq : Requester), s.admits rq Ix.ASY_SCAN_CMD 0 = true → s.heard.scanStatus 3 = 0 →
    Does (.scanCompare rq) s fun t =>
      t.dev.server.answer = ⟨0, 0, []⟩ ∧ t.dev.rd Ix.ASY_SCAN_STATUS = 1 ∧ t.dev.rd Ix.ASY_RUNNING = s.dev.rd Ix.ASY_INIT
        ∧ t.dev.asy.compare = true)
  ∧ (∀ (s : State) (rq : Requester), s.admits rq Ix.ASY_SCAN_CMD 0 true = true →
    Does (.abortCmd rq) s fun t =>
      t.dev.server.answer = ⟨0, 0, []⟩
        ∧ t.dev.rd Ix.ASY_SCAN_STATUS = (if s.dev.rd Ix.ASY_SCAN_STATUS = 1 then 5 else s.dev.rd Ix.ASY_SCAN_STATUS)
        ∧ (s.dev.rd Ix.ASY_SCAN_STATUS ≠ 1 → t.dev.rd Ix.ASY_RUNNING = s.dev.rd Ix.ASY_RUNNING)
        ∧ t.dev.rd Ix.ASY_RESULT = s.dev.rd Ix.ASY_RESULT)
  ∧ (∀ (s : State) (bs : List Nat), s.dev.isRunning = true → s.dev.scanning = true → s.dev.scanBytes = some bs → s.dev.asy.compare = false →
    Does .scanDone s fun t =>
      t.dev.rd Ix.ASY_SCAN_STATUS = 2 ∧ t.dev.rd Ix.ASY_RUNNING = s.dev.asyParams.feed (s.dev.rd Ix.ASY_RUNNING) bs % 2 ^ 32
        ∧ t.dev.bitOf Ix.ASY_STATUS 7 = false ∧ s.Reports t [])
  ∧ (∀ (s : State) (bs : List Nat), s.dev.isRunning = true → s.dev.scanning = true → s.dev.scanBytes = some bs → s.dev.asy.compare = true →
    (s.dev.asyParams.feed (s.dev.rd Ix.ASY_RUNNING) bs ^^^ s.dev.rd Ix.ASY_XOROUT) % 2 ^ 32 = s.dev.rd Ix.ASY_SCAN_EXPECT →
    Does .scanDone s fun t =>
      t.dev.rd Ix.ASY_SCAN_STATUS = 3 ∧ t.dev.rd Ix.ASY_RESULT = s.dev.rd Ix.ASY_SCAN_EXPECT ∧ s.Reports t [])
  ∧ (∀ (s : State) (bs : List Nat), s.dev.isRunning = true → s.dev.scanning = true → s.dev.scanBytes = some bs → s.dev.asy.compare = true →
    (s.dev.asyParams.feed (s.dev.rd Ix.ASY_RUNNING) bs ^^^ s.dev.rd Ix.ASY_XOROUT) % 2 ^ 32 ≠ s.dev.rd Ix.ASY_SCAN_EXPECT →
    Does .scanDone s fun t =>
      t.dev.rd Ix.ASY_SCAN_STATUS = 4 ∧ t.dev.bitOf Ix.ASY_STATUS 8 = true ∧ s.Reports t [message (srcByte 0xB 3) 0x40 3])
  ∧ (∀ (s : State) (rq : Requester) (bytes : List Octet), s.admitsBlob rq Ix.ASY_FEED = true →
    Does (.asyFeed rq bytes) s fun t =>
      t.dev.server.answer = ⟨0, 0, []⟩
        ∧ t.dev.rd Ix.ASY_RUNNING = s.dev.asyParams.feed (s.dev.rd Ix.ASY_RUNNING) bytes % 2 ^ 32
        ∧ t.dev.rd Ix.ASY_RESULT = (s.dev.asyParams.feed (s.dev.rd Ix.ASY_RUNNING) bytes ^^^ s.dev.rd Ix.ASY_XOROUT) % 2 ^ 32)
  ∧ (∀ (s : State) (rq : Requester), s.admits rq Ix.ASY_RESTART 0 = true →
    Does (.asyRestart rq) s fun t => t.dev.server.answer = ⟨0, 0, []⟩ ∧ t.dev.rd Ix.ASY_RUNNING = s.dev.rd Ix.ASY_INIT)
  ∧ (∀ (s : State) (rq : Requester) (code : Nat), s.admits rq Ix.ASY_PRESET 0 = true → 1 ≤ code → code ≤ 4 →
    Does (.asyPreset rq code) s fun t =>
      t.dev.server.answer = ⟨0, 0, []⟩ ∧ t.dev.asyParams = crcPreset code ∧ t.dev.rd Ix.ASY_PRESET = code
        ∧ t.dev.rd Ix.ASY_RUNNING = (crcPreset code).init)
  ∧ (∀ (s : State) (rq : Requester) (p : Fin 5) (v : Nat), s.admits rq (Ix.ASY_WIDTH + p) 0 = true → v < 2 ^ 32 → (p = 3 → v ≤ 1) →
    s.heard.asyFits (Ix.ASY_WIDTH + p) v = true →
    Does (.asyParamWrite rq p v) s fun t =>
      t.dev.server.answer = ⟨0, 0, []⟩ ∧ t.dev.rd (Ix.ASY_WIDTH + p) = v ∧ t.dev.rd Ix.ASY_PRESET = 0
        ∧ t.dev.rd Ix.ASY_RUNNING = t.dev.rd Ix.ASY_INIT)
  ∧ (∀ (s : State) (rq : Requester) (v : Nat), s.admits rq Ix.ASY_POLY 0 = true → v < 2 ^ 32 → v % 2 = 0 →
    Does (.asyParamWrite rq 1 v) s fun t => t.dev.server.answer = ⟨4, 0, []⟩ ∧ t.dev.rd Ix.ASY_POLY = s.dev.rd Ix.ASY_POLY)
  ∧ (∀ (s : State) (u : Fin 3) (w : Fin 16), w.val = 2 ^ u.val → s.dev.isRunning = true → bit (s.dev.rd Ix.ASY_STATUS) u = false → bit (s.dev.rd Ix.ASY_STATUS) 9 = false →
    bit s.dev.asy.failed 3 = false → s.dev.asy.fails.getD u 0 = 1 → 3 < s.dev.asy.fails.length →
    Does (.assaySelfTest w) s fun t =>
      t.dev.bitOf Ix.ASY_STATUS u = true ∧ t.dev.bitOf Ix.ASY_STATUS 9 = true ∧ t.dev.rd Ix.ASY_USE (u + 1) = 0xFF
        ∧ s.Reports t [message (srcByte 0xB u) 0x41 u])
  ∧ (∀ s : State, s.dev.isRunning = true → s.dev.runningBank.crc = s.dev.rd Ix.ASY_FW_CRC →
    Does .fwScanTimer s fun t => s.Reports t [] ∧ s.dev.SameObjects t.dev [])
  ∧ (∀ s : State, s.dev.isRunning = true → s.dev.runningBank.crc ≠ s.dev.rd Ix.ASY_FW_CRC →
    Does .fwScanTimer s fun t => t.dev.bitOf Ix.ASY_STATUS 8 = true ∧ s.Reports t [message (srcByte 0xB 1) 0x40 1])

/-- What the ports receive (R368, R369, R379 to R382). A complete CAN FD datagram joins the receive queue with its addresses from the identifier, a full queue drops it; a first frame opens a reassembly and the last one of its numbers in turn completes it; a wrong number and a missing frame abandon it, and an unsupported frame is counted. A UDP datagram with a good checksum and a LIN request to this NAD join their queues; a header sends the LIN answer that is ready. An SPI write with its CRC joins the queue and a failing one sets ERR; a read shows the datagram that waits longest and takes it if it is clocked out whole. The readings and choices it rests on: log entries 2, 68, 69. -/
def Obligations.PortsReceive : Prop :=
  (∀ (s : State) (id ago : Nat) (bs : List Octet), s.dev.isRunning = true → s.dev.portUp 1 = true → (s.dev.portQ 1).rx.length < 16 →
    Does (.canFrameRx id (0 :: bs) true ago) s fun t =>
      (t.dev.portQ 1).rx = (s.dev.portQ 1).rx ++ [⟨canDest id, canSrc id, bs, 0, s.now - ago⟩]
        ∧ (t.dev.portQ 0).rx = (s.dev.portQ 0).rx ∧ (t.dev.portQ 2).rx = (s.dev.portQ 2).rx ∧ (t.dev.portQ 3).rx = (s.dev.portQ 3).rx
        ∧ t.dev.rd (Ix.NET_PORT_COUNT + 1) 1 = min (s.dev.rd (Ix.NET_PORT_COUNT + 1) 1 + 1) 0xFFFF_FFFF)
  ∧ (∀ (s : State) (id ago : Nat) (bs : List Octet), s.dev.isRunning = true → s.dev.portUp 1 = true → 16 ≤ (s.dev.portQ 1).rx.length →
    Does (.canFrameRx id (0 :: bs) true ago) s fun t =>
      (t.dev.portQ 1).rx = (s.dev.portQ 1).rx ∧ t.dev.rd (Ix.NET_PORT_COUNT + 1) 3 = min (s.dev.rd (Ix.NET_PORT_COUNT + 1) 3 + 1) 0xFFFF_FFFF)
  ∧ (∀ (s : State) (id ago : Nat) (bs : List Octet), s.dev.isRunning = true → s.dev.portUp 1 = true → bs.length = 63 →
    s.dev.partialOf (canSrc id) = none → s.dev.net.partials.length < 8 →
    Does (.canFrameRx id (0x40 :: bs) true ago) s fun t =>
      t.dev.net.partials = s.dev.net.partials ++ [⟨id, 0, bs, s.now - ago⟩] ∧ (t.dev.portQ 1).rx = (s.dev.portQ 1).rx)
  ∧ (∀ (s : State) (id ago n : Nat) (bs : List Octet) (r : Reassembly), s.dev.isRunning = true → s.dev.portUp 1 = true → n < 63 →
    s.dev.partialOf (canSrc id) = some r → r.last = n → (s.dev.portQ 1).rx.length < 16 →
    Does (.canFrameRx id ((0xC0 + (n + 1)) :: bs) true ago) s fun t =>
      (t.dev.portQ 1).rx = (s.dev.portQ 1).rx ++ [⟨canDest r.id, canSrc r.id, r.bytes ++ bs, 0, r.stamp⟩]
        ∧ t.dev.partialOf (canSrc id) = none)
  ∧ (∀ (s : State) (id ago n : Nat) (bs : List Octet) (r : Reassembly), s.dev.isRunning = true → s.dev.portUp 1 = true → n < 64 →
    s.dev.partialOf (canSrc id) = some r → r.last + 1 ≠ n →
    Does (.canFrameRx id ((0xC0 + n) :: bs) true ago) s fun t =>
      (t.dev.portQ 1).rx = (s.dev.portQ 1).rx ∧ t.dev.partialOf (canSrc id) = none
        ∧ t.dev.rd (Ix.NET_PORT_COUNT + 1) 5 = min (s.dev.rd (Ix.NET_PORT_COUNT + 1) 5 + 1) 0xFFFF_FFFF)
  ∧ (∀ (s : State) (id ago : Nat) (payload : List Octet), s.dev.isRunning = true → s.dev.portUp 1 = true →
    Does (.canFrameRx id payload false ago) s fun t =>
      t.dev.net = s.dev.net ∧ t.dev.rd (Ix.NET_PORT_COUNT + 1) 4 = min (s.dev.rd (Ix.NET_PORT_COUNT + 1) 4 + 1) 0xFFFF_FFFF)
  ∧ (∀ (s : State) (src : Nat), s.dev.isRunning = true → s.dev.partialOf src ≠ none →
    Does (.reassemblyTimeout src) s fun t =>
      t.dev.partialOf src = none ∧ t.dev.rd (Ix.NET_PORT_COUNT + 1) 5 = min (s.dev.rd (Ix.NET_PORT_COUNT + 1) 5 + 1) 0xFFFF_FFFF)
  ∧ (∀ (s : State) (peer : Nat) (bs : List Octet), s.dev.isRunning = true → s.dev.portUp 0 = true → 4 ≤ bs.length → (s.dev.portQ 0).rx.length < 16 →
    Does (.udpDatagramRx peer bs true) s fun t =>
      (t.dev.portQ 0).rx = (s.dev.portQ 0).rx ++ [⟨leNat (bs.take 2), leNat ((bs.drop 2).take 2), bs.drop 4, peer, s.now⟩])
  ∧ (∀ (s : State) (peer : Nat) (bs : List Octet), s.dev.isRunning = true → s.dev.portUp 0 = true →
    Does (.udpDatagramRx peer bs false) s fun t =>
      t.dev.net = s.dev.net ∧ t.dev.rd Ix.NET_PORT_COUNT 3 = min (s.dev.rd Ix.NET_PORT_COUNT 3 + 1) 0xFFFF_FFFF)
  ∧ (∀ (s : State) (kind : Octet) (body : List Octet), s.dev.isRunning = true → s.dev.portUp 2 = true → (s.dev.portQ 2).rx.length < 16 →
    Does (.linRequestRx (s.dev.netSetting Ix.NET_LIN_NAD 0) (0xBA :: kind :: body)) s fun t =>
      (t.dev.portQ 2).rx = (s.dev.portQ 2).rx ++ [⟨0, 0, kind :: body, 0, s.now⟩] ∧ t.dev.net.linSeen = some s.now)
  ∧ (∀ (s : State) (nad : Nat) (bs : List Octet), s.dev.isRunning = true → s.dev.portUp 2 = true → nad ≠ s.dev.netSetting Ix.NET_LIN_NAD 0 →
    Does (.linRequestRx nad bs) s fun t => (t.dev.portQ 2).rx = (s.dev.portQ 2).rx ∧ t.dev.net.linSeen = some s.now)
  ∧ (∀ (s : State) (bs : List Nat), s.dev.isRunning = true → s.dev.portUp 2 = true → s.dev.net.lin = some bs →
    Does .linResponseHeaderRx s fun t => (t.dev.portQ 2).sent = some ⟨0, 0, bs, 0, s.now⟩ ∧ t.dev.net.lin = none)
  ∧ (∀ (s : State), s.dev.isRunning = true → s.dev.portUp 2 = true → s.dev.net.lin = none →
    Does .linResponseHeaderRx s fun t => (t.dev.portQ 2).sent = (s.dev.portQ 2).sent ∧ t.dev.net.linSeen = some s.now)
  ∧ (∀ (s : State) (g : List Octet), s.dev.isRunning = true → 4 ≤ g.length → g.length < 2 ^ 16 → (s.dev.portQ 3).rx.length < 16 →
    Does (.spiWrite (leBytes 2 g.length ++ g ++ leBytes 2 (crc16f (leBytes 2 g.length ++ g)))) s fun t =>
      (t.dev.portQ 3).rx = (s.dev.portQ 3).rx ++ [⟨leNat (g.take 2), leNat ((g.drop 2).take 2), g.drop 4, 0, s.now⟩]
        ∧ t.dev.net.spiErr = false ∧ t.dev.net.spiOut = [s.dev.spiStatus])
  ∧ (∀ (s : State) (bs : List Octet), s.dev.isRunning = true → bs.length ≠ leNat (bs.take 2) + 4 →
    Does (.spiWrite bs) s fun t =>
      (t.dev.portQ 3).rx = (s.dev.portQ 3).rx ∧ t.dev.net.spiErr = true ∧ t.dev.net.spiOut = [s.dev.spiStatus] ∧ s.dev.SameObjects t.dev [])
  ∧ (∀ (s : State) (g : Datagram) (rest : List Datagram) (complete : Bool), s.dev.isRunning = true → (s.dev.portQ 3).wait = g :: rest →
    Does (.spiRead complete) s fun t =>
      t.dev.net.spiOut = s.dev.spiStatus :: (leBytes 2 g.wire.length ++ g.wire)
          ++ leBytes 2 (crc16f (leBytes 2 g.wire.length ++ g.wire))
        ∧ (t.dev.portQ 3).wait = (if complete then rest else g :: rest) ∧ s.dev.SameObjects t.dev [])
  ∧ (∀ s : State, s.dev.isRunning = true →
    Does .spiStatus s fun t =>
      t.dev.net.spiOut = [0x80 + bitIf s.dev.net.spiErr 2 + bitIf (decide ((s.dev.portQ 3).rx.length < 16)) 1 + bitIf (!(s.dev.portQ 3).wait.isEmpty) 0]
        ∧ t.dev.net.ports = s.dev.net.ports ∧ s.dev.SameObjects t.dev [])
  ∧ (∀ (s : State) (forUs : Bool), s.dev.isRunning = true → s.dev.portUp 0 = true →
    Does (.ethernetFrameRx .unsupported forUs) s fun t =>
      t.dev.net = s.dev.net ∧ t.dev.rd Ix.NET_PORT_COUNT 4 = min (s.dev.rd Ix.NET_PORT_COUNT 4 + 1) 0xFFFF_FFFF ∧ t.dev.bitOf Ix.NET_STATUS 0 = true)
  ∧ (∀ (s : State), s.dev.isRunning = true → s.dev.portUp 0 = true → s.dev.netSetting Ix.NET_IP 1 ≠ 0 →
    Does (.ethernetFrameRx .arp true) s fun t => t.dev.net.t1sReply = some .arp ∧ (t.dev.portQ 0).rx = (s.dev.portQ 0).rx)

/-- Courier's dispatch of the datagram whose turn it is (R369 to R374). A response and a datagram of another version are discarded, and one too short is counted in ERRORS. On the host SPI port a malformed request is answered MALFORMED, one of a session that does not exist NO_SESSION with AUTH clear, and a request without a session is served as its KIND says, its answer sent to its source under its KIND and TXN. The readings and choices it rests on: log entries 5, 70. -/
def Obligations.CourierDispatches : Prop :=
  (∀ (s : State) (g : Datagram) (rest : List Datagram), s.dev.isRunning = true → s.dev.nextPort = some 3 → (s.dev.portQ 3).rx = g :: rest →
    8 ≤ g.bytes.length → ((klpOf false g).flags / 32 ≠ 1 ∨ (klpOf false g).response = true) →
    Does .datagramDispatch s fun t =>
      (t.dev.portQ 3).rx = rest ∧ (t.dev.portQ 3).wait = (s.dev.portQ 3).wait ∧ t.dev.net.turn = 0 ∧ s.dev.SameObjects t.dev [])
  ∧ (∀ (s : State) (g : Datagram) (rest : List Datagram), s.dev.isRunning = true → s.dev.nextPort = some 3 → (s.dev.portQ 3).rx = g :: rest →
    g.bytes.length < 8 →
    Does .datagramDispatch s fun t =>
      (t.dev.portQ 3).rx = rest ∧ (t.dev.portQ 3).wait = (s.dev.portQ 3).wait
        ∧ t.dev.rd (Ix.NET_PORT_COUNT + 3) 4 = min (s.dev.rd (Ix.NET_PORT_COUNT + 3) 4 + 1) 0xFFFF_FFFF)
  ∧ (∀ (s : State) (g : Datagram) (rest : List Datagram), s.dev.isRunning = true → s.dev.nextPort = some 3 → (s.dev.portQ 3).rx = g :: rest →
    8 ≤ g.bytes.length → (klpOf false g).flags / 32 = 1 → (klpOf false g).response = false → (klpOf false g).malformed = true →
    s.dev.keyedSession ⟨.spi, (klpOf false g).node, (klpOf false g).session⟩ = none →
    Does .datagramDispatch s fun t =>
      (t.dev.portQ 3).rx = rest
        ∧ (t.dev.portQ 3).wait = (s.dev.portQ 3).wait
            ++ [⟨0x8000 + (klpOf false g).node, s.dev.ownSrc,
                  [0x24, (klpOf false g).kind, (klpOf false g).txn, (klpOf false g).session, 0, 0, 0x11, 0], g.peer, s.now⟩])
  ∧ (∀ (s : State) (g : Datagram) (rest : List Datagram), s.dev.isRunning = true → s.dev.nextPort = some 3 → (s.dev.portQ 3).rx = g :: rest →
    8 ≤ g.bytes.length → (klpOf false g).flags / 32 = 1 → (klpOf false g).response = false → (klpOf false g).malformed = false →
    (klpOf false g).kind ∈ [0x01, 0x02, 0x03, 0x04, 0x05, 0x06, 0x07, 0x08, 0x09, 0x0C, 0x0D, 0x10, 0x11] →
    (klpOf false g).auth = false → (klpOf false g).session ≠ 0 →
    s.dev.sessionOf ⟨.spi, (klpOf false g).node, (klpOf false g).session⟩ = none →
    Does .datagramDispatch s fun t =>
      (t.dev.portQ 3).rx = rest
        ∧ (t.dev.portQ 3).wait = (s.dev.portQ 3).wait
            ++ [⟨0x8000 + (klpOf false g).node, s.dev.ownSrc,
                  [0x24, (klpOf false g).kind, (klpOf false g).txn, (klpOf false g).session, 0, 0, 0x0C, 0], g.peer, s.now⟩])
  ∧ (∀ (s : State) (g : Datagram) (rest : List Datagram) (d : Device), s.dev.isRunning = true → s.dev.nextPort = some 3 →
    (s.dev.portQ 3).rx = g :: rest → 8 ≤ g.bytes.length → (klpOf false g).flags / 32 = 1 → (klpOf false g).response = false →
    (klpOf false g).malformed = false → (klpOf false g).kind ∈ [0x01, 0x02, 0x03, 0x04, 0x05, 0x06, 0x07, 0x08, 0x09, 0x0C, 0x0D, 0x10, 0x11] →
    (klpOf false g).auth = false → (klpOf false g).e2e = false → (klpOf false g).session = 0 → s.dev.repeated (klpOf false g) = none →
    d = (s.dev.dequeued 3 rest).serveKind s.now (.of ⟨.spi, (klpOf false g).node, 0⟩) ((klpOf false g).dest % 2 ^ 14) (klpOf false g).kind (klpOf false g).body →
    d.isPowered = true → d.server.answer.status = 0 →
    Does .datagramDispatch s fun t =>
      (t.dev.portQ 3).wait = (d.portQ 3).wait
          ++ [⟨0x8000 + (klpOf false g).node, s.dev.ownSrc,
                [0x24, (klpOf false g).kind, (klpOf false g).txn, 0] ++ leBytes 2 d.server.answer.data.length ++ [0, 0] ++ d.server.answer.data,
                g.peer, s.now⟩]
        ∧ t.dev.server.answer = d.server.answer)

/-- States and time of the networks (R360, R375, R379, R383 to R386, R429). Bus-off and a lost beacon are shown and posted, and the return from each restarts the end-to-end streams of its port; a dominant transmitter is counted. A NOTIFY of a stream carries its values; without an assigned node it is dropped. The sync master sends SYNC and FOLLOW_UP, or drops both without a key. A SYNC that is authentic is held, one that is not is posted; a FOLLOW_UP that pairs with it and an 802.1AS pair set network time while it is not locked, and a small error moves it by half; lost syncs unlock it. A context without a datagram for 1 s starts over. The readings and choices it rests on: log entries 2, 70, 71. -/
def Obligations.NetworkStatesAndTime : Prop :=
  (∀ s : State, s.dev.isRunning = true → bit (s.dev.netSetting Ix.NET_PORT_EN 0) 1 = true → s.dev.bitOf Ix.NET_STATUS 3 = false →
    Does .busOff s fun t =>
      t.dev.bitOf Ix.NET_STATUS 3 = true ∧ t.dev.bitOf Ix.NET_STATUS 2 = false ∧ s.Reports t [message 0xD1 0x40 0]
        ∧ s.dev.SameObjects t.dev [keyOf Ix.NET_STATUS 0])
  ∧ (∀ s : State, s.dev.isRunning = true → s.dev.bitOf Ix.NET_STATUS 3 = true →
    Does .busOffRecovery s fun t =>
      t.dev.bitOf Ix.NET_STATUS 3 = false ∧ t.dev.bitOf Ix.NET_STATUS 2 = true ∧ s.Reports t []
        ∧ (∀ k : Fin 8, s.dev.rd (Ix.NET_STREAM + k) 2 = 1 → (t.dev.net.senders.getD k ⟨0, 8⟩).plain = 8))
  ∧ (∀ (s : State) (lin : Bool), s.dev.isRunning = true → s.dev.portUp (if lin then 2 else 1) = true →
    Does (.transmitterDominantTimeout lin) s fun t =>
      t.dev.rd (Ix.NET_PORT_COUNT + if lin then 2 else 1) 4 = min (s.dev.rd (Ix.NET_PORT_COUNT + if lin then 2 else 1) 4 + 1) 0xFFFF_FFFF
        ∧ s.Reports t [])
  ∧ (∀ (s : State) (k : Fin 8) (values : List Nat) (d : Device), s.dev.isRunning = true → s.dev.rd (Ix.NET_STREAM + k) 1 = 1 →
    s.dev.readMany s.now ⟨⟨portOf (s.dev.rd (Ix.NET_STREAM + k) 2), s.dev.node, 0⟩, true⟩ .operator (s.dev.streamKeys k) = (values, d) →
    d.node ≠ 0xFFFF → d.portUp (d.rd (Ix.NET_STREAM + k) 2) = true → d.rd (Ix.NET_STREAM + k) 2 < 4 → d.rd (Ix.NET_STREAM + k) 5 = 0 →
    Does (.notifyTimer k) s fun t =>
      ∃ txn, (t.dev.portQ (d.rd (Ix.NET_STREAM + k) 2)).sent
        = some ⟨d.rd (Ix.NET_STREAM + k) 3 % 2 ^ 14 + 0x8000, d.node,
            [0x20, 0x20, txn, 0] ++ leBytes 2 (9 + values.length) ++ [0, 0] ++ ([k.val] ++ leBytes 8 (d.netTime s.now) ++ values),
            d.broadcastPeer (d.rd (Ix.NET_STREAM + k) 2), s.now⟩)
  ∧ (∀ (s : State) (k : Fin 8) (values : List Nat) (d : Device), s.dev.isRunning = true → s.dev.rd (Ix.NET_STREAM + k) 1 = 1 →
    s.dev.readMany s.now ⟨⟨portOf (s.dev.rd (Ix.NET_STREAM + k) 2), s.dev.node, 0⟩, true⟩ .operator (s.dev.streamKeys k) = (values, d) →
    d.node = 0xFFFF → d.rd (Ix.NET_STREAM + k) 2 < 4 →
    Does (.notifyTimer k) s fun t =>
      t.dev.rd (Ix.NET_PORT_COUNT + d.rd (Ix.NET_STREAM + k) 2) 3 = min (d.rd (Ix.NET_PORT_COUNT + d.rd (Ix.NET_STREAM + k) 2) 3 + 1) 0xFFFF_FFFF
        ∧ t.dev.net.ports = d.net.ports)
  ∧ (∀ (s : State) (slot : KeySlot), s.dev.isRunning = true → bit s.dev.timeRole 2 = true → s.dev.groupSlot (s.dev.rd Ix.NET_TIME 5) = some slot →
    slot.groups = true → s.dev.rd Ix.NET_TIME 5 ≠ 0xFFFF → s.dev.vaultShut = false → s.dev.node ≠ 0xFFFF → s.dev.portUp 1 = true →
    Does .syncMasterTimer s fun t =>
      t.dev.net.clock.seq = (s.dev.net.clock.seq + 1) % 2 ^ 16
        ∧ t.dev.rd (Ix.NET_PORT_COUNT + 1) 2 = min (s.dev.rd (Ix.NET_PORT_COUNT + 1) 2 + 2) 0xFFFF_FFFF
        ∧ t.dev.net.freshTx = max (s.dev.freshNow s.now) (s.dev.net.freshTx + 1) + 1
        ∧ ∃ g, (t.dev.portQ 1).sent = some g ∧ (g.bytes.drop 8).take 10 = leBytes 2 s.dev.net.clock.seq ++ leBytes 8 (s.dev.netTime s.now))
  ∧ (∀ (s : State), s.dev.isRunning = true → bit s.dev.timeRole 2 = true → s.dev.groupSlot (s.dev.rd Ix.NET_TIME 5) = none →
    Does .syncMasterTimer s fun t =>
      t.dev.rd (Ix.NET_PORT_COUNT + 1) 3 = min (s.dev.rd (Ix.NET_PORT_COUNT + 1) 3 + 2) 0xFFFF_FFFF ∧ t.dev.net.ports = s.dev.net.ports)
  ∧ (∀ (s : State) (src seq fresh ago : Nat), s.dev.isRunning = true → s.dev.vaultShut = false → s.dev.timeLocked = false →
    (∀ last, cellGet s.dev.net.fresh src = some last → last < fresh) → bit s.dev.timeRole 1 = true →
    Does (.sync src seq fresh true ago) s fun t =>
      t.dev.net.clock.held = some (src, seq, s.now - ago) ∧ cellGet t.dev.net.fresh src = some fresh ∧ s.Reports t [])
  ∧ (∀ (s : State) (src seq fresh ago : Nat), s.dev.isRunning = true → s.dev.vaultShut = false →
    Does (.sync src seq fresh false ago) s fun t =>
      t.dev.net = s.dev.net ∧ s.Reports t [message 0xD4 0x41 src]
        ∧ t.dev.rd Ix.NET_AUTH_COUNT 1 = min (s.dev.rd Ix.NET_AUTH_COUNT 1 + 1) 0xFFFF_FFFF)
  ∧ (∀ (s : State) (src seq fresh ago last : Nat), s.dev.isRunning = true → s.dev.vaultShut = false → s.dev.timeLocked = false →
    cellGet s.dev.net.fresh src = some last → fresh ≤ last →
    Does (.sync src seq fresh true ago) s fun t =>
      t.dev.net = s.dev.net ∧ s.Reports t [message 0xD4 0x42 src]
        ∧ t.dev.rd Ix.NET_AUTH_COUNT 2 = min (s.dev.rd Ix.NET_AUTH_COUNT 2 + 1) 0xFFFF_FFFF)
  ∧ (∀ (s : State) (src seq time fresh stamp : Nat), s.dev.isRunning = true → s.dev.vaultShut = false → s.dev.timeLocked = false →
    (∀ last, cellGet s.dev.net.fresh src = some last → last < fresh) → bit s.dev.timeRole 1 = true →
    s.dev.net.clock.held = some (src, seq, stamp) → s.now ≤ stamp + 1600000 →
    Does (.followUp src seq time fresh true) s fun t =>
      t.dev.net.clock.nRef = pat 64 ((time : Int) + s.dev.pathDelay) ∧ t.dev.net.clock.pRef = stamp ∧ t.dev.net.clock.held = none)
  ∧ (∀ (s : State) (ns ago : Nat), s.dev.isRunning = true → s.dev.portUp 0 = true → bit s.dev.timeRole 0 = true → s.dev.timeLocked = false →
    Does (.gptpSyncRx (s.dev.rd Ix.NET_TIME 4) ns ago) s fun t =>
      t.dev.net.clock.nRef = pat 64 (ticksOfNs ns + s.dev.pathDelay) ∧ t.dev.net.clock.pRef = s.now - ago)
  ∧ (∀ (s : State) (ns ago : Nat) (e : Int), s.dev.isRunning = true → s.dev.portUp 0 = true → bit s.dev.timeRole 0 = true → s.dev.timeLocked = true →
    e = sgn 64 (pat 64 (ticksOfNs ns + s.dev.pathDelay - (s.dev.netTime (s.now - ago) : Int))) → -160 ≤ e → e ≤ 160 →
    Does (.gptpSyncRx (s.dev.rd Ix.NET_TIME 4) ns ago) s fun t =>
      t.dev.net.clock.nRef = pat 64 ((s.dev.netTime (s.now - ago) : Int) + divRne e 2)
        ∧ t.dev.net.clock.good = min 4 (s.dev.net.clock.good + 1) ∧ t.dev.rdS 32 Ix.NET_TIME_ERR = e ∧ t.dev.timeLocked = true)
  ∧ (∀ (s : State), s.dev.isRunning = true → s.dev.timeLocked = true → bit s.dev.timeRole 0 = true →
    Does .syncLost s fun t => t.dev.timeLocked = false ∧ t.dev.net.clock.good = 0 ∧ s.Reports t [message 0xD5 0x43 0])
  ∧ (∀ (s : State), s.dev.isRunning = true → s.dev.plcaFollower = true → s.dev.net.fallback = false →
    Does .plcaLost s fun t => t.dev.bitOf Ix.NET_STATUS 1 = false ∧ t.dev.net.fallback = true ∧ s.Reports t [message 0xD0 0x44 0])
  ∧ (∀ (s : State), s.dev.isRunning = true → s.dev.plcaFollower = true →
    Does .plcaRestored s fun t =>
      t.dev.bitOf Ix.NET_STATUS 1 = true ∧ t.dev.net.fallback = false
        ∧ (∀ k : Fin 8, s.dev.rd (Ix.NET_STREAM + k) 2 = 0 → (t.dev.net.senders.getD k ⟨0, 8⟩).plain = 8))
  ∧ (∀ (s : State) (src dest : Nat), s.dev.isRunning = true →
    Does (.e2eContextTimeout src dest) s fun t =>
      (∀ c ∈ t.dev.net.contexts, c.src = src → c.dest = dest → c.state = .start)
        ∧ t.dev.net.contexts.length = s.dev.net.contexts.length ∧ s.dev.SameObjects t.dev [])

/-- The Vault's keys, lifecycle and tamper sensors (R395, R397, R400, R401, R405, R410 to R413). PROVISION, FIELD and RETIRE that nothing stands against blow the fuses of their state, which the next boot senses, and reset the device. The root key is stored if its digest is the one in OTP, an import replaces its slot if it is genuine, a deletion empties its slot and starts a post, and 32 bytes extend MR7. An alarm is counted and posted at its sensor's level: NOTE alone, LOCK ends every session and shuts the Vault, ERASE empties every slot besides. A failed self-test shuts the Vault's services. The readings and choices it rests on: log entries 5, 72, 73. -/
def Obligations.VaultKeysAndAlarms : Prop :=
  (∀ (s : State) (rq : Requester), s.admits rq Ix.VLT_LIFECYCLE_CMD 0 = true → s.heard.lifecycleStatus s.now (Caller.of rq).owner 1 = 0 →
    s.dev.bitOf Ix.SUP_STATUS 7 = false →
    Does (.provision rq) s fun t =>
      t.dev.sensed.stageReached 0 = true ∧ t.dev.sensed.bankLocked 6 = true
        ∧ t.dev.sensed.stageReached 1 = s.dev.sensed.stageReached 1 ∧ t.dev.sensed.stageReached 2 = s.dev.sensed.stageReached 2
        ∧ t.dev.supply.phase = .held ∧ t.dev.bitOf Ix.SUP_RESET_CAUSE 8 = true)
  ∧ (∀ (s : State) (rq : Requester), s.admits rq Ix.VLT_LIFECYCLE_CMD 0 = true → s.heard.lifecycleStatus s.now (Caller.of rq).owner 2 = 0 →
    s.dev.bitOf Ix.SUP_STATUS 7 = false →
    Does (.fieldCmd rq) s fun t =>
      t.dev.sensed.stageReached 1 = true ∧ t.dev.sensed.stageReached 2 = s.dev.sensed.stageReached 2
        ∧ t.dev.supply.phase = .held ∧ t.dev.bitOf Ix.SUP_RESET_CAUSE 8 = true)
  ∧ (∀ (s : State) (rq : Requester), s.admits rq Ix.VLT_LIFECYCLE_CMD 0 = true → s.heard.lifecycleStatus s.now (Caller.of rq).owner 3 = 0 →
    s.dev.bitOf Ix.SUP_STATUS 7 = false →
    Does (.retire rq) s fun t =>
      t.dev.sensed.stageReached 2 = true ∧ t.dev.supply.phase = .held ∧ t.dev.bitOf Ix.SUP_RESET_CAUSE 8 = true)
  ∧ (∀ (s : State) (rq : Requester), s.admits rq Ix.VLT_LIFECYCLE_CMD 0 = true → s.heard.vaultShut = false →
    s.heard.confirmed s.now (Caller.of rq).owner = false →
    Does (.retire rq) s fun t => t.dev.server.answer = ⟨4, 0, []⟩ ∧ t.dev.lifecycle = s.dev.lifecycle)
  ∧ (∀ (s : State) (rq : Requester) (bytes : List Octet), s.admitsBlob rq Ix.VLT_ROOT_KEY = true → s.dev.rd Ix.VLT_SELFTEST = 0 →
    Does (.rootKeyWrite rq bytes) s fun t =>
      if s.dev.rootKeyOk bytes then t.dev.server.answer = ⟨0, 0, []⟩ ∧ t.dev.tab Ix.VLT_ROOT_KEY = bytes ∧ t.dev.bitOf Ix.VLT_STATUS 0 = true
      else t.dev.server.answer = ⟨4, 0, []⟩ ∧ t.dev.tab Ix.VLT_ROOT_KEY = s.dev.tab Ix.VLT_ROOT_KEY)
  ∧ (∀ (s : State) (rq : Requester) (bytes : List Octet), s.admitsBlob rq Ix.VLT_KEY_IMPORT = true → s.heard.importShut = false →
    importBad bytes = false → s.heard.postStatus = 0 →
    Does (.keyImport rq bytes) s fun t =>
      if s.heard.importGenuine bytes then
        t.dev.server.answer = ⟨0, 0, []⟩ ∧ t.dev.vault.seq = bytesAt bytes 16 4 ∧ t.dev.ledger.post.isSome = true
          ∧ t.dev.vault.slots.toList[bytesAt bytes 2 1 - 2]?
              = some ⟨bytesAt bytes 3 1, bytesAt bytes 4 1, bytesAt bytes 5 1, bytesAt bytes 6 2, (s.heard.importKey bytes).getD [], false⟩
      else t.dev.server.answer = ⟨5, 0, []⟩ ∧ t.dev.vault = s.dev.vault)
  ∧ (∀ (s : State) (rq : Requester) (k : Nat), s.admits rq Ix.VLT_KEY_DELETE 0 = true → s.heard.importShut = false → s.heard.postStatus = 0 →
    2 ≤ k → k ≤ 15 →
    Does (.keyDelete rq k) s fun t =>
      t.dev.server.answer = ⟨0, 0, []⟩ ∧ t.dev.vault.slots.toList[k - 2]? = some KeySlot.empty ∧ t.dev.rd Ix.STO_POST = 1
        ∧ (∀ x ∈ t.dev.server.sessions, x.slot ≠ k))
  ∧ (∀ (s : State) (rq : Requester) (k : Nat), s.admits rq Ix.VLT_KEY_DELETE 0 = true → 2 ≤ k → k ≤ 15 → s.heard.importShut = true →
    Does (.keyDelete rq k) s fun t => t.dev.server.answer = ⟨0x0F, 0, []⟩ ∧ t.dev.vault = s.dev.vault)
  ∧ (∀ (s : State) (rq : Requester) (bytes : List Octet), s.admitsBlob rq Ix.VLT_MR_EXTEND = true → s.dev.rd Ix.VLT_SELFTEST = 0 → bytes.length = 32 →
    Does (.mrExtend rq bytes) s fun t => t.dev.server.answer = ⟨0, 0, []⟩ ∧ t.dev.mr 7 = Config.sha256 (s.dev.mr 7 ++ bytes))
  ∧ (∀ (s : State) (x : Fin 6), s.dev.isRunning = true → s.dev.tamperLevel x = 0 →
    Does (.tamperAlarm x) s fun t =>
      s.Reports t [message 0xF0 0x40 x] ∧ t.dev.rd Ix.VLT_TAMPER_COUNT (x + 1) = min (s.dev.rd Ix.VLT_TAMPER_COUNT (x + 1) + 1) 0xFFFF_FFFF
        ∧ s.dev.SameObjects t.dev [keyOf Ix.VLT_TAMPER_COUNT (x + 1)] ∧ t.dev.server.sessions = s.dev.server.sessions)
  ∧ (∀ (s : State) (x : Fin 6), s.dev.isRunning = true → s.dev.tamperLevel x = 1 →
    Does (.tamperAlarm x) s fun t =>
      s.Reports t [message 0xF0 0x41 x] ∧ t.dev.server.sessions = [] ∧ t.dev.vaultShut = true ∧ t.dev.vault.slots = s.dev.vault.slots
        ∧ t.dev.rd Ix.VLT_TAMPER_COUNT (x + 1) = min (s.dev.rd Ix.VLT_TAMPER_COUNT (x + 1) + 1) 0xFFFF_FFFF)
  ∧ (∀ (s : State) (x : Fin 6), s.dev.isRunning = true → 2 ≤ s.dev.tamperLevel x → s.dev.ledger.post = none →
    Does (.tamperAlarm x) s fun t =>
      s.Reports t [message 0xF0 0x42 x] ∧ t.dev.server.sessions = [] ∧ t.dev.vaultShut = true ∧ t.dev.bitOf Ix.VLT_STATUS 4 = true
        ∧ t.dev.vault.slots = Vector.replicate 14 KeySlot.empty ∧ t.dev.vault.seq = s.dev.vault.seq)
  ∧ (∀ (s : State) (code : Nat), s.dev.isRunning = true → 0 < code → code < 256 →
    Does (.selfTestFail code) s fun t =>
      t.dev.rd Ix.VLT_SELFTEST = code ∧ t.dev.bitOf Ix.VLT_STATUS 1 = false ∧ t.dev.vaultShut = true ∧ s.Reports t [message 0xF0 0x43 code])

/-- Firmware update, rollback and Farrier tokens (R81, R408, R409, R414). START enters UPDATE with the header of the bank that does not run erased; a block stores its words at their offset; VERIFY runs and leaves VERIFIED or FAILED by the bank's header, signature and rollback count; ACTIVATE of a verified bank prefers it on trial and resets; ABORT and 60 s without a request end the update. The rollback count rises to that of a confirmed running bank. A genuine Farrier token empties the slots and resets the device into Farrier mode; one that is not is answered DENIED and changes nothing of the mode. The readings and choices it rests on: log entries 5, 73. -/
def Obligations.FirmwareAndFarrier : Prop :=
  (∀ (s : State) (rq : Requester), s.admits rq Ix.VLT_UPD_CMD 0 = true → s.heard.updStartStatus = 0 → s.dev.vault.romUpdate = false →
    Does (.updStart rq) s fun t =>
      t.dev.server.answer = ⟨0, 0, []⟩ ∧ t.dev.state = devUpdate ∧ t.dev.vault.updater = some (Caller.of rq).owner
        ∧ t.dev.updTarget = 1 - min 1 (s.dev.rd Ix.DEV_FW_BANK) ∧ (t.dev.fwBank t.dev.updTarget).headerIntact = false
        ∧ t.dev.rd Ix.VLT_UPD_STATUS = 1)
  ∧ (∀ (s : State) (rq : Requester) (role : Role) (offset : Nat) (words : List Nat),
    s.reaches (.of rq) ⟨(blockEntries offset words).map (·.key), false, false⟩ = some role → (role = .integrator ∨ role = .custodian) →
    s.heard.updating = true → s.dev.rd Ix.VLT_UPD_STATUS ≠ 2 → offset % 8 = 0 → offset + 8 * words.length ≤ 1572864 →
    1 ≤ words.length → words.length ≤ 15 → (∀ w ∈ words, w < 2 ^ 64) →
    Does (.updBlock rq offset words) s fun t =>
      t.dev.server.answer = ⟨0, 0, []⟩ ∧ t.dev.rd Ix.VLT_UPD_STATUS = 1
        ∧ (∀ i j, i < words.length → j < 8 →
            (t.dev.fwBank s.dev.updTarget).byte (offset + 8 * i + j) = words.getD i 0 / 256 ^ j % 256))
  ∧ (∀ (s : State) (rq : Requester), s.admits rq Ix.VLT_UPD_CMD 0 = true → s.heard.updating = true → s.heard.vaultShut = false →
    s.dev.rd Ix.VLT_UPD_STATUS ≠ 2 →
    Does (.verify rq) s fun t => t.dev.server.answer = ⟨0, 0, []⟩ ∧ t.dev.rd Ix.VLT_UPD_STATUS = 2)
  ∧ (∀ s : State, s.dev.isRunning = true → s.dev.rd Ix.VLT_UPD_STATUS = 2 →
    Does .verifyDone s fun t =>
      t.dev.rd Ix.VLT_UPD_STATUS
          = (if (s.dev.fwBank s.dev.updTarget).headerIntact ∧ (s.dev.fwBank s.dev.updTarget).sigValid
                ∧ s.dev.rollback ≤ (s.dev.fwBank s.dev.updTarget).secVersion then 3 else 4)
        ∧ s.dev.SameObjects t.dev [keyOf Ix.VLT_UPD_STATUS 0])
  ∧ (∀ (s : State) (rq : Requester), s.admits rq Ix.VLT_UPD_CMD 0 = true → s.heard.updating = true → s.heard.vaultShut = false →
    s.dev.rd Ix.VLT_UPD_STATUS = 3 → s.dev.bitOf Ix.SUP_STATUS 7 = false →
    Does (.activate rq) s fun t =>
      t.dev.boot.preferred = (if s.dev.updTarget = 1 then 1 else 0) ∧ t.dev.boot.trial = true ∧ t.dev.boot.trialCount = 0
        ∧ t.dev.supply.phase = .held ∧ t.dev.bitOf Ix.SUP_RESET_CAUSE 7 = true)
  ∧ (∀ (s : State) (rq : Requester), s.admits rq Ix.VLT_UPD_CMD 0 = true → s.heard.updating = true → s.heard.vaultShut = false →
    s.dev.rd Ix.VLT_UPD_STATUS ≠ 3 →
    Does (.activate rq) s fun t => t.dev.server.answer = ⟨4, 0, []⟩ ∧ t.dev.boot = s.dev.boot)
  ∧ (∀ (s : State) (rq : Requester), s.admits rq Ix.VLT_UPD_CMD 0 = true → s.heard.updating = true → s.dev.vault.romUpdate = false →
    Does (.updAbort rq) s fun t =>
      t.dev.server.answer = ⟨0, 0, []⟩ ∧ t.dev.vault.updater = none ∧ t.dev.rd Ix.VLT_UPD_STATUS = 5 ∧ t.dev.state ≠ devUpdate)
  ∧ (∀ s : State, s.dev.isRunning = true → s.dev.state = devUpdate → s.dev.vault.updater ≠ none → s.dev.vault.romUpdate = false →
    Does .updateTimeout s fun t =>
      t.dev.vault.updater = none ∧ t.dev.rd Ix.VLT_UPD_STATUS = 5 ∧ t.dev.state ≠ devUpdate ∧ t.dev.boot = s.dev.boot)
  ∧ (∀ s : State, s.dev.isRunning = true → s.dev.boot.trial = false → s.dev.bitOf Ix.SUP_STATUS 1 = false → s.dev.vault.romUpdate = false →
    Does .rollbackAdvance s fun t => t.dev.rollback = max s.dev.rollback (min 64 s.dev.runningBank.secVersion))
  ∧ (∀ (s : State) (rq : Requester) (bytes : List Octet), s.admitsBlob rq Ix.VLT_FARRIER = true → s.heard.vaultShut = false →
    bytes.length = 90 → bytesAt bytes 0 2 = 1 → s.dev.bitOf Ix.SUP_STATUS 7 = false →
    Does (.farrierToken rq bytes) s fun t =>
      if s.heard.tokenBad bytes then t.dev.server.answer = ⟨5, 0, []⟩ ∧ t.dev.vault.farrier = s.dev.vault.farrier
      else t.dev.vault.farrier = true ∧ t.dev.supply.phase = .held ∧ t.dev.bitOf Ix.SUP_RESET_CAUSE 8 = true)

/-- The first-fault latch (R337). While the latch is clear the message taken is latched with its Pacer count and class; while it is set every later message sets OVERFLOW, adds 1 to TLY_OVERFLOW_COUNT, and leaves the latch. A write of 0 to TLY_FIRST.01 clears the latch and OVERFLOW; a message taken after it at the same Pacer count is latched; the clear acknowledges no entry, ends no safe state of an axis or of the device, and where the device was in agreement it leaves ERRN. -/
def Obligations.FirstFaultLatch : Prop :=
  (∀ (s : State) (p : Posted) (rest : List Posted), s.dev.isRunning = true → takeNext s.dev.tally.inbox = some (p, rest) →
    p.message < 2 ^ 32 → s.dev.bitOf Ix.TLY_STATUS 0 = false →
    Does (.faultIntake [] 0) s fun t =>
      t.dev.rd Ix.TLY_FIRST 1 = p.message ∧ t.dev.rd Ix.TLY_FIRST 2 = s.now ∧ t.dev.rd Ix.TLY_FIRST 3 = classOf p.message
        ∧ t.dev.bitOf Ix.TLY_STATUS 0 = true)
  ∧ (∀ (s : State) (p : Posted) (rest : List Posted), s.dev.isRunning = true → takeNext s.dev.tally.inbox = some (p, rest) →
    s.dev.bitOf Ix.TLY_STATUS 0 = true →
    Does (.faultIntake [] 0) s fun t =>
      (∀ k : Fin 4, t.dev.rd Ix.TLY_FIRST k = s.dev.rd Ix.TLY_FIRST k) ∧ t.dev.bitOf Ix.TLY_STATUS 0 = true ∧ t.dev.bitOf Ix.TLY_STATUS 1 = true
        ∧ t.dev.rd Ix.TLY_OVERFLOW_COUNT = min (s.dev.rd Ix.TLY_OVERFLOW_COUNT + 1) 0xFFFF_FFFF)
  ∧ (∀ (s : State) (rq : Requester), s.admits rq Ix.TLY_FIRST 1 = true →
    Does (.firstClear rq) s fun t =>
      t.dev.rd Ix.TLY_FIRST 1 = 0 ∧ t.dev.rd Ix.TLY_FIRST 2 = 0 ∧ t.dev.rd Ix.TLY_FIRST 3 = 0
        ∧ t.dev.bitOf Ix.TLY_STATUS 0 = false ∧ t.dev.bitOf Ix.TLY_STATUS 1 = false ∧ t.now = s.now
        ∧ t.dev.tally.entries = s.dev.tally.entries ∧ t.dev.tally.inbox = s.dev.tally.inbox
        ∧ t.dev.inDeviceSafe = s.dev.inDeviceSafe ∧ t.dev.gda = s.dev.gda ∧ (∀ n : Fin 8, t.dev.axisState n = s.dev.axisState n)
        ∧ (s.dev.Settled → t.dev.tally.errnLow = s.dev.tally.errnLow)
        ∧ (∀ (p : Posted) (rest : List Posted), t.dev.isRunning = true → takeNext t.dev.tally.inbox = some (p, rest) → p.message < 2 ^ 32 →
            Does (.faultIntake [] 0) t fun u => u.dev.rd Ix.TLY_FIRST 1 = p.message ∧ u.dev.rd Ix.TLY_FIRST 2 = s.now))

/-- The sensors in Farrier mode (R412): an alarm of any sensor, whatever its level and floor, is counted and posted as NOTE; no session ends, the Vault is not shut, no slot is emptied, and no other object changes. -/
def Obligations.FarrierModeNotes : Prop :=
  ∀ (s : State) (x : Fin 6), s.dev.isRunning = true → s.dev.vault.farrier = true →
    Does (.tamperAlarm x) s fun t =>
      s.Reports t [message 0xF0 0x40 x] ∧ t.dev.rd Ix.VLT_TAMPER_COUNT (x + 1) = min (s.dev.rd Ix.VLT_TAMPER_COUNT (x + 1) + 1) 0xFFFF_FFFF
        ∧ s.dev.SameObjects t.dev [keyOf Ix.VLT_TAMPER_COUNT (x + 1)] ∧ t.dev.server = s.dev.server ∧ t.dev.vault = s.dev.vault
        ∧ t.dev.otp = s.dev.otp ∧ t.dev.ledger = s.dev.ledger ∧ t.dev.tabs = s.dev.tabs

/-- A step runs the command at the front of the queue on the state with the rest of the queue; on an empty queue, which is the model's own choice (log entry 1), one tick of the Pacer passes and nothing else. The readings and choices it rests on: log entry 1. -/
def Obligations.StepRunsTheFront : Prop :=
  (∀ (s : State) (c : Instr) (rest : List Instr), s.pending = c :: rest → step s = exec c { s with pending := rest })
  ∧ (∀ s : State, s.pending = [] → step s = .next { s with pacer := s.pacer + 1 })

/-- No command touches the queue, and the Pacer count is left by every command but a power-on reset, which restarts it at 0 (R19 rule 1, Table 5.3): only VHOLD below its minimum, VBAT lost in Sleep, the exit from Ledger service mode, a post's completion with that exit waiting, and the wake sources restart it. Every command answers a next state. The readings and choices it rests on: log entries 74, 75. -/
def Obligations.CommandsKeepQueueAndTime : Prop :=
  ∀ (c : Instr) (s : State), ∃ t, exec c s = .next t ∧ t.pending = s.pending ∧ (t.pacer = s.pacer ∨ t.pacer = 0)
    ∧ ((∀ source, c ≠ .wakeEvent source) → (∀ mv, c ≠ .vbatAbsent mv) → c ≠ .wakeTimer → c ≠ .vholdMinimum → c ≠ .serviceExit → (∀ ok us, c ≠ .postComplete ok us) →
        t.pacer = s.pacer)

/-- The state after power-on reset (R41 rule 5, R62, R76, Table 5.3, Table 3.12): no command waits, the Pacer count is 0, every object reads its default but the reset cause, which reads POR, the reference in use, which is the internal oscillator, and `TLY_STATUS`, which shows ERRN low; the device is held in reset with every gate off, no session, staged set, transfer, pending entry or message stands, ERRN is low, and what holds at every instant holds. The readings and choices it rests on: log entries 7, 8, 9, 10. -/
def Obligations.ResetLeavesTheseValues : Prop :=
  State.reset.pending = [] ∧ State.reset.pacer = 0 ∧ State.reset.dev.supply.phase = .held
    ∧ State.reset.dev.rd Ix.SUP_RESET_CAUSE = 1 ∧ State.reset.dev.rd Ix.PAC_SOURCE_ACTIVE = 1 ∧ State.reset.dev.rd Ix.TLY_STATUS = 0x10
    ∧ (∀ index sub, sub < 256 → index ≠ Ix.SUP_RESET_CAUSE → index ≠ Ix.PAC_SOURCE_ACTIVE → index ≠ Ix.TLY_STATUS →
        State.reset.dev.rd index sub = defaultAt index sub)
    ∧ (∀ l, (State.reset.dev.leg l).high = false ∧ (State.reset.dev.leg l).low = false)
    ∧ State.reset.dev.server.sessions = [] ∧ State.reset.dev.server.staged = [] ∧ State.reset.dev.server.transfers = []
    ∧ State.reset.dev.tally.entries = [] ∧ State.reset.dev.tally.inbox = [] ∧ State.reset.dev.tally.errnLow = true
    ∧ State.reset.dev.Settled

/-- What holds at every instant (R58, R345, Table 17.12) holds after every step from a state in which it holds: READY stands while no axis is ENABLED and RUN while one is; PENDING, ERRN_LOW, RELEASABLE and the number of entries agree with the Tally; a releasable ERRN is high where AUTO_RELEASE is set. The readings and choices it rests on: log entries 8, 11. -/
def Obligations.StepKeepsSettled : Prop :=
  ∀ s t : State, s.dev.Settled → step s = .next t → t.dev.Settled

/-- A Reader writes nothing (R44, R48, Table 3.4): a WRITE with the role Reader, of any object and any bytes, is refused, and leaves every object but the request and error counters, every table, every staged set, every gate, every axis's engines, the Ledger, the fuses and the Vault as they were, and sends the Tally nothing. The readings and choices it rests on: log entry 29. -/
def Obligations.ReaderWritesNothing : Prop :=
  ∀ (s : State) (rq : Requester) (key : ObjKey) (bytes : List Octet), s.reaches (.of rq) ⟨[key], false, true⟩ = some .reader →
    s.heard.writeRole (.of rq) .reader (keyIndex key) = .reader →
    Does (.write rq key bytes) s fun t =>
      t.dev.server.answer.status ≠ 0 ∧ s.Reports t [] ∧ s.SameTime t
        ∧ s.dev.SameObjects t.dev [keyOf Ix.DEV_REQ_COUNT 0, keyOf Ix.DEV_ERR_COUNT 0]
        ∧ t.dev.tabs = s.dev.tabs ∧ t.dev.server.staged = s.dev.server.staged ∧ t.dev.gda = s.dev.gda ∧ t.dev.eng = s.dev.eng
        ∧ t.dev.ledger = s.dev.ledger ∧ t.dev.otp = s.dev.otp ∧ t.dev.vault = s.dev.vault

/-- The frame of the events and of the requests that write no object (R29, R49, R58, R99, R331): the parts of the device that `touches` does not name for a command stay as they were. So no event of a supply, a gate, a sensor, a motor or a network touches a session, a staged set, a fuse, the boot record or a slot of the Vault but those named, only the Tally's own commands and those that stop an axis change pending entries, and a request that reads changes nothing but the server's own state. The readings and choices it rests on: log entries 74, 75. -/
def Obligations.CommandsTouchTheirParts : Prop :=
  ∀ (c : Instr) (s t : State) (p : Part), exec c s = .next t → p ∉ touches c → s.dev.Keeps t.dev p
end

