-- ==== Sys2Proof/Laws/Bits.lean ====
section
/-! SUPPORT. Laws of single bits of a status word. -/

namespace Sys2Proof.Machine

theorem add_bit_div (n k : Nat) (h : n.testBit k = false) : (n + 2 ^ k) / 2 ^ (k + 1) = n / 2 ^ (k + 1) := by
  have hb : n / 2 ^ k % 2 = 0 := by simpa [Nat.testBit_eq_decide_div_mod_eq] using h
  have hp : 0 < 2 ^ k := Nat.two_pow_pos k
  rw [Nat.pow_succ, ← Nat.div_div_eq_div_mul, ← Nat.div_div_eq_div_mul, Nat.add_div_right _ hp]
  omega

theorem sub_bit_div (n k : Nat) (h : n.testBit k = true) : (n - 2 ^ k) / 2 ^ (k + 1) = n / 2 ^ (k + 1) := by
  have hb : n / 2 ^ k % 2 = 1 := by simpa [Nat.testBit_eq_decide_div_mod_eq] using h
  have hp : 0 < 2 ^ k := Nat.two_pow_pos k
  have hle : 2 ^ k ≤ n := by
    rcases Nat.lt_or_ge n (2 ^ k) with hlt | hge
    · rw [Nat.div_eq_of_lt hlt] at hb; simp at hb
    · exact hge
  obtain ⟨m, rfl⟩ := Nat.exists_eq_add_of_le' hle
  rw [Nat.pow_succ, ← Nat.div_div_eq_div_mul, ← Nat.div_div_eq_div_mul]
  rw [Nat.add_div_right _ hp] at hb ⊢
  simp only [Nat.add_sub_cancel]
  omega

theorem testBit_of_div (a b k j : Nat) (h : a / 2 ^ (k + 1) = b / 2 ^ (k + 1)) (hj : k < j) : a.testBit j = b.testBit j := by
  obtain ⟨i, rfl⟩ := Nat.exists_eq_add_of_le hj
  have e : ∀ x : Nat, x.testBit (k.succ + i) = (x / 2 ^ (k + 1)).testBit i := fun x => by
    rw [Nat.testBit_div_two_pow, Nat.add_comm]
  rw [e, e, h]

theorem testBit_add_low (n k j : Nat) (hj : j < k) : (n + 2 ^ k).testBit j = n.testBit j := by
  rw [Nat.add_comm]; exact Nat.testBit_two_pow_add_gt hj n

theorem testBit_sub_low (n k j : Nat) (h : 2 ^ k ≤ n) (hj : j < k) : (n - 2 ^ k).testBit j = n.testBit j := by
  obtain ⟨m, rfl⟩ := Nat.exists_eq_add_of_le' h
  rw [Nat.add_sub_cancel, testBit_add_low m k j hj]

/-- A bit that is set or cleared reads as it was set; the others stay. -/
@[simp] theorem testBit_withBit (n k j : Nat) (b : Bool) : (withBit n k b).testBit j = if j = k then b else n.testBit j := by
  rcases Bool.eq_false_or_eq_true (n.testBit k) with hk | hk <;> cases b
  · have hw : withBit n k false = n - 2 ^ k := by simp [withBit, hk]
    have hle : 2 ^ k ≤ n := Nat.ge_two_pow_of_testBit hk
    rw [hw]
    by_cases hj : j = k
    · subst hj
      obtain ⟨m, rfl⟩ := Nat.exists_eq_add_of_le' hle
      rw [Nat.add_comm, Nat.testBit_two_pow_add_eq] at hk
      simpa using hk
    · simp only [hj, if_false]
      rcases Nat.lt_or_gt_of_ne hj with h | h
      · exact testBit_sub_low n k j hle h
      · exact testBit_of_div _ _ k j (sub_bit_div n k hk) h
  · have hw : withBit n k true = n := by simp [withBit, hk]
    rw [hw]
    by_cases hj : j = k
    · subst hj; simp [hk]
    · simp [hj]
  · have hw : withBit n k false = n := by simp [withBit, hk]
    rw [hw]
    by_cases hj : j = k
    · subst hj; simp [hk]
    · simp [hj]
  · have hw : withBit n k true = n + 2 ^ k := by simp [withBit, hk]
    rw [hw]
    by_cases hj : j = k
    · subst hj; simp [Nat.add_comm n, Nat.testBit_two_pow_add_eq, hk]
    · simp only [hj, if_false]
      rcases Nat.lt_or_gt_of_ne hj with h | h
      · exact testBit_add_low n k j h
      · exact testBit_of_div _ _ k j (add_bit_div n k hk) h

@[simp] theorem bit_withBit (n k j : Nat) (b : Bool) : bit (withBit n k b) j = if j = k then b else bit n j := testBit_withBit n k j b

/-- A word reduced to its width keeps its bits below the width. -/
@[simp] theorem bit_mod (n w j : Nat) : bit (n % 2 ^ w) j = (decide (j < w) && bit n j) := Nat.testBit_mod_two_pow n w j

/-! ### At the widths of objects -/

@[simp] theorem bit_mod8 (n k : Nat) : bit (n % 256) k = (decide (k < 8) && bit n k) := bit_mod n 8 k
@[simp] theorem bit_mod16 (n k : Nat) : bit (n % 65536) k = (decide (k < 16) && bit n k) := bit_mod n 16 k
@[simp] theorem bit_mod32 (n k : Nat) : bit (n % 4294967296) k = (decide (k < 32) && bit n k) := bit_mod n 32 k

/-- A counter that saturates fits its object. -/
theorem satInc_mod (w n : Nat) : satInc w n % 2 ^ w = satInc w n := by
  unfold satInc; apply Nat.mod_eq_of_lt; have := Nat.two_pow_pos w; omega

@[simp] theorem satInc_mod8 (n : Nat) : satInc 8 n % 256 = min (n + 1) 0xFF := satInc_mod 8 n
@[simp] theorem satInc_mod16 (n : Nat) : satInc 16 n % 65536 = min (n + 1) 0xFFFF := satInc_mod 16 n
@[simp] theorem satInc_mod32 (n : Nat) : satInc 32 n % 4294967296 = min (n + 1) 0xFFFF_FFFF := satInc_mod 32 n

end Sys2Proof.Machine
end

