-- ==== Sys2Proof/Laws/Cells.lean ====
section
/-! SUPPORT. Laws of the sorted cells that hold objects and tables: read after write, and the canonical form that every write keeps. -/

namespace Sys2Proof.Machine

variable {α : Type}

/-- The keys of a cell list rise strictly. -/
def rising : List (Nat × α) → Bool
  | [] => true
  | [_] => true
  | (j, _) :: (k, w) :: rest => decide (j < k) && rising ((k, w) :: rest)

@[simp] theorem cellGet_put_same (cs : List (Nat × α)) (k : Nat) (v : α) : cellGet (cellPut cs k v) k = some v := by
  induction cs with
  | nil => simp [cellPut, cellGet]
  | cons c cs ih =>
    obtain ⟨j, w⟩ := c
    unfold cellPut
    by_cases h : k < j
    · simp [h, cellGet]
    · by_cases hj : j = k
      · simp [hj, cellGet]
      · simp [h, hj, cellGet, ih]

theorem cellGet_put_other (cs : List (Nat × α)) (k k' : Nat) (v : α) (h : k ≠ k') : cellGet (cellPut cs k v) k' = cellGet cs k' := by
  induction cs with
  | nil => simp [cellPut, cellGet, h]
  | cons c cs ih =>
    obtain ⟨j, w⟩ := c
    unfold cellPut
    by_cases hk : k < j
    · simp [hk, cellGet, h]
    · by_cases hj : j = k
      · subst hj; simp [cellGet, h]
      · simp [hk, hj, cellGet, ih]

@[simp] theorem cellGet_drop_same (cs : List (Nat × α)) (k : Nat) : cellGet (cellDrop cs k) k = none := by
  induction cs with
  | nil => simp [cellDrop, cellGet]
  | cons c cs ih =>
    obtain ⟨j, w⟩ := c
    simp only [cellDrop, List.filter_cons] at ih ⊢
    by_cases hj : j = k
    · simpa [hj] using ih
    · simpa [hj, cellGet] using ih

theorem cellGet_drop_other (cs : List (Nat × α)) (k k' : Nat) (h : k ≠ k') : cellGet (cellDrop cs k) k' = cellGet cs k' := by
  induction cs with
  | nil => simp [cellDrop, cellGet]
  | cons c cs ih =>
    obtain ⟨j, w⟩ := c
    simp only [cellDrop, List.filter_cons] at ih ⊢
    by_cases hj : j = k
    · subst hj; simpa [cellGet, h] using ih
    · simp only [bne_iff_ne, ne_eq, hj, not_false_eq_true, if_true, cellGet, ih]

/-- Every key of the list is above `b`. -/
theorem rising_cons (j : Nat) (w : α) (cs : List (Nat × α)) :
    rising ((j, w) :: cs) = true ↔ (∀ c ∈ cs, j < c.1) ∧ rising cs = true := by
  induction cs generalizing j w with
  | nil => simp [rising]
  | cons c cs ih =>
    obtain ⟨k, x⟩ := c
    simp only [rising, Bool.and_eq_true, decide_eq_true_eq, List.mem_cons, forall_eq_or_imp]
    constructor
    · rintro ⟨h, hr⟩
      exact ⟨⟨h, fun c hc => Nat.lt_trans h (((ih k x).1 hr).1 c hc)⟩, hr⟩
    · rintro ⟨⟨h, -⟩, hr⟩
      exact ⟨h, hr⟩

theorem mem_cellPut (cs : List (Nat × α)) (k : Nat) (v : α) (c : Nat × α) (h : c ∈ cellPut cs k v) : c = (k, v) ∨ c ∈ cs := by
  induction cs with
  | nil => simpa [cellPut] using h
  | cons x cs ih =>
    obtain ⟨j, w⟩ := x
    unfold cellPut at h
    by_cases hk : k < j
    · simpa [hk] using h
    · by_cases hj : j = k
      · subst hj
        simp only [hk, if_false, beq_self_eq_true, if_true, List.mem_cons] at h
        rcases h with h | h
        · exact .inl h
        · exact .inr (List.mem_cons_of_mem _ h)
      · simp only [hk, if_false, beq_iff_eq, hj, List.mem_cons] at h
        rcases h with h | h
        · exact .inr (by simp [h])
        · rcases ih h with h | h
          · exact .inl h
          · exact .inr (List.mem_cons_of_mem _ h)

/-- Setting a cell keeps the keys rising. -/
theorem rising_cellPut (cs : List (Nat × α)) (k : Nat) (v : α) (h : rising cs = true) : rising (cellPut cs k v) = true := by
  induction cs with
  | nil => simp [cellPut, rising]
  | cons x cs ih =>
    obtain ⟨j, w⟩ := x
    have hc := (rising_cons j w cs).1 h
    unfold cellPut
    by_cases hk : k < j
    · simp only [hk, if_true]
      exact (rising_cons k v _).2 ⟨by
        intro c hcm
        rcases List.mem_cons.1 hcm with rfl | hcm
        · exact hk
        · exact Nat.lt_trans hk (hc.1 c hcm), h⟩
    · by_cases hj : j = k
      · subst hj
        simp only [hk, if_false, beq_self_eq_true, if_true]
        exact (rising_cons j v cs).2 hc
      · simp only [hk, if_false, beq_iff_eq, hj]
        exact (rising_cons j w _).2 ⟨by
          intro c hcm
          rcases mem_cellPut cs k v c hcm with rfl | hcm
          · show j < k; omega
          · exact hc.1 c hcm, ih hc.2⟩

/-- Dropping a cell keeps the keys rising. -/
theorem rising_cellDrop (cs : List (Nat × α)) (k : Nat) (h : rising cs = true) : rising (cellDrop cs k) = true := by
  induction cs with
  | nil => simp [cellDrop, rising]
  | cons x cs ih =>
    obtain ⟨j, w⟩ := x
    have hc := (rising_cons j w cs).1 h
    simp only [cellDrop, List.filter_cons] at ih ⊢
    split
    · exact (rising_cons j w _).2 ⟨fun c hcm => hc.1 c (List.mem_filter.1 hcm).1, ih hc.2⟩
    · exact ih hc.2

/-! ### Objects -/

/-- What was written is read, at the object's width. -/
theorem readCells_write_same (cs : List (ObjKey × Pattern)) (i s : Nat) (v : Pattern) :
    readCells (writeCells cs i s v) i s = v % 2 ^ widthAt i s := by
  unfold readCells writeCells
  by_cases h : v % 2 ^ widthAt i s = defaultAt i s
  · simp [h]
  · simp [h]

/-- A write leaves every other object alone. -/
theorem readCells_write_other (cs : List (ObjKey × Pattern)) (i s i' s' : Nat) (v : Pattern) (h : keyOf i s ≠ keyOf i' s') :
    readCells (writeCells cs i s v) i' s' = readCells cs i' s' := by
  unfold readCells writeCells
  by_cases hd : v % 2 ^ widthAt i s = defaultAt i s
  · simp [hd, cellGet_drop_other _ _ _ h]
  · simp [hd, cellGet_put_other _ _ _ _ h]

/-- Canonical form: keys rising, and no cell that reads its default. -/
def objsWf (cs : List (ObjKey × Pattern)) : Bool := rising cs && cs.all fun c => c.2 != defaultAt (keyIndex c.1) (keySub c.1)

theorem keyIndex_keyOf (i s : Nat) (h : s < 256) : keyIndex (keyOf i s) = i := by unfold keyIndex keyOf; omega

theorem keySub_keyOf (i s : Nat) (h : s < 256) : keySub (keyOf i s) = s := by unfold keySub keyOf; omega

/-- Writing an object keeps the canonical form. -/
theorem objsWf_write (cs : List (ObjKey × Pattern)) (i s : Nat) (v : Pattern) (hs : s < 256) (h : objsWf cs = true) :
    objsWf (writeCells cs i s v) = true := by
  unfold objsWf at h ⊢
  simp only [Bool.and_eq_true, List.all_eq_true, bne_iff_ne, ne_eq] at h ⊢
  unfold writeCells
  by_cases hd : v % 2 ^ widthAt i s = defaultAt i s
  · simp only [hd, beq_self_eq_true, if_true]
    exact ⟨rising_cellDrop _ _ h.1, fun c hc => h.2 c (List.mem_filter.1 hc).1⟩
  · simp only [beq_iff_eq, hd, if_false]
    refine ⟨rising_cellPut _ _ _ h.1, fun c hc => ?_⟩
    rcases mem_cellPut _ _ _ _ hc with rfl | hc
    · simpa [keyIndex_keyOf i s hs, keySub_keyOf i s hs] using hd
    · exact h.2 c hc

end Sys2Proof.Machine
end

