-- ==== Sys2Proof/Laws/Dispatch.lean ====
section
/-! SUPPORT. What `exec` calls for each command, one equation per arm, so that no proof unfolds the whole dispatch. -/

namespace Sys2Proof.Machine

variable (s : State)

@[simp] theorem exec_girthFrameRx (side : LinkSide) (bytes : List Octet) : exec (.girthFrameRx side bytes) s = execGirthFrameRx side bytes s := rfl
@[simp] theorem exec_girthIdleTimer (side : LinkSide) : exec (.girthIdleTimer side) s = execGirthIdleTimer side s := rfl
@[simp] theorem exec_girthAckTimeout (side : LinkSide) : exec (.girthAckTimeout side) s = execGirthAckTimeout side s := rfl
@[simp] theorem exec_girthRxSilence (side : LinkSide) : exec (.girthRxSilence side) s = execGirthRxSilence side s := rfl
@[simp] theorem exec_girthRestartTimer (side : LinkSide) : exec (.girthRestartTimer side) s = execGirthRestartTimer side s := rfl
@[simp] theorem exec_girthRestartFrameRx (side : LinkSide) (bytes : List Octet) : exec (.girthRestartFrameRx side bytes) s = execGirthRestartFrameRx side bytes s := rfl
@[simp] theorem exec_pacerStrobe : exec (.pacerStrobe) s = execPacerStrobe s := rfl
@[simp] theorem exec_strobeLost : exec (.strobeLost) s = execStrobeLost s := rfl
@[simp] theorem exec_lockstep : exec (.lockstep) s = execLockstep s := rfl
@[simp] theorem exec_teamsterRestarted : exec (.teamsterRestarted) s = execTeamsterRestarted s := rfl
@[simp] theorem exec_handshakeStall (source channel : Nat) : exec (.handshakeStall source channel) s = execHandshakeStall source channel s := rfl
@[simp] theorem exec_delayLineSwap (taps : Nat) (fits : Bool) : exec (.delayLineSwap taps fits) s = execDelayLineSwap taps fits s := rfl
@[simp] theorem exec_xtalLost : exec (.xtalLost) s = execXtalLost s := rfl
@[simp] theorem exec_pacSourceWrite (rq : Requester) (value : Nat) : exec (.pacSourceWrite rq value) s = execPacSourceWrite rq value s := rfl
@[simp] theorem exec_paceRequest (rq : Requester) (value : Nat) : exec (.paceRequest rq value) s = execPaceRequest rq value s := rfl
@[simp] theorem exec_paceChangeDone : exec (.paceChangeDone) s = execPaceChangeDone s := rfl
@[simp] theorem exec_paceFail : exec (.paceFail) s = execPaceFail s := rfl
@[simp] theorem exec_baseCommit (rq : Requester) (n : Fin 8) : exec (.baseCommit rq n) s = execBaseCommit rq n s := rfl
@[simp] theorem exec_stagedDiscard (rq : Requester) (block : Block) : exec (.stagedDiscard rq block) s = execStagedDiscard rq block s := rfl
@[simp] theorem exec_satClear (rq : Requester) (n : Fin 8) : exec (.satClear rq n) s = execSatClear rq n s := rfl
@[simp] theorem exec_read (rq : Requester) (key : ObjKey) (staged : Bool) : exec (.read rq key staged) s = execRead rq key staged s := rfl
@[simp] theorem exec_write (rq : Requester) (key : ObjKey) (bytes : List Octet) : exec (.write rq key bytes) s = execWrite rq key bytes s := rfl
@[simp] theorem exec_describe (rq : Requester) (key : ObjKey) : exec (.describe rq key) s = execDescribe rq key s := rfl
@[simp] theorem exec_readMulti (rq : Requester) (keys : List ObjKey) : exec (.readMulti rq keys) s = execReadMulti rq keys s := rfl
@[simp] theorem exec_writeMulti (rq : Requester) (entries : List WriteEntry) (late : Option Nat) : exec (.writeMulti rq entries late) s = execWriteMulti rq entries late s := rfl
@[simp] theorem exec_segWriteStart (rq : Requester) (key : ObjKey) (first count length crc : Nat) : exec (.segWriteStart rq key first count length crc) s = execSegWriteStart rq key first count length crc s := rfl
@[simp] theorem exec_segWriteData (rq : Requester) (offset : Nat) (bytes : List Octet) : exec (.segWriteData rq offset bytes) s = execSegWriteData rq offset bytes s := rfl
@[simp] theorem exec_segReadStart (rq : Requester) (key : ObjKey) (first count : Nat) : exec (.segReadStart rq key first count) s = execSegReadStart rq key first count s := rfl
@[simp] theorem exec_segReadData (rq : Requester) (offset length : Nat) : exec (.segReadData rq offset length) s = execSegReadData rq offset length s := rfl
@[simp] theorem exec_segTransferTimeout (rq : Requester) : exec (.segTransferTimeout rq) s = execSegTransferTimeout rq s := rfl
@[simp] theorem exec_openSession (rq : Requester) (role slot : Nat) : exec (.openSession rq role slot) s = execOpenSession rq role slot s := rfl
@[simp] theorem exec_prove (rq : Requester) (dest : Nat) (body : List Octet) : exec (.prove rq dest body) s = execProve rq dest body s := rfl
@[simp] theorem exec_closeSession (rq : Requester) : exec (.closeSession rq) s = execCloseSession rq s := rfl
@[simp] theorem exec_sessionIdleTimeout (session : Nat) : exec (.sessionIdleTimeout session) s = execSessionIdleTimeout session s := rfl
@[simp] theorem exec_proofTimeout (session : Nat) : exec (.proofTimeout session) s = execProofTimeout session s := rfl
@[simp] theorem exec_lockoutExpire (node : Nat) : exec (.lockoutExpire node) s = execLockoutExpire node s := rfl
@[simp] theorem exec_receipt (rq : Requester) (nonce : List Octet) (mask : Octet) : exec (.receipt rq nonce mask) s = execReceipt rq nonce mask s := rfl
@[simp] theorem exec_assign (rq : Requester) (serial node : Nat) : exec (.assign rq serial node) s = execAssign rq serial node s := rfl
@[simp] theorem exec_discover (rq : Requester) : exec (.discover rq) s = execDiscover rq s := rfl
@[simp] theorem exec_stoPost (rq : Requester) : exec (.stoPost rq) s = execStoPost rq s := rfl
@[simp] theorem exec_postComplete (micros : Nat) (failed : Option Nat) : exec (.postComplete micros failed) s = execPostComplete micros failed s := rfl
@[simp] theorem exec_restoreDefaults (rq : Requester) : exec (.restoreDefaults rq) s = execRestoreDefaults rq s := rfl
@[simp] theorem exec_vbatStart (mv : Nat) : exec (.vbatStart mv) s = execVbatStart mv s := rfl
@[simp] theorem exec_vbatAbsent (mv : Nat) : exec (.vbatAbsent mv) s = execVbatAbsent mv s := rfl
@[simp] theorem exec_brownOutWarn (mv : Nat) : exec (.brownOutWarn mv) s = execBrownOutWarn mv s := rfl
@[simp] theorem exec_brownOutClear (mv : Nat) : exec (.brownOutClear mv) s = execBrownOutClear mv s := rfl
@[simp] theorem exec_vbatUv (mv : Nat) : exec (.vbatUv mv) s = execVbatUv mv s := rfl
@[simp] theorem exec_powerLossEnd : exec (.powerLossEnd) s = execPowerLossEnd s := rfl
@[simp] theorem exec_vbatOv (mv : Nat) : exec (.vbatOv mv) s = execVbatOv mv s := rfl
@[simp] theorem exec_vbatOvClear (mv : Nat) : exec (.vbatOvClear mv) s = execVbatOvClear mv s := rfl
@[simp] theorem exec_vgdUv (mv : Nat) : exec (.vgdUv mv) s = execVgdUv mv s := rfl
@[simp] theorem exec_vcc5Uv (mv : Nat) : exec (.vcc5Uv mv) s = execVcc5Uv mv s := rfl
@[simp] theorem exec_vioUv (mv : Nat) : exec (.vioUv mv) s = execVioUv mv s := rfl
@[simp] theorem exec_vholdReady (mv : Nat) (riseUs : Option Nat) : exec (.vholdReady mv riseUs) s = execVholdReady mv riseUs s := rfl
@[simp] theorem exec_vholdReadyTimeout : exec (.vholdReadyTimeout) s = execVholdReadyTimeout s := rfl
@[simp] theorem exec_vholdMinimum : exec (.vholdMinimum) s = execVholdMinimum s := rfl
@[simp] theorem exec_nrstLow (widthNs : Nat) : exec (.nrstLow widthNs) s = execNrstLow widthNs s := rfl
@[simp] theorem exec_softwareReset (rq : Requester) : exec (.softwareReset rq) s = execSoftwareReset rq s := rfl
@[simp] theorem exec_resetRelease (vbat vio vgd vcc5 vhold bootUs selfTest : Nat) : exec (.resetRelease vbat vio vgd vcc5 vhold bootUs selfTest) s = execResetRelease vbat vio vgd vcc5 vhold bootUs selfTest s := rfl
@[simp] theorem exec_crystalStable : exec (.crystalStable) s = execCrystalStable s := rfl
@[simp] theorem exec_serviceModeEnter (vio : Nat) : exec (.serviceModeEnter vio) s = execServiceModeEnter vio s := rfl
@[simp] theorem exec_serviceExit : exec (.serviceExit) s = execServiceExit s := rfl
@[simp] theorem exec_trialConfirm : exec (.trialConfirm) s = execTrialConfirm s := rfl
@[simp] theorem exec_bootBankPrefWrite (rq : Requester) (bank : Nat) : exec (.bootBankPrefWrite rq bank) s = execBootBankPrefWrite rq bank s := rfl
@[simp] theorem exec_checkpointTimer : exec (.checkpointTimer) s = execCheckpointTimer s := rfl
@[simp] theorem exec_sleepEnter (rq : Requester) : exec (.sleepEnter rq) s = execSleepEnter rq s := rfl
@[simp] theorem exec_wakeEvent (source : WakeSource) : exec (.wakeEvent source) s = execWakeEvent source s := rfl
@[simp] theorem exec_wakeTimer : exec (.wakeTimer) s = execWakeTimer s := rfl
@[simp] theorem exec_otpProgram (rq : Requester) : exec (.otpProgram rq) s = execOtpProgram rq s := rfl
@[simp] theorem exec_otpSeal (rq : Requester) : exec (.otpSeal rq) s = execOtpSeal rq s := rfl
@[simp] theorem exec_otpLock (rq : Requester) : exec (.otpLock rq) s = execOtpLock rq s := rfl
@[simp] theorem exec_otpLockVoid (rq : Requester) : exec (.otpLockVoid rq) s = execOtpLockVoid rq s := rfl
@[simp] theorem exec_otpCommandDone (weak missing : Nat) : exec (.otpCommandDone weak missing) s = execOtpCommandDone weak missing s := rfl
@[simp] theorem exec_calRecordWrite (rq : Requester) (bytes : List Octet) : exec (.calRecordWrite rq bytes) s = execCalRecordWrite rq bytes s := rfl
@[simp] theorem exec_hitchCommit (rq : Requester) : exec (.hitchCommit rq) s = execHitchCommit rq s := rfl
@[simp] theorem exec_monitorsOn : exec (.monitorsOn) s = execMonitorsOn s := rfl
@[simp] theorem exec_gateFault (leg : Fin 24) (high toOff : Bool) : exec (.gateFault leg high toOff) s = execGateFault leg high toOff s := rfl
@[simp] theorem exec_bstUv (leg : Fin 24) : exec (.bstUv leg) s = execBstUv leg s := rfl
@[simp] theorem exec_bstUvRelease (leg : Fin 24) : exec (.bstUvRelease leg) s = execBstUvRelease leg s := rfl
@[simp] theorem exec_vgdLow (vgdMv vbatMv : Nat) : exec (.vgdLow vgdMv vbatMv) s = execVgdLow vgdMv vbatMv s := rfl
@[simp] theorem exec_guardDelayEnd (leg : Fin 24) (high : Bool) : exec (.guardDelayEnd leg high) s = execGuardDelayEnd leg high s := rfl
@[simp] theorem exec_tripLowTurnOn (leg : Fin 24) : exec (.tripLowTurnOn leg) s = execTripLowTurnOn leg s := rfl
@[simp] theorem exec_vdsAction (seen : LegSeen) (high : Bool) : exec (.vdsAction seen high) s = execVdsAction seen high s := rfl
@[simp] theorem exec_overcurrent (seen : LegSeen) : exec (.overcurrent seen) s = execOvercurrent seen s := rfl
@[simp] theorem exec_tripPin (pinB : Bool) (widthNs : Nat) : exec (.tripPin pinB widthNs) s = execTripPin pinB widthNs s := rfl
@[simp] theorem exec_hobbleCmdWrite (rq : Requester) (value : Nat) : exec (.hobbleCmdWrite rq value) s = execHobbleCmdWrite rq value s := rfl
@[simp] theorem exec_tripClear (rq : Requester) (mask : Nat) : exec (.tripClear rq mask) s = execTripClear rq mask s := rfl
@[simp] theorem exec_tripQualEnd (source : Nat) (leg : Fin 24) : exec (.tripQualEnd source leg) s = execTripQualEnd source leg s := rfl
@[simp] theorem exec_edpCommit (rq : Requester) (n : Fin 8) : exec (.edpCommit rq n) s = execEdpCommit rq n s := rfl
@[simp] theorem exec_setPosted (n : Fin 8) (fine : Fin 32) : exec (.setPosted n fine) s = execSetPosted n fine s := rfl
@[simp] theorem exec_periodDecided (n : Fin 8) : exec (.periodDecided n) s = execPeriodDecided n s := rfl
@[simp] theorem exec_firstPeriodStart (n : Fin 8) : exec (.firstPeriodStart n) s = execFirstPeriodStart n s := rfl
@[simp] theorem exec_eventFire (n : Fin 8) (quarter : Fin 4) (eighth : Fin 8) : exec (.eventFire n quarter eighth) s = execEventFire n quarter eighth s := rfl
@[simp] theorem exec_sliceConversionDone (done : SliceEnd) (raw : Int) (parityOk : Bool) (mv : Nat) : exec (.sliceConversionDone done raw parityOk mv) s = execSliceConversionDone done raw parityOk mv s := rfl
@[simp] theorem exec_monitorConversionOwed : exec (.monitorConversionOwed) s = execMonitorConversionOwed s := rfl
@[simp] theorem exec_dropped (n : Fin 8) : exec (.dropped n) s = execDropped n s := rfl
@[simp] theorem exec_equalisationDue (slice : Fin 8) (trim : Int) (checkOk : Bool) : exec (.equalisationDue slice trim checkOk) s = execEqualisationDue slice trim checkOk s := rfl
@[simp] theorem exec_csCommonMode (leg : Fin 24) (outside : Bool) : exec (.csCommonMode leg outside) s = execCsCommonMode leg outside s := rfl
@[simp] theorem exec_ilArm (rq : Requester) : exec (.ilArm rq) s = execIlArm rq s := rfl
@[simp] theorem exec_ilAbort (rq : Requester) : exec (.ilAbort rq) s = execIlAbort rq s := rfl
@[simp] theorem exec_ilBurstDone (raws : List SliceResult) : exec (.ilBurstDone raws) s = execIlBurstDone raws s := rfl
@[simp] theorem exec_calZero (rq : Requester) : exec (.calZero rq) s = execCalZero rq s := rfl
@[simp] theorem exec_calFull (rq : Requester) : exec (.calFull rq) s = execCalFull rq s := rfl
@[simp] theorem exec_calApply (rq : Requester) : exec (.calApply rq) s = execCalApply rq s := rfl
@[simp] theorem exec_calMeasureDone : exec (.calMeasureDone) s = execCalMeasureDone s := rfl
@[simp] theorem exec_cnvFeCommit (rq : Requester) : exec (.cnvFeCommit rq) s = execCnvFeCommit rq s := rfl
@[simp] theorem exec_ceCommit (rq : Requester) (n : Fin 8) : exec (.ceCommit rq n) s = execCeCommit rq n s := rfl
@[simp] theorem exec_bankWriteDone (n : Fin 8) : exec (.bankWriteDone n) s = execBankWriteDone n s := rfl
@[simp] theorem exec_bankSelWrite (rq : Requester) (n : Fin 8) (bank : Nat) : exec (.bankSelWrite rq n bank) s = execBankSelWrite rq n bank s := rfl
@[simp] theorem exec_slotComputationDone (n : Fin 8) (slot : Fin 6) : exec (.slotComputationDone n slot) s = execSlotComputationDone n slot s := rfl
@[simp] theorem exec_pendingComputationDone (n : Fin 8) : exec (.pendingComputationDone n) s = execPendingComputationDone n s := rfl
@[simp] theorem exec_fullComputationDone (n : Fin 8) : exec (.fullComputationDone n) s = execFullComputationDone n s := rfl
@[simp] theorem exec_hitRateUpdate (n : Fin 8) : exec (.hitRateUpdate n) s = execHitRateUpdate n s := rfl
@[simp] theorem exec_hallEdge (n : Fin 8) (u v w : Bool) : exec (.hallEdge n u v w) s = execHallEdge n u v w s := rfl
@[simp] theorem exec_hallTimeout (n : Fin 8) : exec (.hallTimeout n) s = execHallTimeout n s := rfl
@[simp] theorem exec_encoderEdge (n : Fin 8) (ab : Quadrature) (index : Bool) : exec (.encoderEdge n ab index) s = execEncoderEdge n ab index s := rfl
@[simp] theorem exec_axFeCommit (rq : Requester) (n : Fin 8) : exec (.axFeCommit rq n) s = execAxFeCommit rq n s := rfl
@[simp] theorem exec_stStart (rq : Requester) (n : Fin 8) : exec (.stStart rq n) s = execStStart rq n s := rfl
@[simp] theorem exec_stStop (rq : Requester) (n : Fin 8) : exec (.stStop rq n) s = execStStop rq n s := rfl
@[simp] theorem exec_catchWindowEnd (n : Fin 8) : exec (.catchWindowEnd n) s = execCatchWindowEnd n s := rfl
@[simp] theorem exec_dwellEnd (n : Fin 8) : exec (.dwellEnd n) s = execDwellEnd n s := rfl
@[simp] theorem exec_alignEnd (n : Fin 8) : exec (.alignEnd n) s = execAlignEnd n s := rfl
@[simp] theorem exec_pulseSequenceDone (n : Fin 8) : exec (.pulseSequenceDone n) s = execPulseSequenceDone n s := rfl
@[simp] theorem exec_handoverWaitExpire (n : Fin 8) : exec (.handoverWaitExpire n) s = execHandoverWaitExpire n s := rfl
@[simp] theorem exec_attemptPauseEnd (n : Fin 8) : exec (.attemptPauseEnd n) s = execAttemptPauseEnd n s := rfl
@[simp] theorem exec_lockedRotor (n : Fin 8) : exec (.lockedRotor n) s = execLockedRotor n s := rfl
@[simp] theorem exec_stCommit (rq : Requester) (n : Fin 8) : exec (.stCommit rq n) s = execStCommit rq n s := rfl
@[simp] theorem exec_stepTick : exec (.stepTick) s = execStepTick s := rfl
@[simp] theorem exec_profileTick : exec (.profileTick) s = execProfileTick s := rfl
@[simp] theorem exec_push (rq : Requester) (n : Fin 8) : exec (.push rq n) s = execPush rq n s := rfl
@[simp] theorem exec_flush (rq : Requester) (n : Fin 8) : exec (.flush rq n) s = execFlush rq n s := rfl
@[simp] theorem exec_quickStop (rq : Requester) (n : Fin 8) : exec (.quickStop rq n) s = execQuickStop rq n s := rfl
@[simp] theorem exec_homeCmd (rq : Requester) (n : Fin 8) : exec (.homeCmd rq n) s = execHomeCmd rq n s := rfl
@[simp] theorem exec_homePinEdge (n : Fin 8) (level : Bool) (steps : Nat) : exec (.homePinEdge n level steps) s = execHomePinEdge n level steps s := rfl
@[simp] theorem exec_standstillCheckpointDone (n : Fin 8) : exec (.standstillCheckpointDone n) s = execStandstillCheckpointDone n s := rfl
@[simp] theorem exec_holdDelayEnd (n : Fin 8) : exec (.holdDelayEnd n) s = execHoldDelayEnd n s := rfl
@[simp] theorem exec_moveDwellEnd (n : Fin 8) : exec (.moveDwellEnd n) s = execMoveDwellEnd n s := rfl
@[simp] theorem exec_prfCommit (rq : Requester) (n : Fin 8) : exec (.prfCommit rq n) s = execPrfCommit rq n s := rfl
@[simp] theorem exec_intCommit (rq : Requester) : exec (.intCommit rq) s = execIntCommit rq s := rfl
@[simp] theorem exec_intPush (rq : Requester) : exec (.intPush rq) s = execIntPush rq s := rfl
@[simp] theorem exec_intFlush (rq : Requester) : exec (.intFlush rq) s = execIntFlush rq s := rfl
@[simp] theorem exec_intQuickStop (rq : Requester) : exec (.intQuickStop rq) s = execIntQuickStop rq s := rfl
@[simp] theorem exec_svcCommit (rq : Requester) : exec (.svcCommit rq) s = execSvcCommit rq s := rfl
@[simp] theorem exec_runCmd (rq : Requester) (n : Fin 8) : exec (.runCmd rq n) s = execRunCmd rq n s := rfl
@[simp] theorem exec_stopCmd (rq : Requester) (n : Fin 8) : exec (.stopCmd rq n) s = execStopCmd rq n s := rfl
@[simp] theorem exec_serviceTick : exec (.serviceTick) s = execServiceTick s := rfl
@[simp] theorem exec_dryDetected (n : Fin 8) : exec (.dryDetected n) s = execDryDetected n s := rfl
@[simp] theorem exec_airlockPhaseEnd (n : Fin 8) : exec (.airlockPhaseEnd n) s = execAirlockPhaseEnd n s := rfl
@[simp] theorem exec_dryWaitEnd (n : Fin 8) : exec (.dryWaitEnd n) s = execDryWaitEnd n s := rfl
@[simp] theorem exec_blockWaitEnd (n : Fin 8) : exec (.blockWaitEnd n) s = execBlockWaitEnd n s := rfl
@[simp] theorem exec_jog (rq : Requester) (k : Fin 4) (positive : Bool) : exec (.jog rq k positive) s = execJog rq k positive s := rfl
@[simp] theorem exec_seatStop (rq : Requester) : exec (.seatStop rq) s = execSeatStop rq s := rfl
@[simp] theorem exec_recall (rq : Requester) (m : Fin 4) : exec (.recall rq m) s = execRecall rq m s := rfl
@[simp] theorem exec_storeCmd (rq : Requester) (m : Fin 4) : exec (.storeCmd rq m) s = execStoreCmd rq m s := rfl
@[simp] theorem exec_calibrate (rq : Requester) (k : Fin 4) : exec (.calibrate rq k) s = execCalibrate rq k s := rfl
@[simp] theorem exec_pinch (k : Fin 4) : exec (.pinch k) s = execPinch k s := rfl
@[simp] theorem exec_seatEndStop : exec (.seatEndStop) s = execSeatEndStop s := rfl
@[simp] theorem exec_tempSourceLost (n : Fin 8) : exec (.tempSourceLost n) s = execTempSourceLost n s := rfl
@[simp] theorem exec_tempSourceValid (n : Fin 8) : exec (.tempSourceValid n) s = execTempSourceValid n s := rfl
@[simp] theorem exec_reinEdge (r : Fin 8) (level : Bool) (ago : Nat) : exec (.reinEdge r level ago) s = execReinEdge r level ago s := rfl
@[simp] theorem exec_reinTimeout (r : Fin 8) : exec (.reinTimeout r) s = execReinTimeout r s := rfl
@[simp] theorem exec_reinFailsafe (r : Fin 8) : exec (.reinFailsafe r) s = execReinFailsafe r s := rfl
@[simp] theorem exec_reinCommit (rq : Requester) : exec (.reinCommit rq) s = execReinCommit rq s := rfl
@[simp] theorem exec_thermalReading (sensor : Fin 18) (made clip selfTestOk : Bool) (value : Int) : exec (.thermalReading sensor made clip selfTestOk value) s = execThermalReading sensor made clip selfTestOk value s := rfl
@[simp] theorem exec_riseRateUpdate : exec (.riseRateUpdate) s = execRiseRateUpdate s := rfl
@[simp] theorem exec_fastSamplingExit (sensor : Fin 18) : exec (.fastSamplingExit sensor) s = execFastSamplingExit sensor s := rfl
@[simp] theorem exec_sensorRecovered (sensor : Fin 18) : exec (.sensorRecovered sensor) s = execSensorRecovered sensor s := rfl
@[simp] theorem exec_thmCommit (rq : Requester) : exec (.thmCommit rq) s = execThmCommit rq s := rfl
@[simp] theorem exec_faultIntake (arriving : List Nat) (health : Nat) : exec (.faultIntake arriving health) s = execFaultIntake arriving health s := rfl
@[simp] theorem exec_handleEscalation (message : Nat) : exec (.handleEscalation message) s = execHandleEscalation message s := rfl
@[simp] theorem exec_tlyAck (rq : Requester) (message : Nat) : exec (.tlyAck rq message) s = execTlyAck rq message s := rfl
@[simp] theorem exec_enable (rq : Requester) (n : Fin 8) : exec (.enable rq n) s = execEnable rq n s := rfl
@[simp] theorem exec_disable (rq : Requester) (n : Fin 8) : exec (.disable rq n) s = execDisable rq n s := rfl
@[simp] theorem exec_safeRelease (rq : Requester) : exec (.safeRelease rq) s = execSafeRelease rq s := rfl
@[simp] theorem exec_errnRelease (rq : Requester) : exec (.errnRelease rq) s = execErrnRelease rq s := rfl
@[simp] theorem exec_errTimeExpire : exec (.errTimeExpire) s = execErrTimeExpire s := rfl
@[simp] theorem exec_firstClear (rq : Requester) : exec (.firstClear rq) s = execFirstClear rq s := rfl
@[simp] theorem exec_tlyInject (rq : Requester) (message : Nat) : exec (.tlyInject rq message) s = execTlyInject rq message s := rfl
@[simp] theorem exec_logRecordWritten (ok : Bool) : exec (.logRecordWritten ok) s = execLogRecordWritten ok s := rfl
@[simp] theorem exec_timerSelfCheck (ok : Bool) : exec (.timerSelfCheck ok) s = execTimerSelfCheck ok s := rfl
@[simp] theorem exec_scan (rq : Requester) : exec (.scan rq) s = execScan rq s := rfl
@[simp] theorem exec_continueCmd (rq : Requester) : exec (.continueCmd rq) s = execContinueCmd rq s := rfl
@[simp] theorem exec_scanCompare (rq : Requester) : exec (.scanCompare rq) s = execScanCompare rq s := rfl
@[simp] theorem exec_abortCmd (rq : Requester) : exec (.abortCmd rq) s = execAbortCmd rq s := rfl
@[simp] theorem exec_scanDone : exec (.scanDone) s = execScanDone s := rfl
@[simp] theorem exec_asyFeed (rq : Requester) (bytes : List Octet) : exec (.asyFeed rq bytes) s = execAsyFeed rq bytes s := rfl
@[simp] theorem exec_asyRestart (rq : Requester) : exec (.asyRestart rq) s = execAsyRestart rq s := rfl
@[simp] theorem exec_asyPreset (rq : Requester) (preset : Nat) : exec (.asyPreset rq preset) s = execAsyPreset rq preset s := rfl
@[simp] theorem exec_asyParamWrite (rq : Requester) (param : Fin 5) (value : Nat) : exec (.asyParamWrite rq param value) s = execAsyParamWrite rq param value s := rfl
@[simp] theorem exec_assaySelfTest (wrong : Fin 16) : exec (.assaySelfTest wrong) s = execAssaySelfTest wrong s := rfl
@[simp] theorem exec_fwScanTimer : exec (.fwScanTimer) s = execFwScanTimer s := rfl
@[simp] theorem exec_datagramDispatch : exec (.datagramDispatch) s = execDatagramDispatch s := rfl
@[simp] theorem exec_canFrameRx (id : Nat) (payload : List Octet) (supported : Bool) (ago : Nat) : exec (.canFrameRx id payload supported ago) s = execCanFrameRx id payload supported ago s := rfl
@[simp] theorem exec_reassemblyTimeout (src : Nat) : exec (.reassemblyTimeout src) s = execReassemblyTimeout src s := rfl
@[simp] theorem exec_busOff : exec (.busOff) s = execBusOff s := rfl
@[simp] theorem exec_udpDatagramRx (peer : Nat) (bytes : List Octet) (checksumOk : Bool) : exec (.udpDatagramRx peer bytes checksumOk) s = execUdpDatagramRx peer bytes checksumOk s := rfl
@[simp] theorem exec_linRequestRx (nad : Nat) (bytes : List Octet) : exec (.linRequestRx nad bytes) s = execLinRequestRx nad bytes s := rfl
@[simp] theorem exec_spiWrite (bytes : List Octet) : exec (.spiWrite bytes) s = execSpiWrite bytes s := rfl
@[simp] theorem exec_spiRead (complete : Bool) : exec (.spiRead complete) s = execSpiRead complete s := rfl
@[simp] theorem exec_spiStatus : exec (.spiStatus) s = execSpiStatus s := rfl
@[simp] theorem exec_notifyTimer (k : Fin 8) : exec (.notifyTimer k) s = execNotifyTimer k s := rfl
@[simp] theorem exec_syncMasterTimer : exec (.syncMasterTimer) s = execSyncMasterTimer s := rfl
@[simp] theorem exec_sync (src seq fresh : Nat) (macOk : Bool) (ago : Nat) : exec (.sync src seq fresh macOk ago) s = execSync src seq fresh macOk ago s := rfl
@[simp] theorem exec_followUp (src seq time fresh : Nat) (macOk : Bool) : exec (.followUp src seq time fresh macOk) s = execFollowUp src seq time fresh macOk s := rfl
@[simp] theorem exec_gptpSyncRx (domain ns ago : Nat) : exec (.gptpSyncRx domain ns ago) s = execGptpSyncRx domain ns ago s := rfl
@[simp] theorem exec_syncLost : exec (.syncLost) s = execSyncLost s := rfl
@[simp] theorem exec_plcaLost : exec (.plcaLost) s = execPlcaLost s := rfl
@[simp] theorem exec_e2eContextTimeout (src dest : Nat) : exec (.e2eContextTimeout src dest) s = execE2eContextTimeout src dest s := rfl
@[simp] theorem exec_netCommit (rq : Requester) : exec (.netCommit rq) s = execNetCommit rq s := rfl
@[simp] theorem exec_provision (rq : Requester) : exec (.provision rq) s = execProvision rq s := rfl
@[simp] theorem exec_fieldCmd (rq : Requester) : exec (.fieldCmd rq) s = execFieldCmd rq s := rfl
@[simp] theorem exec_retire (rq : Requester) : exec (.retire rq) s = execRetire rq s := rfl
@[simp] theorem exec_rootKeyWrite (rq : Requester) (bytes : List Octet) : exec (.rootKeyWrite rq bytes) s = execRootKeyWrite rq bytes s := rfl
@[simp] theorem exec_keyImport (rq : Requester) (bytes : List Octet) : exec (.keyImport rq bytes) s = execKeyImport rq bytes s := rfl
@[simp] theorem exec_keyDelete (rq : Requester) (slot : Nat) : exec (.keyDelete rq slot) s = execKeyDelete rq slot s := rfl
@[simp] theorem exec_mrExtend (rq : Requester) (bytes : List Octet) : exec (.mrExtend rq bytes) s = execMrExtend rq bytes s := rfl
@[simp] theorem exec_tamperAlarm (sensor : Fin 6) : exec (.tamperAlarm sensor) s = execTamperAlarm sensor s := rfl
@[simp] theorem exec_selfTestFail (code : Nat) : exec (.selfTestFail code) s = execSelfTestFail code s := rfl
@[simp] theorem exec_updStart (rq : Requester) : exec (.updStart rq) s = execUpdStart rq s := rfl
@[simp] theorem exec_updBlock (rq : Requester) (offset : Nat) (words : List Nat) : exec (.updBlock rq offset words) s = execUpdBlock rq offset words s := rfl
@[simp] theorem exec_verify (rq : Requester) : exec (.verify rq) s = execVerify rq s := rfl
@[simp] theorem exec_verifyDone : exec (.verifyDone) s = execVerifyDone s := rfl
@[simp] theorem exec_activate (rq : Requester) : exec (.activate rq) s = execActivate rq s := rfl
@[simp] theorem exec_updAbort (rq : Requester) : exec (.updAbort rq) s = execUpdAbort rq s := rfl
@[simp] theorem exec_updateTimeout : exec (.updateTimeout) s = execUpdateTimeout s := rfl
@[simp] theorem exec_rollbackAdvance : exec (.rollbackAdvance) s = execRollbackAdvance s := rfl
@[simp] theorem exec_farrierToken (rq : Requester) (bytes : List Octet) : exec (.farrierToken rq bytes) s = execFarrierToken rq bytes s := rfl
@[simp] theorem exec_gateCommandEdge (n : Fin 8) (clear : Bool) : exec (.gateCommandEdge n clear) s = execGateCommandEdge n clear s := rfl
@[simp] theorem exec_busOffRecovery : exec (.busOffRecovery) s = execBusOffRecovery s := rfl
@[simp] theorem exec_plcaRestored : exec (.plcaRestored) s = execPlcaRestored s := rfl
@[simp] theorem exec_transmitterDominantTimeout (lin : Bool) : exec (.transmitterDominantTimeout lin) s = execTransmitterDominantTimeout lin s := rfl
@[simp] theorem exec_linResponseHeaderRx : exec (.linResponseHeaderRx) s = execLinResponseHeaderRx s := rfl
@[simp] theorem exec_ethernetFrameRx (kind : EthKind) (forUs : Bool) : exec (.ethernetFrameRx kind forUs) s = execEthernetFrameRx kind forUs s := rfl
@[simp] theorem exec_vgdUvClear (mv : Nat) : exec (.vgdUvClear mv) s = execVgdUvClear mv s := rfl
@[simp] theorem exec_vcc5UvClear (mv : Nat) : exec (.vcc5UvClear mv) s = execVcc5UvClear mv s := rfl
@[simp] theorem exec_reinFailsafeExit (r : Fin 8) : exec (.reinFailsafeExit r) s = execReinFailsafeExit r s := rfl
@[simp] theorem exec_vgdLowEpisodeEnd (vgdMv : Nat) : exec (.vgdLowEpisodeEnd vgdMv) s = execVgdLowEpisodeEnd vgdMv s := rfl

end Sys2Proof.Machine
end

