-- ==== Sys2Proof/Laws/State.lean ====
section
/-! SUPPORT. What each named update of the device leaves alone, field by field, and how objects are read after it. Reading is brought to `readCells` over the object list, so that an update of any other field disappears. -/

namespace Sys2Proof.Machine

variable (d : Device)

/-! ### Objects -/

@[simp] theorem Device.wr_tabs (i s : Nat) (v : Pattern) : (d.wr i s v).tabs = d.tabs := rfl
@[simp] theorem Device.wr_girth (i s : Nat) (v : Pattern) : (d.wr i s v).girth = d.girth := rfl
@[simp] theorem Device.wr_supply (i s : Nat) (v : Pattern) : (d.wr i s v).supply = d.supply := rfl
@[simp] theorem Device.wr_boot (i s : Nat) (v : Pattern) : (d.wr i s v).boot = d.boot := rfl
@[simp] theorem Device.wr_otp (i s : Nat) (v : Pattern) : (d.wr i s v).otp = d.otp := rfl
@[simp] theorem Device.wr_ledger (i s : Nat) (v : Pattern) : (d.wr i s v).ledger = d.ledger := rfl
@[simp] theorem Device.wr_gda (i s : Nat) (v : Pattern) : (d.wr i s v).gda = d.gda := rfl
@[simp] theorem Device.wr_edp (i s : Nat) (v : Pattern) : (d.wr i s v).edp = d.edp := rfl
@[simp] theorem Device.wr_cnv (i s : Nat) (v : Pattern) : (d.wr i s v).cnv = d.cnv := rfl
@[simp] theorem Device.wr_eng (i s : Nat) (v : Pattern) : (d.wr i s v).eng = d.eng := rfl
@[simp] theorem Device.wr_interp (i s : Nat) (v : Pattern) : (d.wr i s v).interp = d.interp := rfl
@[simp] theorem Device.wr_svc (i s : Nat) (v : Pattern) : (d.wr i s v).svc = d.svc := rfl
@[simp] theorem Device.wr_seat (i s : Nat) (v : Pattern) : (d.wr i s v).seat = d.seat := rfl
@[simp] theorem Device.wr_extAge (i s : Nat) (v : Pattern) : (d.wr i s v).extAge = d.extAge := rfl
@[simp] theorem Device.wr_rein (i s : Nat) (v : Pattern) : (d.wr i s v).rein = d.rein := rfl
@[simp] theorem Device.wr_thm (i s : Nat) (v : Pattern) : (d.wr i s v).thm = d.thm := rfl
@[simp] theorem Device.wr_tally (i s : Nat) (v : Pattern) : (d.wr i s v).tally = d.tally := rfl
@[simp] theorem Device.wr_asy (i s : Nat) (v : Pattern) : (d.wr i s v).asy = d.asy := rfl
@[simp] theorem Device.wr_server (i s : Nat) (v : Pattern) : (d.wr i s v).server = d.server := rfl
@[simp] theorem Device.wr_net (i s : Nat) (v : Pattern) : (d.wr i s v).net = d.net := rfl
@[simp] theorem Device.wr_vault (i s : Nat) (v : Pattern) : (d.wr i s v).vault = d.vault := rfl
@[simp] theorem Device.wr_fresh (i s : Nat) (v : Pattern) : (d.wr i s v).fresh = d.fresh := rfl
@[simp] theorem Device.wr_objs (i s : Nat) (v : Pattern) : (d.wr i s v).objs = writeCells d.objs i s v := rfl

@[simp] theorem Device.setTab_objs (i s : Nat) (v : List Nat) : (d.setTab i s v).objs = d.objs := rfl
@[simp] theorem Device.setTab_girth (i s : Nat) (v : List Nat) : (d.setTab i s v).girth = d.girth := rfl
@[simp] theorem Device.setTab_supply (i s : Nat) (v : List Nat) : (d.setTab i s v).supply = d.supply := rfl
@[simp] theorem Device.setTab_boot (i s : Nat) (v : List Nat) : (d.setTab i s v).boot = d.boot := rfl
@[simp] theorem Device.setTab_otp (i s : Nat) (v : List Nat) : (d.setTab i s v).otp = d.otp := rfl
@[simp] theorem Device.setTab_ledger (i s : Nat) (v : List Nat) : (d.setTab i s v).ledger = d.ledger := rfl
@[simp] theorem Device.setTab_gda (i s : Nat) (v : List Nat) : (d.setTab i s v).gda = d.gda := rfl
@[simp] theorem Device.setTab_edp (i s : Nat) (v : List Nat) : (d.setTab i s v).edp = d.edp := rfl
@[simp] theorem Device.setTab_cnv (i s : Nat) (v : List Nat) : (d.setTab i s v).cnv = d.cnv := rfl
@[simp] theorem Device.setTab_eng (i s : Nat) (v : List Nat) : (d.setTab i s v).eng = d.eng := rfl
@[simp] theorem Device.setTab_interp (i s : Nat) (v : List Nat) : (d.setTab i s v).interp = d.interp := rfl
@[simp] theorem Device.setTab_svc (i s : Nat) (v : List Nat) : (d.setTab i s v).svc = d.svc := rfl
@[simp] theorem Device.setTab_seat (i s : Nat) (v : List Nat) : (d.setTab i s v).seat = d.seat := rfl
@[simp] theorem Device.setTab_extAge (i s : Nat) (v : List Nat) : (d.setTab i s v).extAge = d.extAge := rfl
@[simp] theorem Device.setTab_rein (i s : Nat) (v : List Nat) : (d.setTab i s v).rein = d.rein := rfl
@[simp] theorem Device.setTab_thm (i s : Nat) (v : List Nat) : (d.setTab i s v).thm = d.thm := rfl
@[simp] theorem Device.setTab_tally (i s : Nat) (v : List Nat) : (d.setTab i s v).tally = d.tally := rfl
@[simp] theorem Device.setTab_asy (i s : Nat) (v : List Nat) : (d.setTab i s v).asy = d.asy := rfl
@[simp] theorem Device.setTab_server (i s : Nat) (v : List Nat) : (d.setTab i s v).server = d.server := rfl
@[simp] theorem Device.setTab_net (i s : Nat) (v : List Nat) : (d.setTab i s v).net = d.net := rfl
@[simp] theorem Device.setTab_vault (i s : Nat) (v : List Nat) : (d.setTab i s v).vault = d.vault := rfl
@[simp] theorem Device.setTab_fresh (i s : Nat) (v : List Nat) : (d.setTab i s v).fresh = d.fresh := rfl
@[simp] theorem Device.setTab_tabs (i s : Nat) (v : List Nat) : (d.setTab i s v).tabs = cellPut d.tabs (keyOf i s) v := rfl

theorem Device.rd_eq (i s : Nat) : d.rd i s = readCells d.objs i s := rfl
@[simp] theorem Device.rdA_eq (i n s : Nat) : d.rdA i n s = d.rd (axIx i n) s := rfl
@[simp] theorem Device.rdS_eq (w i s : Nat) : d.rdS w i s = sgn w (d.rd i s) := rfl
@[simp] theorem Device.rdAS_eq (w i n s : Nat) : d.rdAS w i n s = sgn w (d.rd (axIx i n) s) := rfl
@[simp] theorem Device.bitOf_eq (i k s : Nat) : d.bitOf i k s = bit (d.rd i s) k := rfl
@[simp] theorem Device.bitOfA_eq (i n k s : Nat) : d.bitOfA i n k s = bit (d.rd (axIx i n) s) k := rfl
@[simp] theorem Device.wrA_eq (i n s : Nat) (v : Pattern) : d.wrA i n s v = d.wr (axIx i n) s v := rfl
@[simp] theorem Device.wrI_eq (i s : Nat) (v : Int) : d.wrI i s v = d.wr i s (pat (widthAt i s) v) := rfl
@[simp] theorem Device.wrAI_eq (i n s : Nat) (v : Int) : d.wrAI i n s v = d.wr (axIx i n) s (pat (widthAt (axIx i n) s) v) := rfl
@[simp] theorem Device.inc_eq (i s : Nat) : d.inc i s = d.wr i s (satInc (widthAt i s) (d.rd i s)) := rfl
@[simp] theorem Device.incA_eq (i n s : Nat) : d.incA i n s = d.wr (axIx i n) s (satInc (widthAt (axIx i n) s) (d.rd (axIx i n) s)) := rfl
@[simp] theorem Device.wrBit_eq (i s k : Nat) (b : Bool) : d.wrBit i s k b = d.wr i s (withBit (d.rd i s) k b) := rfl
@[simp] theorem Device.wrBitA_eq (i n s k : Nat) (b : Bool) : d.wrBitA i n s k b = d.wr (axIx i n) s (withBit (d.rd (axIx i n) s) k b) := rfl

/-- A written object reads what was written, at its width. -/
@[simp] theorem Device.rd_wr_same (i s : Nat) (v : Pattern) : (d.wr i s v).rd i s = v % 2 ^ widthAt i s :=
  readCells_write_same d.objs i s v

/-- A write leaves every other object alone. -/
theorem Device.rd_wr_other (i s i' s' : Nat) (v : Pattern) (h : keyOf i s ≠ keyOf i' s') : (d.wr i s v).rd i' s' = d.rd i' s' :=
  readCells_write_other d.objs i s i' s' v h

/-- Objects stand in the object list alone. -/
theorem Device.rd_congr (e : Device) (h : e.objs = d.objs) (i s : Nat) : e.rd i s = d.rd i s := by
  unfold Device.rd; rw [h]


/-! ### Messages, free values, legs -/

@[simp] theorem Device.post_objs (now source kind detail : Nat) : (d.post now source kind detail).objs = d.objs := rfl
@[simp] theorem Device.post_tabs (now source kind detail : Nat) : (d.post now source kind detail).tabs = d.tabs := rfl
@[simp] theorem Device.post_girth (now source kind detail : Nat) : (d.post now source kind detail).girth = d.girth := rfl
@[simp] theorem Device.post_supply (now source kind detail : Nat) : (d.post now source kind detail).supply = d.supply := rfl
@[simp] theorem Device.post_boot (now source kind detail : Nat) : (d.post now source kind detail).boot = d.boot := rfl
@[simp] theorem Device.post_otp (now source kind detail : Nat) : (d.post now source kind detail).otp = d.otp := rfl
@[simp] theorem Device.post_ledger (now source kind detail : Nat) : (d.post now source kind detail).ledger = d.ledger := rfl
@[simp] theorem Device.post_gda (now source kind detail : Nat) : (d.post now source kind detail).gda = d.gda := rfl
@[simp] theorem Device.post_edp (now source kind detail : Nat) : (d.post now source kind detail).edp = d.edp := rfl
@[simp] theorem Device.post_cnv (now source kind detail : Nat) : (d.post now source kind detail).cnv = d.cnv := rfl
@[simp] theorem Device.post_eng (now source kind detail : Nat) : (d.post now source kind detail).eng = d.eng := rfl
@[simp] theorem Device.post_interp (now source kind detail : Nat) : (d.post now source kind detail).interp = d.interp := rfl
@[simp] theorem Device.post_svc (now source kind detail : Nat) : (d.post now source kind detail).svc = d.svc := rfl
@[simp] theorem Device.post_seat (now source kind detail : Nat) : (d.post now source kind detail).seat = d.seat := rfl
@[simp] theorem Device.post_extAge (now source kind detail : Nat) : (d.post now source kind detail).extAge = d.extAge := rfl
@[simp] theorem Device.post_rein (now source kind detail : Nat) : (d.post now source kind detail).rein = d.rein := rfl
@[simp] theorem Device.post_thm (now source kind detail : Nat) : (d.post now source kind detail).thm = d.thm := rfl
@[simp] theorem Device.post_asy (now source kind detail : Nat) : (d.post now source kind detail).asy = d.asy := rfl
@[simp] theorem Device.post_server (now source kind detail : Nat) : (d.post now source kind detail).server = d.server := rfl
@[simp] theorem Device.post_net (now source kind detail : Nat) : (d.post now source kind detail).net = d.net := rfl
@[simp] theorem Device.post_vault (now source kind detail : Nat) : (d.post now source kind detail).vault = d.vault := rfl
@[simp] theorem Device.post_fresh (now source kind detail : Nat) : (d.post now source kind detail).fresh = d.fresh := rfl
@[simp] theorem Device.post_tally (now source kind detail : Nat) : (d.post now source kind detail).tally = { d.tally with inbox := d.tally.inbox ++ [⟨now, message source kind detail, false⟩] } := rfl

@[simp] theorem Device.drawn_objs : (d.drawn).objs = d.objs := rfl
@[simp] theorem Device.drawn_tabs : (d.drawn).tabs = d.tabs := rfl
@[simp] theorem Device.drawn_girth : (d.drawn).girth = d.girth := rfl
@[simp] theorem Device.drawn_supply : (d.drawn).supply = d.supply := rfl
@[simp] theorem Device.drawn_boot : (d.drawn).boot = d.boot := rfl
@[simp] theorem Device.drawn_otp : (d.drawn).otp = d.otp := rfl
@[simp] theorem Device.drawn_ledger : (d.drawn).ledger = d.ledger := rfl
@[simp] theorem Device.drawn_gda : (d.drawn).gda = d.gda := rfl
@[simp] theorem Device.drawn_edp : (d.drawn).edp = d.edp := rfl
@[simp] theorem Device.drawn_cnv : (d.drawn).cnv = d.cnv := rfl
@[simp] theorem Device.drawn_eng : (d.drawn).eng = d.eng := rfl
@[simp] theorem Device.drawn_interp : (d.drawn).interp = d.interp := rfl
@[simp] theorem Device.drawn_svc : (d.drawn).svc = d.svc := rfl
@[simp] theorem Device.drawn_seat : (d.drawn).seat = d.seat := rfl
@[simp] theorem Device.drawn_extAge : (d.drawn).extAge = d.extAge := rfl
@[simp] theorem Device.drawn_rein : (d.drawn).rein = d.rein := rfl
@[simp] theorem Device.drawn_thm : (d.drawn).thm = d.thm := rfl
@[simp] theorem Device.drawn_tally : (d.drawn).tally = d.tally := rfl
@[simp] theorem Device.drawn_asy : (d.drawn).asy = d.asy := rfl
@[simp] theorem Device.drawn_server : (d.drawn).server = d.server := rfl
@[simp] theorem Device.drawn_net : (d.drawn).net = d.net := rfl
@[simp] theorem Device.drawn_vault : (d.drawn).vault = d.vault := rfl
@[simp] theorem Device.drawn_fresh : (d.drawn).fresh = d.fresh + 1 := rfl

@[simp] theorem Device.post_rd (now source kind detail i s : Nat) : (d.post now source kind detail).rd i s = d.rd i s := rfl
@[simp] theorem Device.drawn_rd (i s : Nat) : d.drawn.rd i s = d.rd i s := rfl
@[simp] theorem Device.setTab_rd (i s : Nat) (v : List Nat) (i' s' : Nat) : (d.setTab i s v).rd i' s' = d.rd i' s' := rfl

theorem Device.onLeg_frame (l : Nat) (f : Leg → Leg) :
    (d.onLeg l f).objs = d.objs ∧ (d.onLeg l f).tally = d.tally ∧ (d.onLeg l f).supply = d.supply ∧ (d.onLeg l f).server = d.server := by
  unfold Device.onLeg; split <;> exact ⟨rfl, rfl, rfl, rfl⟩

@[simp] theorem Device.onLeg_rd (l : Nat) (f : Leg → Leg) (i s : Nat) : (d.onLeg l f).rd i s = d.rd i s :=
  Device.rd_congr _ _ (d.onLeg_frame l f).1 i s

/-- A changed leg is what the change makes of it. -/
theorem Device.leg_onLeg_same (l : Nat) (h : l < 24) (f : Leg → Leg) : (d.onLeg l f).leg l = f (d.leg l) := by
  have h' : l < d.gda.legs.toList.length := by simpa using h
  unfold Device.onLeg Device.leg
  simp [h, List.getD_eq_getElem?_getD]

/-- A changed leg changes no other leg. -/
theorem Device.leg_onLeg_other (l k : Nat) (h : k ≠ l) (f : Leg → Leg) : (d.onLeg l f).leg k = d.leg k := by
  unfold Device.onLeg Device.leg
  split
  · simp [List.getD_eq_getElem?_getD, Vector.toList_set, List.getElem?_set_ne (Ne.symm h)]
  · rfl

end Sys2Proof.Machine
end

