-- ==== Sys2Proof/Laws/Effect.lean ====
section
/-! SUPPORT. What a command's effect comes to: the outcome of each kind of meaning, and what bringing the device into agreement leaves alone and makes true. -/

namespace Sys2Proof.Machine

/-! ### Fields -/

section fields
variable (d : Device)

theorem Device.followAxes_eq : d.followAxes = { d with objs := d.followAxes.objs } := by
  unfold Device.followAxes; split <;> rfl

theorem Device.autoRelease_eq : d.autoRelease = { d with tally := { d.tally with errnLow := d.autoRelease.tally.errnLow } } := by
  unfold Device.autoRelease; split <;> rfl

/-- Bringing into agreement changes objects and ERRN alone. -/
theorem Device.settle_eq : d.settle = { d with objs := d.settle.objs, tally := { d.tally with errnLow := d.settle.tally.errnLow } } := by
  unfold Device.settle Device.showTally
  rw [Device.followAxes_eq d, Device.autoRelease_eq]
  rfl

@[simp] theorem Device.settle_tabs : d.settle.tabs = d.tabs := by rw [d.settle_eq]
@[simp] theorem Device.settle_girth : d.settle.girth = d.girth := by rw [d.settle_eq]
@[simp] theorem Device.settle_supply : d.settle.supply = d.supply := by rw [d.settle_eq]
@[simp] theorem Device.settle_boot : d.settle.boot = d.boot := by rw [d.settle_eq]
@[simp] theorem Device.settle_otp : d.settle.otp = d.otp := by rw [d.settle_eq]
@[simp] theorem Device.settle_ledger : d.settle.ledger = d.ledger := by rw [d.settle_eq]
@[simp] theorem Device.settle_gda : d.settle.gda = d.gda := by rw [d.settle_eq]
@[simp] theorem Device.settle_edp : d.settle.edp = d.edp := by rw [d.settle_eq]
@[simp] theorem Device.settle_cnv : d.settle.cnv = d.cnv := by rw [d.settle_eq]
@[simp] theorem Device.settle_eng : d.settle.eng = d.eng := by rw [d.settle_eq]
@[simp] theorem Device.settle_interp : d.settle.interp = d.interp := by rw [d.settle_eq]
@[simp] theorem Device.settle_svc : d.settle.svc = d.svc := by rw [d.settle_eq]
@[simp] theorem Device.settle_seat : d.settle.seat = d.seat := by rw [d.settle_eq]
@[simp] theorem Device.settle_extAge : d.settle.extAge = d.extAge := by rw [d.settle_eq]
@[simp] theorem Device.settle_rein : d.settle.rein = d.rein := by rw [d.settle_eq]
@[simp] theorem Device.settle_thm : d.settle.thm = d.thm := by rw [d.settle_eq]
@[simp] theorem Device.settle_asy : d.settle.asy = d.asy := by rw [d.settle_eq]
@[simp] theorem Device.settle_server : d.settle.server = d.server := by rw [d.settle_eq]
@[simp] theorem Device.settle_net : d.settle.net = d.net := by rw [d.settle_eq]
@[simp] theorem Device.settle_vault : d.settle.vault = d.vault := by rw [d.settle_eq]
@[simp] theorem Device.settle_fresh : d.settle.fresh = d.fresh := by rw [d.settle_eq]
@[simp] theorem Device.settle_entries : d.settle.tally.entries = d.tally.entries := by rw [d.settle_eq]
@[simp] theorem Device.settle_inbox : d.settle.tally.inbox = d.tally.inbox := by rw [d.settle_eq]
@[simp] theorem Device.settle_errTiming : d.settle.tally.errTiming = d.tally.errTiming := by rw [d.settle_eq]

end fields

/-! ### Objects -/

theorem Device.rd_followAxes (d : Device) (i s : Nat) (h : keyOf i s ≠ keyOf Ix.DEV_STATE 0) : d.followAxes.rd i s = d.rd i s := by
  unfold Device.followAxes
  split
  · exact d.rd_wr_other _ _ _ _ _ (Ne.symm h)
  · rfl

theorem Device.rd_autoRelease (d : Device) (i s : Nat) : d.autoRelease.rd i s = d.rd i s := by
  unfold Device.autoRelease; split <;> rfl

theorem Device.rd_showTally (d : Device) (i s : Nat) (h1 : keyOf i s ≠ keyOf Ix.TLY_STATUS 0) (h2 : keyOf i s ≠ keyOf Ix.TLY_PENDING_COUNT 0) :
    d.showTally.rd i s = d.rd i s := by
  unfold Device.showTally
  rw [Device.rd_wr_other _ _ _ _ _ _ (Ne.symm h2), Device.rd_wr_other _ _ _ _ _ _ (Ne.symm h1)]

/-- Only the followers change when the device is brought into agreement. -/
theorem Device.rd_settle (d : Device) (i s : Nat) (h : keyOf i s ∉ followers) : d.settle.rd i s = d.rd i s := by
  simp only [followers, List.mem_cons, List.not_mem_nil, or_false, not_or] at h
  unfold Device.settle
  rw [Device.rd_showTally _ _ _ h.2.1 h.2.2, Device.rd_autoRelease, Device.rd_followAxes _ _ _ h.1]

theorem readCells_settle (d : Device) (i s : Nat) (h : keyOf i s ∉ followers) : readCells d.settle.objs i s = readCells d.objs i s :=
  d.rd_settle i s h

/-- An update that leaves the objects alone leaves them alone in agreement too. -/
theorem Device.settle_sameObjects (d e : Device) (but : List ObjKey) (h : ∀ i s, keyOf i s ∉ but → e.rd i s = d.rd i s) :
    d.SameObjects e.settle but := by
  intro i s hb hf
  rw [Device.rd_settle _ _ _ hf, h i s hb]

/-! ### Outcomes -/

theorem does_onDev {c : Instr} {s : State} {P : State → Prop} {f : Nat → Device → Device}
    (h : exec c s = s.onDev f) (hp : P (s.into (f s.now s.dev))) : Does c s P := ⟨_, h, hp⟩

theorem onRunning_of (s : State) (f : Nat → Device → Device) (h : s.dev.isRunning = true) :
    s.onRunning f = .next (s.into (f s.now s.dev)) := by
  unfold State.onRunning State.onDev State.into State.now; simp [h]

theorem onPowered_of (s : State) (f : Nat → Device → Device) (h : s.dev.isPowered = true) :
    s.onPowered f = .next (s.into (f s.now s.dev)) := by
  unfold State.onPowered State.onDev State.into State.now; simp [h]

theorem onPowered_of_running (s : State) (f : Nat → Device → Device) (h : s.dev.isRunning = true) :
    s.onPowered f = .next (s.into (f s.now s.dev)) := onPowered_of s f (by simp [Device.isPowered, h])

theorem onDev_eq (s : State) (f : Nat → Device → Device) : s.onDev f = .next (s.into (f s.now s.dev)) := rfl

@[simp] theorem State.into_dev (s : State) (d : Device) : (s.into d).dev = d.settle := rfl
@[simp] theorem State.into_pending (s : State) (d : Device) : (s.into d).pending = s.pending := by unfold State.into; rfl
@[simp] theorem State.into_pacer (s : State) (d : Device) : (s.into d).pacer = s.pacer := by unfold State.into; rfl
theorem State.into_sameTime (s : State) (d : Device) : s.SameTime (s.into d) := ⟨rfl, rfl⟩

/-! ### Agreement -/

theorem Device.state_showTally (d : Device) : d.showTally.state = d.state := d.rd_showTally _ _ (by decide) (by decide)

theorem Device.enabledMask_congr (d e : Device) (h : ∀ n, e.rd (axIx Ix.AX_STATE n) 0 = d.rd (axIx Ix.AX_STATE n) 0) : e.enabledMask = d.enabledMask := by
  have : e.enabled = d.enabled := by
    funext n; simp [Device.enabled, Device.axisState, h n]
  unfold Device.enabledMask; rw [this]

theorem widthAt_devState : widthAt Ix.DEV_STATE 0 = 8 := by decide +kernel
theorem widthAt_tlyStatus : widthAt Ix.TLY_STATUS 0 = 16 := by decide +kernel
theorem widthAt_pendingCount : widthAt Ix.TLY_PENDING_COUNT 0 = 8 := by decide +kernel

theorem Device.state_autoRelease (d : Device) : d.autoRelease.state = d.state := d.rd_autoRelease _ _

theorem axState_key (n : Nat) (k : Nat) (h : k < 0x1000 * 256) : keyOf (axIx Ix.AX_STATE n) 0 ≠ k := by
  have e : k < (0x1021 + 0x200 * n) * 256 + 0 := by omega
  exact Nat.ne_of_gt e

theorem Device.enabledMask_followAxes (d : Device) : d.followAxes.enabledMask = d.enabledMask :=
  Device.enabledMask_congr _ _ fun n => d.rd_followAxes _ _ (axState_key n _ (by decide))

theorem Device.enabledMask_settle (d : Device) : d.settle.enabledMask = d.enabledMask := by
  refine Device.enabledMask_congr _ _ fun n => d.rd_settle _ _ ?_
  simp only [followers, List.mem_cons, List.not_mem_nil, or_false, not_or]
  exact ⟨axState_key n _ (by decide), axState_key n _ (by decide), axState_key n _ (by decide)⟩

theorem Device.state_settle (d : Device) : d.settle.state = d.followAxes.state := by
  unfold Device.settle; rw [Device.state_showTally, Device.state_autoRelease]

theorem Device.state_followAxes (d : Device) :
    d.followAxes.state = if d.state = devReady ∨ d.state = devRun then (if d.enabledMask = 0 then devReady else devRun) else d.state := by
  unfold Device.followAxes
  by_cases h : d.state = devReady ∨ d.state = devRun
  · have hb : (d.state == devReady || d.state == devRun) = true := by simpa using h
    rw [hb]; simp only [if_true, h]
    unfold Device.state
    rw [Device.rd_wr_same, widthAt_devState]
    split <;> simp_all [devReady, devRun]
  · have hb : (d.state == devReady || d.state == devRun) = false := by simpa using h
    rw [hb]; simp [h]

/-- The status word of the Tally in agreement. -/
theorem Device.tlyStatus_showTally (d : Device) (k : Nat) (hk : k < 16) :
    bit (d.showTally.rd Ix.TLY_STATUS) k =
      if k = 5 then d.releasable else if k = 4 then d.tally.errnLow else if k = 2 then !d.tally.entries.isEmpty
      else bit (d.rd Ix.TLY_STATUS) k := by
  unfold Device.showTally
  rw [Device.rd_wr_other _ _ _ _ _ _ (by decide), Device.rd_wr_same, widthAt_tlyStatus]
  simp only [bit_mod, bit_withBit, hk, decide_true, Bool.true_and]

theorem Device.releasable_congr (d e : Device) (hb : (e.state != devBoot) = (d.state != devBoot)) (hp : e.supply.phase = d.supply.phase) (ht : e.tally.errTiming = d.tally.errTiming) (he : e.tally.entries = d.tally.entries)
    (hs : bit (e.rd Ix.TLY_STATUS) 6 = bit (d.rd Ix.TLY_STATUS) 6) (hh : e.rd Ix.TLY_HEALTH = d.rd Ix.TLY_HEALTH) : e.releasable = d.releasable := by
  unfold Device.releasable Device.healthHolds
  simp only [Device.bitOf_eq, hb, hp, ht, he, hs, hh]

/-- Bringing into agreement brings about agreement. -/
theorem Device.settle_settled (d : Device) : d.settle.Settled := by
  have hk : ∀ k, k < 16 → bit (d.settle.rd Ix.TLY_STATUS) k =
      if k = 5 then d.followAxes.autoRelease.releasable else if k = 4 then d.followAxes.autoRelease.tally.errnLow
      else if k = 2 then !d.followAxes.autoRelease.tally.entries.isEmpty else bit (d.followAxes.autoRelease.rd Ix.TLY_STATUS) k :=
    fun k hk => Device.tlyStatus_showTally _ k hk
  have ht : d.settle.tally = d.followAxes.autoRelease.tally := rfl
  have hh : d.settle.rd Ix.TLY_HEALTH = d.followAxes.autoRelease.rd Ix.TLY_HEALTH :=
    Device.rd_showTally _ _ _ (by decide) (by decide)
  have hrel : d.settle.releasable = d.followAxes.autoRelease.releasable :=
    Device.releasable_congr _ _ (by rw [Device.state_settle, Device.state_autoRelease]) (by rfl) (by rw [ht]) (by rw [ht]) (by rw [hk 6 (by decide)]; simp) hh
  refine ⟨?_, ?_, ?_, ?_, ?_, ?_, ?_⟩
  · intro h
    rw [Device.enabledMask_settle]
    rw [Device.state_settle, Device.state_followAxes] at h
    split at h
    · split at h
      · assumption
      · simp [devReady, devRun] at h
    · rename_i hn; exact absurd (Or.inl h) hn
  · intro h
    rw [Device.enabledMask_settle]
    rw [Device.state_settle, Device.state_followAxes] at h
    split at h
    · split at h
      · simp [devReady, devRun] at h
      · assumption
    · rename_i hn; exact absurd (Or.inr h) hn
  · simp only [Device.bitOf_eq, hk 2 (by decide), ht]; simp
  · simp only [Device.bitOf_eq, hk 4 (by decide), ht]; simp
  · simp only [Device.bitOf_eq, hk 5 (by decide), hrel]; simp
  · show d.settle.rd Ix.TLY_PENDING_COUNT = _
    unfold Device.settle Device.showTally
    rw [Device.rd_wr_same, widthAt_pendingCount]
    rfl
  · intro hr ha
    rw [hrel] at hr
    rw [ht]
    have hcfg : d.settle.rd Ix.TLY_ERRN_CFG = d.followAxes.rd Ix.TLY_ERRN_CFG := by
      unfold Device.settle
      rw [Device.rd_showTally _ _ _ (by decide) (by decide), Device.rd_autoRelease]
    rw [hcfg] at ha
    have hr' : d.followAxes.releasable = true := by
      rw [← hr]
      exact (Device.releasable_congr _ _ (by rw [Device.state_autoRelease]) (by rw [Device.autoRelease_eq]) (by rw [Device.autoRelease_eq]) (by rw [Device.autoRelease_eq]) (by rw [Device.rd_autoRelease]) (Device.rd_autoRelease _ _ _)).symm
    unfold Device.autoRelease
    simp [hr', ha]

/-! ### Positions -/

theorem shift_eq {a b s t x : Nat} (e : (a + x) * 256 + s = (b + x) * 256 + t) : a * 256 + s = b * 256 + t := by
  rw [Nat.add_mul, Nat.add_mul] at e
  have h : ∀ p q r : Nat, p + r + s = q + r + t → p + s = q + t := by intros; omega
  exact h _ _ _ e

/-- Two objects of an axis stand apart where their names for axis 0 do. -/
theorem axKey_ne {a b s s' n : Nat} (h : keyOf a s ≠ keyOf b s') : keyOf (axIx a n) s ≠ keyOf (axIx b n) s' :=
  fun e => h (shift_eq e)

theorem axKey_above {a s n k : Nat} (ha : 0x1000 ≤ a) (h : k < 1048576) : k < (a + 0x200 * n) * 256 + s := by omega

/-- An object of an axis stands apart from every position below the axis blocks. -/
theorem axKey_ne_low {a s n k : Nat} (ha : 0x1000 ≤ a) (h : k < 1048576) : keyOf (axIx a n) s ≠ k :=
  Nat.ne_of_gt (axKey_above ha h)

theorem low_ne_axKey {a s n k : Nat} (ha : 0x1000 ≤ a) (h : k < 1048576) : k ≠ keyOf (axIx a n) s := (axKey_ne_low ha h).symm

/-- No object of an axis is a follower. -/
theorem axKey_not_follower {a s n : Nat} (ha : 0x1000 ≤ a) : keyOf (axIx a n) s ∉ followers := by
  simp only [followers, List.mem_cons, List.not_mem_nil, or_false, not_or]
  exact ⟨axKey_ne_low ha (by decide), axKey_ne_low ha (by decide), axKey_ne_low ha (by decide)⟩

/-- No object of another leg, slice or slot of a record is at the position of this one. -/
theorem sub_ne {i s s' : Nat} (h : s ≠ s') : keyOf i s ≠ keyOf i s' :=
  fun e => h (Nat.add_left_cancel e)

/-- Positions of different indices stand apart. -/
theorem index_ne {i i' s s' : Nat} (h : i ≠ i') (hs : s < 256) (hs' : s' < 256) : keyOf i s ≠ keyOf i' s' := by
  have h1 : i * 256 + s ≠ i' * 256 + s' := by omega
  exact h1

end Sys2Proof.Machine
end

