-- ==== Sys2Proof/Laws/Serve.lean ====
section
/-! SUPPORT. What a request comes to: that it is served with its role once it reaches the server, and that a write of one value goes to the class of its object once nothing stands in its way. -/

namespace Sys2Proof.Machine

/-! ### Bytes -/

theorem leBytes_length (len n : Nat) : (leBytes len n).length = len := by
  induction len generalizing n with
  | zero => rfl
  | succ k ih => simp [leBytes, ih]

/-- Bytes written least significant first read as the number they were made of. -/
theorem leNat_leBytes (len n : Nat) : leNat (leBytes len n) = n % 256 ^ len := by
  induction len generalizing n with
  | zero => simp [leBytes, leNat, Nat.mod_one]
  | succ k ih =>
    have : leNat (leBytes (k + 1) n) = n % 256 + 256 * (n / 256 % 256 ^ k) := by simp [leBytes, leNat, ih]
    rw [this, Nat.pow_succ, Nat.mul_comm (256 ^ k), Nat.mod_mul]

theorem beNat_beBytes (len n : Nat) : beNat (beBytes len n) = n % 256 ^ len := by
  simp [beNat, beBytes, leNat_leBytes]

/-! ### Serving -/

/-- Once a request reaches the server, what it leaves is its effect on the device as heard, and its answer. -/
theorem serve_reaches {s : State} {c : Caller} {a : Asked} {role : Role} (f : Role → Device → Reply)
    (h : s.reaches c a = some role) : s.dev.serve c a f = (f role s.heard).give := by
  unfold State.reaches at h
  split at h
  · simp at h
  · rename_i hn
    simp only [Bool.or_eq_true, bne_iff_ne, ne_eq, not_or, Bool.not_eq_true, Decidable.not_not] at hn
    have h' : (s.dev.inc Ix.DEV_REQ_COUNT).roleOf c = some role := h
    have hg : (s.dev.inc Ix.DEV_REQ_COUNT).gateStatus c a = 0 := hn.2
    unfold Device.serve
    simp only [hn.1.1, hn.1.2, hg, h']
    rfl

/-- A request that reaches the server is served. -/
theorem ask_reaches {s : State} {rq : Requester} {a : Asked} {role : Role} (f : Nat → Role → Device → Reply)
    (h : s.reaches (.of rq) a = some role) : s.ask rq a f = .next (s.into (f s.now role s.heard).give) := by
  unfold State.ask
  rw [onDev_eq, serve_reaches (f s.now) h]

/-- What `admits` says. -/
theorem admits_spec {s : State} {rq : Requester} {ix sub : Nat} {ab : Bool} {r : ObjRow} (ha : s.admits rq ix sub ab = true)
    (hr : rowOf ix sub = some r) :
    ∃ role, s.reaches (.of rq) (askedWrite ix sub) = some role ∧ s.heard.writeBar (.of rq) role r ix sub ab = 0
      ∧ s.heard.frozenShut r ix sub = false := by
  unfold State.admits at ha
  rw [hr] at ha
  split at ha
  · rename_i role r' h1 h2
    cases h2
    simp only [Bool.and_eq_true, beq_iff_eq, Bool.not_eq_true'] at ha
    exact ⟨role, h1, ha.1, ha.2⟩
  · simp at ha

theorem lengthOk_leBytes (t : ObjType) (v : Nat) (hs : t ≠ .string) : lengthOk t (leBytes t.size v) = true := by
  unfold lengthOk
  split
  · contradiction
  · simp [leBytes_length]

/-- A write of one value that nothing stands in the way of comes to what its object's class makes of it. -/
theorem put_admitted {s : State} {rq : Requester} {ix sub v : Nat} {ab : Bool} {r : ObjRow} (hsub : sub < 256)
    (ha : s.admits rq ix sub ab = true) (hr : rowOf ix sub = some r)
    (hseg : r.type.isSegmented = false) (hstr : r.type ≠ .string) (hv : v < 256 ^ r.type.size) (ht : r.takes ix v = true)
    (hab : (ix == Ix.ASY_SCAN_CMD && v == 4) = ab) :
    s.put rq ix sub v = .next (s.afterWrite rq (s.heard.classWrite s.now (.of rq) r ix sub v)) := by
  obtain ⟨role, h1, h2, -⟩ := admits_spec ha hr
  have hw : widthAt ix sub / 8 = r.type.size := by unfold widthAt; rw [hr]; simp
  refine (ask_reaches (rq := rq) (fun now role e => e.writeReply now (.of rq) role (keyOf ix sub) (valueBytes ix sub v)) h1).trans ?_
  have hone : s.heard.writeOne s.now (.of rq) role (keyOf ix sub) (valueBytes ix sub v)
      = s.heard.classWrite s.now (.of rq) r ix sub v := by
    unfold Device.writeOne valueBytes
    rw [keyIndex_keyOf _ _ hsub, keySub_keyOf _ _ hsub, hw]
    dsimp only
    rw [hr]
    simp only [hseg, lengthOk_leBytes _ _ hstr, leNat_leBytes, Nat.mod_eq_of_lt hv, ht, hab, h2]
    simp
  unfold Device.writeReply State.afterWrite
  rw [hone]
  cases s.heard.classWrite s.now (.of rq) r ix sub v <;> rfl

/-- A write of a Live or Frozen object that is no commit object and has no clear access is taken. -/
theorem classWrite_take {s : State} {rq : Requester} {ix sub v : Nat} {ab : Bool} {r : ObjRow} {now : Nat} {c : Caller}
    (ha : s.admits rq ix sub ab = true) (hr : rowOf ix sub = some r) (hc : r.cls = .live ∨ r.cls = .frozen)
    (hno : commitOf ix = none) (hclr : ∀ w, r.access ≠ .clr w) :
    s.heard.classWrite now c r ix sub v = s.heard.takeWrite now c.owner ix sub v := by
  obtain ⟨-, -, -, h3⟩ := admits_spec ha hr
  unfold Device.classWrite
  rcases hc with hc | hc <;> rw [hc] <;> simp only [h3, hno] <;> (cases h : r.access <;> simp_all)

/-- A write of the clearing value of an object with clear access clears it. -/
theorem classWrite_clear {s : State} {rq : Requester} {ix sub v : Nat} {ab : Bool} {r : ObjRow} {now : Nat} {c : Caller} {w : Role}
    (ha : s.admits rq ix sub ab = true) (hr : rowOf ix sub = some r) (hc : r.cls = .live ∨ r.cls = .frozen)
    (hno : commitOf ix = none) (hclr : r.access = .clr w) :
    s.heard.classWrite now c r ix sub v = .ok (s.heard.cleared ix sub) := by
  obtain ⟨-, -, -, h3⟩ := admits_spec ha hr
  unfold Device.classWrite
  rcases hc with hc | hc <;> rw [hc] <;> simp only [h3, hno, hclr] <;> rfl

/-- A write to a commit object goes to the block it commits. -/
theorem classWrite_commit {s : State} {rq : Requester} {ix sub v : Nat} {ab : Bool} {r : ObjRow} {now : Nat} {c : Caller} {b : Block}
    (ha : s.admits rq ix sub ab = true) (hr : rowOf ix sub = some r) (hc : r.cls = .live ∨ r.cls = .frozen)
    (hb : commitOf ix = some b) :
    s.heard.classWrite now c r ix sub v = s.heard.commit c.owner b v := by
  obtain ⟨-, -, -, h3⟩ := admits_spec ha hr
  unfold Device.classWrite
  rcases hc with hc | hc <;> rw [hc] <;> simp [h3, hb]

/-! ### By kind of object -/

/-- The object is Live or Frozen and holds one value; `clr` says whether it has clear access. -/
def oneValue (clr : Bool) (ix sub : Nat) : Bool :=
  match rowOf ix sub with
  | some r => !r.type.isSegmented && decide (r.type ≠ .string) && decide (r.cls = .live ∨ r.cls = .frozen)
      && clr == match r.access with
        | .clr _ => true
        | _ => false
  | none => false

/-- The object takes the value. -/
def takesValue (ix sub v : Nat) : Bool :=
  match rowOf ix sub with
  | some r => decide (v < 256 ^ r.type.size) && r.takes ix v
  | none => false

theorem oneValue_row {clr : Bool} {ix sub v : Nat} (ho : oneValue clr ix sub = true) (hv : takesValue ix sub v = true) :
    ∃ r, rowOf ix sub = some r ∧ r.type.isSegmented = false ∧ r.type ≠ .string ∧ (r.cls = .live ∨ r.cls = .frozen)
      ∧ (clr = match r.access with
          | .clr _ => true
          | _ => false)
      ∧ v < 256 ^ r.type.size ∧ r.takes ix v = true := by
  unfold oneValue at ho
  unfold takesValue at hv
  cases hr : rowOf ix sub with
  | none => rw [hr] at ho; simp at ho
  | some r =>
    rw [hr] at ho hv
    simp only [Bool.and_eq_true, Bool.not_eq_true', decide_eq_true_eq, beq_iff_eq] at ho hv
    exact ⟨r, rfl, ho.1.1.1, ho.1.1.2, ho.1.2, ho.2, hv.1, hv.2⟩

/-- An admitted write of a value to an object that is no commit object is taken. -/
theorem put_taken {s : State} {rq : Requester} {ix sub v : Nat} {ab : Bool} (ha : s.admits rq ix sub ab = true) (hsub : sub < 256)
    (ho : oneValue false ix sub = true) (hno : commitOf ix = none) (hv : takesValue ix sub v = true)
    (hab : (ix == Ix.ASY_SCAN_CMD && v == 4) = ab) :
    s.put rq ix sub v = .next (s.afterWrite rq (s.heard.takeWrite s.now (Caller.of rq).owner ix sub v)) := by
  obtain ⟨r, hr, h1, h2, h3, h4, h5, h6⟩ := oneValue_row ho hv
  rw [put_admitted hsub ha hr h1 h2 h5 h6 hab, classWrite_take ha hr h3 hno (by intro w hw; simp [hw] at h4)]

/-- An admitted write of the clearing value clears an object with clear access. -/
theorem put_cleared {s : State} {rq : Requester} {ix sub v : Nat} {ab : Bool} (ha : s.admits rq ix sub ab = true) (hsub : sub < 256)
    (ho : oneValue true ix sub = true) (hno : commitOf ix = none) (hv : takesValue ix sub v = true)
    (hab : (ix == Ix.ASY_SCAN_CMD && v == 4) = ab) :
    s.put rq ix sub v = .next (s.served (s.heard.cleared ix sub)) := by
  obtain ⟨r, hr, h1, h2, h3, h4, h5, h6⟩ := oneValue_row ho hv
  have : ∃ w, r.access = .clr w := by
    cases hacc : r.access with
    | clr w => exact ⟨w, rfl⟩
    | _ => rw [hacc] at h4; cases h4
  obtain ⟨w, hw⟩ := this
  rw [put_admitted hsub ha hr h1 h2 h5 h6 hab, classWrite_clear ha hr h3 hno hw]
  rfl

/-- An admitted write of a commit object goes to its block. -/
theorem put_commit {s : State} {rq : Requester} {ix sub v : Nat} {ab : Bool} {b : Block} (ha : s.admits rq ix sub ab = true) (hsub : sub < 256)
    (ho : oneValue false ix sub = true) (hb : commitOf ix = some b) (hv : takesValue ix sub v = true)
    (hab : (ix == Ix.ASY_SCAN_CMD && v == 4) = ab) :
    s.put rq ix sub v = .next (s.afterWrite rq (s.heard.commit (Caller.of rq).owner b v)) := by
  obtain ⟨r, hr, h1, h2, h3, h4, h5, h6⟩ := oneValue_row ho hv
  rw [put_admitted hsub ha hr h1 h2 h5 h6 hab, classWrite_commit ha hr h3 hb]

/-! ### After an answer -/

/-- What an answer without a body leaves. -/
theorem give_ok (d : Device) : (reply 0 d).give = { d with server := { d.server with answer := ⟨0, 0, []⟩ } } := rfl

@[simp] theorem served_dev (s : State) (d : Device) :
    (s.served d).dev = ({ d with server := { d.server with answer := ⟨0, 0, []⟩ } } : Device).settle := rfl

theorem turnedAway_dev (s : State) (st : Nat) (d : Device) (h : st ≠ 0) :
    (s.turnedAway st d).dev = ({ d.inc Ix.DEV_ERR_COUNT with server := { d.server with answer := ⟨st, 0, []⟩ } } : Device).settle := by
  simp [State.turnedAway, State.into, Reply.give, reply, Device.answer, h]

@[simp] theorem afterWrite_ok (s : State) (rq : Requester) (d : Device) : s.afterWrite rq (.ok d) = s.served d := rfl
@[simp] theorem afterWrite_error (s : State) (rq : Requester) (x : Refused) :
    s.afterWrite rq (.error x) = s.turnedAway x.status (s.heard.rejected s.now rq.session x) := rfl

end Sys2Proof.Machine
end

