-- ==== Sys2Proof/Laws/Widths.lean ====
section
/-! SUPPORT. The widths in bits of the objects that the statements name, by the dictionary's table. -/

set_option Elab.async false

namespace Sys2Proof.Machine

@[simp] theorem width_tly_health_0 : widthAt Ix.TLY_HEALTH 0 = 16 := by decide +kernel
@[simp] theorem width_tly_pending_count_0 : widthAt Ix.TLY_PENDING_COUNT 0 = 8 := by decide +kernel
@[simp] theorem width_tly_status_0 : widthAt Ix.TLY_STATUS 0 = 16 := by decide +kernel
@[simp] theorem width_sup_boot_bank_pref_0 : widthAt Ix.SUP_BOOT_BANK_PREF 0 = 8 := by decide +kernel
@[simp] theorem width_sup_boot_trial_0 : widthAt Ix.SUP_BOOT_TRIAL 0 = 8 := by decide +kernel
@[simp] theorem width_sup_checkpoints_0 : widthAt Ix.SUP_CHECKPOINTS 0 = 32 := by decide +kernel
@[simp] theorem width_sup_hold_cap_0 : widthAt Ix.SUP_HOLD_CAP 0 = 16 := by decide +kernel
@[simp] theorem width_sup_pace_active_0 : widthAt Ix.SUP_PACE_ACTIVE 0 = 8 := by decide +kernel
@[simp] theorem width_sup_pace_changes_0 : widthAt Ix.SUP_PACE_CHANGES 0 = 32 := by decide +kernel
@[simp] theorem width_sup_pace_req_0 : widthAt Ix.SUP_PACE_REQ 0 = 8 := by decide +kernel
@[simp] theorem width_sup_reset_cause_0 : widthAt Ix.SUP_RESET_CAUSE 0 = 16 := by decide +kernel
@[simp] theorem width_sup_reset_count_0 : widthAt Ix.SUP_RESET_COUNT 0 = 32 := by decide +kernel
@[simp] theorem width_sup_status_0 : widthAt Ix.SUP_STATUS 0 = 16 := by decide +kernel
@[simp] theorem width_sup_vbat_0 : widthAt Ix.SUP_VBAT 0 = 16 := by decide +kernel
@[simp] theorem width_sup_vcc5_0 : widthAt Ix.SUP_VCC5 0 = 16 := by decide +kernel
@[simp] theorem width_sup_vgd_0 : widthAt Ix.SUP_VGD 0 = 16 := by decide +kernel
@[simp] theorem width_sup_vhold_0 : widthAt Ix.SUP_VHOLD 0 = 16 := by decide +kernel
@[simp] theorem width_sup_vio_0 : widthAt Ix.SUP_VIO 0 = 16 := by decide +kernel
@[simp] theorem width_sup_wake_cause_0 : widthAt Ix.SUP_WAKE_CAUSE 0 = 8 := by decide +kernel
@[simp] theorem width_sto_cp_serial_0 : widthAt Ix.STO_CP_SERIAL 0 = 32 := by decide +kernel
@[simp] theorem width_sto_ledger_head_0 : widthAt Ix.STO_LEDGER_HEAD 0 = 32 := by decide +kernel
@[simp] theorem width_sto_ledger_status_0 : widthAt Ix.STO_LEDGER_STATUS 0 = 16 := by decide +kernel
@[simp] theorem width_sto_otp_banks_0 : widthAt Ix.STO_OTP_BANKS 0 = 32 := by decide +kernel
@[simp] theorem width_sto_otp_prog_status_0 : widthAt Ix.STO_OTP_PROG_STATUS 0 = 8 := by decide +kernel
@[simp] theorem width_sto_post_0 : widthAt Ix.STO_POST 0 = 8 := by decide +kernel
@[simp] theorem width_sto_post_time_0 : widthAt Ix.STO_POST_TIME 0 = 32 := by decide +kernel
@[simp] theorem width_pac_dl_cal_count_0 : widthAt Ix.PAC_DL_CAL_COUNT 0 = 32 := by decide +kernel
@[simp] theorem width_pac_dl_steps_0 : widthAt Ix.PAC_DL_STEPS 0 = 16 := by decide +kernel
@[simp] theorem width_pac_source_0 : widthAt Ix.PAC_SOURCE 0 = 8 := by decide +kernel
@[simp] theorem width_pac_source_active_0 : widthAt Ix.PAC_SOURCE_ACTIVE 0 = 8 := by decide +kernel
@[simp] theorem width_net_status_0 : widthAt Ix.NET_STATUS 0 = 16 := by decide +kernel
@[simp] theorem width_gth_crc_err_tx_1 : widthAt Ix.GTH_CRC_ERR_TX 1 = 32 := by decide +kernel
@[simp] theorem width_gth_crc_err_tx_2 : widthAt Ix.GTH_CRC_ERR_TX 2 = 32 := by decide +kernel
@[simp] theorem width_gth_resends_0 : widthAt Ix.GTH_RESENDS 0 = 32 := by decide +kernel
@[simp] theorem width_gth_restarts_0 : widthAt Ix.GTH_RESTARTS 0 = 32 := by decide +kernel
@[simp] theorem width_gth_status_0 : widthAt Ix.GTH_STATUS 0 = 16 := by decide +kernel
@[simp] theorem width_gda_bst_uv_0 : widthAt Ix.GDA_BST_UV 0 = 32 := by decide +kernel
@[simp] theorem width_gda_hobble_cmd_0 : widthAt Ix.GDA_HOBBLE_CMD 0 = 8 := by decide +kernel
@[simp] theorem width_gda_trip_latch_0 : widthAt Ix.GDA_TRIP_LATCH 0 = 32 := by decide +kernel
@[simp] theorem width_dev_err_count_0 : widthAt Ix.DEV_ERR_COUNT 0 = 32 := by decide +kernel
@[simp] theorem width_dev_req_count_0 : widthAt Ix.DEV_REQ_COUNT 0 = 32 := by decide +kernel
@[simp] theorem width_dev_state_0 : widthAt Ix.DEV_STATE 0 = 8 := by decide +kernel
@[simp] theorem width_cnv_cal_status_0 : widthAt Ix.CNV_CAL_STATUS 0 = 8 := by decide +kernel
@[simp] theorem width_cnv_status_0 : widthAt Ix.CNV_STATUS 0 = 16 := by decide +kernel
@[simp] theorem width_ax_ce_slot_status_1 (n : Fin 8) : widthAt (axIx Ix.AX_CE_SLOT_STATUS n) 1 = 16 := by revert n; decide +kernel
@[simp] theorem width_ax_ce_slot_status_2 (n : Fin 8) : widthAt (axIx Ix.AX_CE_SLOT_STATUS n) 2 = 16 := by revert n; decide +kernel
@[simp] theorem width_ax_ce_slot_status_3 (n : Fin 8) : widthAt (axIx Ix.AX_CE_SLOT_STATUS n) 3 = 16 := by revert n; decide +kernel
@[simp] theorem width_ax_ce_slot_status_4 (n : Fin 8) : widthAt (axIx Ix.AX_CE_SLOT_STATUS n) 4 = 16 := by revert n; decide +kernel
@[simp] theorem width_ax_ce_slot_status_5 (n : Fin 8) : widthAt (axIx Ix.AX_CE_SLOT_STATUS n) 5 = 16 := by revert n; decide +kernel
@[simp] theorem width_ax_ce_slot_status_6 (n : Fin 8) : widthAt (axIx Ix.AX_CE_SLOT_STATUS n) 6 = 16 := by revert n; decide +kernel
@[simp] theorem width_ax_edp_status_0 (n : Fin 8) : widthAt (axIx Ix.AX_EDP_STATUS n) 0 = 16 := by revert n; decide +kernel
@[simp] theorem width_ax_fe_status_0 (n : Fin 8) : widthAt (axIx Ix.AX_FE_STATUS n) 0 = 16 := by revert n; decide +kernel
@[simp] theorem width_ax_prf_status_0 (n : Fin 8) : widthAt (axIx Ix.AX_PRF_STATUS n) 0 = 16 := by revert n; decide +kernel
@[simp] theorem width_ax_sat_0 (n : Fin 8) : widthAt (axIx Ix.AX_SAT n) 0 = 16 := by revert n; decide +kernel
@[simp] theorem width_ax_sc_status_0 (n : Fin 8) : widthAt (axIx Ix.AX_SC_STATUS n) 0 = 16 := by revert n; decide +kernel
@[simp] theorem width_gda_clear_refused_count_0 : widthAt Ix.GDA_CLEAR_REFUSED_COUNT 0 = 32 := by decide +kernel
@[simp] theorem width_gda_trip_clear_0 : widthAt Ix.GDA_TRIP_CLEAR 0 = 32 := by decide +kernel

end Sys2Proof.Machine
end

