-- ==== Sys2Proof/Tests/Slice0.lean ====
section
/-! SUPPORT. The model's own tests: ill-formed commands that the check refuses, values of the spec's worked examples, one step of the queue, and for every obligation with hypotheses a concrete state and operands that meet them together. -/

set_option Elab.async false
set_option linter.unusedVariables false

open Sys2Proof Sys2Proof.Machine

namespace Sys2Proof.Tests

/-- A session that holds the role Custodian. -/
def custodian : Session := { number := 1, role := 3, slot := 0, port := .spi, node := 0, nonce := List.replicate 8 0, proven := true, key := [], method := 0, freshRx := 0, freshTx := 0 }

/-- A device in READY with that session. -/
def ready : Device :=
  ({ State.reset.dev with
      supply := { State.reset.dev.supply with phase := .running, vbatAbsent := false }
      gda := { State.reset.dev.gda with allOff := false }
      server := { State.reset.dev.server with teamster := true, sessions := [custodian] } }.wr Ix.SUP_STATUS 0 0x79).wr Ix.DEV_STATE 0 devReady

/-- A state at Pacer count 10^9 with some objects written and the rest as `ready` has it. -/
def S (ws : List (Nat × Nat × Nat)) (f : Device → Device := id) : State :=
  ⟨[], 1000000000, f (ws.foldl (fun d w =>
    if w.1 == Ix.DEV_SERIAL then { d with objs := cellPut d.objs (keyOf w.1 w.2.1) w.2.2 } else d.wr w.1 w.2.1 w.2.2) ready)⟩

/-- The custodian as a requester. -/
def C : Requester := ⟨.spi, 0, 1⟩
/-- The host SPI port outside any session. -/
def H : Requester := ⟨.spi, 0, 0⟩
/-- A field requester outside any session. -/
def F : Requester := ⟨.can, 5, 0⟩
/-- A row of the dictionary. -/
def R (index sub : Nat) : ObjRow := (rowOf index sub).getD ⟨0, 0, 0, 0, 0, .u8, .ro, .dash, .none, false, [], .whole, .none⟩


theorem test_wf_byte_of_a_write : (Instr.wf (.pacSourceWrite C 256)) = false := by decide +kernel

theorem test_wf_node_of_14_bits : (Instr.wf (.discover ⟨.can, 0x4000, 0⟩)) = false := by decide +kernel

theorem test_wf_session_of_4_bits : (Instr.wf (.discover ⟨.spi, 0, 16⟩)) = false := by decide +kernel

theorem test_wf_octets_of_a_frame : (Instr.wf (.girthFrameRx .rider [256])) = false := by decide +kernel

theorem test_wf_field_of_16_bits : (Instr.wf (.vbatUv 0x10000)) = false := by decide +kernel

theorem test_wf_field_of_32_bits : (Instr.wf (.nrstLow 0x100000000)) = false := by decide +kernel

theorem test_wf_sources_of_a_handshake : (Instr.wf (.handshakeStall 256 0)) = false := by decide +kernel

theorem test_wf_position_of_24_bits : (Instr.wf (.describe C 0x1000000)) = false := by decide +kernel

theorem test_wf_positions_of_a_list : (Instr.wf (.readMulti C [0, 0x1000000])) = false := by decide +kernel

theorem test_wf_entries_of_a_list : (Instr.wf (.writeMulti C [⟨0, [256]⟩] none)) = false := by decide +kernel

theorem test_wf_last_entry_number : (Instr.wf (.writeMulti C [] (some 32))) = false := by decide +kernel

theorem test_wf_checksum_of_a_transfer : (Instr.wf (.segWriteStart C 0 0 0 0 0x100000000)) = false := by decide +kernel

theorem test_wf_serial_of_64_bits : (Instr.wf (.assign C 0x10000000000000000 0)) = false := by decide +kernel

theorem test_wf_failed_post_code : (Instr.wf (.postComplete 0 (some 0x10000))) = false := by decide +kernel

theorem test_wf_rows_of_39_bits : (Instr.wf (.otpCommandDone 0x8000000000 0)) = false := by decide +kernel

theorem test_wf_trip_source : (Instr.wf (.tripQualEnd 8 0)) = false := by decide +kernel

theorem test_wf_conversion_result : (Instr.wf (.sliceConversionDone ⟨0, 0⟩ 0x8000 false 0)) = false := by decide +kernel

theorem test_wf_burst_results : (Instr.wf (.ilBurstDone [some (-32769)])) = false := by decide +kernel

theorem test_wf_health_of_5_bits : (Instr.wf (.faultIntake [] 32)) = false := by decide +kernel

theorem test_wf_messages_of_32_bits : (Instr.wf (.faultIntake [0x100000000] 0)) = false := by decide +kernel

theorem test_wf_identifier_of_29_bits : (Instr.wf (.canFrameRx 0x20000000 [] true 0)) = false := by decide +kernel

theorem test_wf_payload_of_64_bytes : (Instr.wf (.canFrameRx 0 (List.replicate 65 0) true 0)) = false := by decide +kernel

theorem test_wf_peer_of_144_bits : (Instr.wf (.udpDatagramRx (2 ^ 144) [] true)) = false := by decide +kernel

theorem test_wf_time_of_80_bits : (Instr.wf (.gptpSyncRx 0 (2 ^ 80) 0)) = false := by decide +kernel

theorem test_wf_firmware_words : (Instr.wf (.updBlock C 0 [])) = false := by decide +kernel

theorem test_wf_firmware_word_of_64_bits : (Instr.wf (.updBlock C 0 [2 ^ 64])) = false := by decide +kernel

theorem test_wf_firmware_words_of_a_block : (Instr.wf (.updBlock C 0 (List.replicate 16 0))) = false := by decide +kernel

/-- The device of `ready` after a command. -/
def after (s : State) (i : Instr) : Device := match exec i s with
  | .next t => t.dev
  | _ => s.dev

/-- Table 2.3, the four rows. -/
theorem test_frac16_products : frac16Of (mulFF 0x4000 1) = ⟨0, false⟩ ∧ frac16Of (mulFF 0x4000 3) = ⟨2, false⟩
    ∧ frac16Of (mulFF 0x4000 (sgn 16 0xFFFD)) = ⟨sgn 16 0xFFFE, false⟩ ∧ frac16Of (mulFF (sgn 16 0x8000) (sgn 16 0x8000)) = ⟨0x7FFF, true⟩ := by decide

/-- The worked example of R27: +1.0 times the gain 0x2800 stores 0x7FFF and saturates. -/
theorem test_gain_product : mulFG (16384 - sgn 16 0xC000) 0x2800 = 0x00A0000000 ∧ frac16Of (mulFG 32768 0x2800) = ⟨0x7FFF, true⟩ := by decide

/-- The worked example of R32 to R36: W_BASE 400,000 at 100 kHz has the angle scale 0x0106_24DD, the pump's set is applied. -/
theorem test_base_commit :
    (after (S [(axIx Ix.AX_EDP_PERIOD 0, 0, 51200), (axIx Ix.AX_EDP_EVT 0, 1, 0x2000001)] (fun d => { d with server := { d.server with
        staged := [⟨.base 0, .session 1, [(keyOf (axIx Ix.AX_SHUNT 0) 0, 1000), (keyOf (axIx Ix.AX_V_BASE 0) 0, 57600), (keyOf (axIx Ix.AX_W_BASE 0) 0, 400000)], []⟩] } }))
      (.baseCommit C 0)).rdA Ix.AX_K_ANGLE 0 0 = 0x010624DD := by decide +kernel

/-- The worked example of R36: half the speed base for one period is an exact tie that rounds to the even 0x0083_126E. -/
theorem test_angle_step : angleInc 0x40000000 0x010624DD = 0x0083126E := by decide

/-- Table 18.6: CRC-32C of the byte 0x00, the running value and the result. -/
theorem test_crc32c_feed :
    (after (S [] fun d => d.asyPreset 2) (.asyFeed C [0])).rd Ix.ASY_RUNNING 0 = 0xAD82ACAE
    ∧ (after (S [] fun d => d.asyPreset 2) (.asyFeed C [0])).rd Ix.ASY_RESULT 0 = 0x527D5351 := by decide +kernel

/-- Table 19.6: the address part that the identifier 0x1010_8123 carries. -/
theorem test_can_address : canDest 0x10108123 = 0x8042 ∧ canSrc 0x10108123 = 0x0123 := by decide

/-- A step runs the front command with the queue's rest. -/
theorem test_step_front : step (S [] |> fun s => { s with pending := [.discover F, .strobeLost] })
    = exec (.discover F) (S [] |> fun s => { s with pending := [.strobeLost] }) := rfl

/-- An empty queue lets one Pacer tick pass (R19; log entry 1). -/
theorem test_step_idle : step (S []) = .next { S [] with pacer := 1000000001 } := rfl

/-- The table gives no row bits. -/
theorem test_no_word_is_a_command : decodeTableWord 8 0 = none ∧ decodeTableWord 0 0 = none := ⟨rfl, rfl⟩

theorem witness_GirthFrameReadsBack : ∃ (f : GirthFrame) (alive : Nat), f.type < 16 ∧ f.chan < 16 ∧ f.payload.length ≤ 32 ∧ alive < 256 :=
  ⟨⟨15, 15, List.replicate 32 300⟩, 255, by decide⟩

theorem witness_GirthTimersSend :
    (∃ (s : State) (side : LinkSide), (s.dev.isRunning = true) ∧ ((s.dev.girth.at side).up = true))
    ∧ (∃ (s : State) (side : LinkSide), (s.dev.isRunning = true) ∧ ((s.dev.girth.at side).up = false))
    ∧ (∃ (s : State) (side : LinkSide) (fl : InFlight), (s.dev.isRunning = true) ∧ ((s.dev.girth.at side).up = true) ∧ ((s.dev.girth.at side).inFlight = some fl) ∧ (fl.resends < 3)) :=
  ⟨by refine ⟨S [] (fun d => { d with girth := { d.girth with rider := { d.girth.rider with up := true } } }), .rider, ?_, ?_⟩ <;> decide +kernel,
   by refine ⟨S [], .saddle, ?_, ?_⟩ <;> decide +kernel,
   by refine ⟨S [] (fun d => { d with girth := { d.girth with rider := { d.girth.rider with up := true, inFlight := some ⟨⟨3, 0, [1]⟩, 7, 2⟩ } } }), .rider, ⟨⟨3, 0, [1]⟩, 7, 2⟩, ?_, ?_, ?_, ?_⟩ <;> decide +kernel⟩

theorem witness_GirthFrameIsTaken :
    (∃ (s : State) (side : LinkSide) (bytes : List Nat) (f : GirthFrame) (alive : Nat), (s.dev.isRunning = true) ∧ ((s.dev.girth.at side).up = true) ∧ (parseFrame bytes = some (f, alive)) ∧ (f.restartCode = none) ∧ (alive = ((s.dev.girth.at side).rxAlive + 1) % 256) ∧ (needsAck f.type = true) ∧ (f.type ≠ 2))
    ∧ (∃ (s : State) (side : LinkSide) (bytes : List Nat) (f : GirthFrame) (alive : Nat), (s.dev.isRunning = true) ∧ ((s.dev.girth.at side).up = true) ∧ (parseFrame bytes = some (f, alive)) ∧ (f.restartCode = none) ∧ (alive ≠ ((s.dev.girth.at side).rxAlive + 1) % 256))
    ∧ (∃ (s : State) (side : LinkSide) (bytes : List Nat), (s.dev.isRunning = true) ∧ ((s.dev.girth.at side).up = true) ∧ (parseFrame bytes = none)) :=
  ⟨by refine ⟨S [] (fun d => { d with girth := { d.girth with rider := { d.girth.rider with up := true } } }), .rider, GirthFrame.bytes ⟨3, 0, [5]⟩ 1, ⟨3, 0, [5]⟩, 1, ?_, ?_, ?_, ?_, ?_, ?_, ?_⟩ <;> decide +kernel,
   by refine ⟨S [] (fun d => { d with girth := { d.girth with rider := { d.girth.rider with up := true } } }), .rider, GirthFrame.bytes ⟨3, 0, [5]⟩ 9, ⟨3, 0, [5]⟩, 9, ?_, ?_, ?_, ?_, ?_⟩ <;> decide +kernel,
   by refine ⟨S [] (fun d => { d with girth := { d.girth with rider := { d.girth.rider with up := true } } }), .rider, [1, 2, 3], ?_, ?_, ?_⟩ <;> decide +kernel⟩

theorem witness_GirthLinkGoesDownAndRestarts :
    (∃ (s : State) (side : LinkSide), (s.dev.isRunning = true) ∧ ((s.dev.girth.at side).up = true))
    ∧ (∃ (s : State) (side : LinkSide) (fl : InFlight), (s.dev.isRunning = true) ∧ ((s.dev.girth.at side).up = true) ∧ ((s.dev.girth.at side).inFlight = some fl) ∧ (3 ≤ fl.resends))
    ∧ (∃ (s : State) (side : LinkSide) (bytes : List Nat) (f : GirthFrame) (alive : Nat) (code : Nat), (s.dev.isRunning = true) ∧ ((s.dev.girth.at side).up = true) ∧ (parseFrame bytes = some (f, alive)) ∧ (f.restartCode = some code))
    ∧ (∃ (s : State) (side : LinkSide) (bytes : List Nat) (f : GirthFrame) (alive : Nat) (code : Nat), (s.dev.isRunning = true) ∧ ((s.dev.girth.at side).up = false) ∧ ((s.dev.girth.at (otherSide side)).up = false) ∧ (parseFrame bytes = some (f, alive)) ∧ (f.restartCode = some code) ∧ (alive ≠ 0) ∧ (alive = ((s.dev.girth.at side).rxAlive + 1) % 256) ∧ (31 ≤ (s.dev.girth.at side).accepted) ∧ (32 ≤ (s.dev.girth.at (otherSide side)).accepted)) :=
  ⟨by refine ⟨S [] (fun d => { d with girth := { d.girth with rider := { d.girth.rider with up := true } } }), .rider, ?_, ?_⟩ <;> decide +kernel,
   by refine ⟨S [] (fun d => { d with girth := { d.girth with rider := { d.girth.rider with up := true, inFlight := some ⟨⟨3, 0, [1]⟩, 7, 3⟩ } } }), .rider, ⟨⟨3, 0, [1]⟩, 7, 3⟩, ?_, ?_, ?_, ?_⟩ <;> decide +kernel,
   by refine ⟨S [] (fun d => { d with girth := { d.girth with rider := { d.girth.rider with up := true } } }), .rider, GirthFrame.bytes ⟨0, 0, [0x5A]⟩ 0, ⟨0, 0, [0x5A]⟩, 0, 0x5A, ?_, ?_, ?_, ?_⟩ <;> decide +kernel,
   by refine ⟨S [] (fun d => { d with girth := { d.girth with rider := { d.girth.rider with accepted := 31, rxAlive := 31 }, saddle := { d.girth.saddle with accepted := 32 } } }), .rider, GirthFrame.bytes ⟨0, 0, [0x5A]⟩ 32, ⟨0, 0, [0x5A]⟩, 32, 0x5A, ?_, ?_, ?_, ?_, ?_, ?_, ?_, ?_, ?_⟩ <;> decide +kernel⟩

theorem witness_PacerAndPace :
    (∃ (s : State), (s.dev.isRunning = true) ∧ (s.now % 256 = 0))
    ∧ (∃ (s : State), (s.dev.isRunning = true) ∧ (s.dev.rd Ix.PAC_SOURCE = 0) ∧ (s.dev.supply.xtalLost = false))
    ∧ (∃ (s : State), (s.dev.isRunning = true) ∧ (s.dev.rd Ix.PAC_SOURCE ≠ 0 ∨ s.dev.supply.xtalLost = true))
    ∧ (∃ (s : State) (rq : Requester) (value : Nat), (value ≤ 1) ∧ (s.admits rq Ix.PAC_SOURCE 0 = true))
    ∧ (∃ (s : State) (taps : Nat), (s.dev.isRunning = true))
    ∧ (∃ (s : State) (taps : Nat), (s.dev.isRunning = true))
    ∧ (∃ (s : State) (rq : Requester) (value : Nat), (value ≤ 2) ∧ (s.admits rq Ix.SUP_PACE_REQ 0 = true) ∧ (s.dev.supply.phase ≠ .service) ∧ (s.dev.supply.paceTarget = none) ∧ ((value = 0 → s.heard.tooFastForWalk = false)) ∧ ((value = 2 → s.heard.gallopBarred = false)) ∧ (value ≠ s.dev.supply.pace))
    ∧ (∃ (s : State) (rq : Requester), (s.admits rq Ix.SUP_PACE_REQ 0 = true) ∧ (s.dev.supply.phase ≠ .service) ∧ (s.dev.supply.paceTarget = none) ∧ (s.heard.tooFastForWalk = true))
    ∧ (∃ (s : State) (mode : Nat), (s.dev.isRunning = true) ∧ (s.dev.supply.paceTarget = some mode) ∧ (s.dev.supply.paceKept = none))
    ∧ (∃ (s : State) (mode : Nat), (s.dev.isRunning = true) ∧ (s.dev.supply.paceTarget = some mode)) :=
  ⟨by refine ⟨{ S [] with pacer := 256 }, ?_, ?_⟩ <;> decide +kernel,
   by refine ⟨S [(Ix.PAC_SOURCE_ACTIVE, 0, 0)], ?_, ?_, ?_⟩ <;> decide +kernel,
   by refine ⟨S [(Ix.PAC_SOURCE, 0, 1)], ?_, ?_⟩ <;> decide +kernel,
   by refine ⟨S [], C, 1, ?_, ?_⟩ <;> decide +kernel,
   by refine ⟨S [], 70000, ?_⟩ <;> decide +kernel,
   by refine ⟨S [], 3, ?_⟩ <;> decide +kernel,
   by refine ⟨S [], C, 2, ?_, ?_, ?_, ?_, ?_, ?_, ?_⟩ <;> decide +kernel,
   by refine ⟨S [(axIx Ix.AX_STATE 0, 0, 1), (Ix.GDA_HITCH_AX, 1, 1), (axIx Ix.AX_EDP_PERIOD 0, 0, 60000), (axIx Ix.AX_EDP_EVT 0, 1, 0x2000001)], C, ?_, ?_, ?_, ?_⟩ <;> decide +kernel,
   by refine ⟨S [] (fun d => { d with supply := { d.supply with paceTarget := some 2 } }), 2, ?_, ?_, ?_⟩ <;> decide +kernel,
   by refine ⟨S [] (fun d => { d with supply := { d.supply with paceTarget := some 0 } }), 0, ?_, ?_⟩ <;> decide +kernel⟩

theorem witness_ReadAnswersTheValue :
    (∃ (s : State) (rq : Requester) (key : ObjKey) (role : Role) (r : ObjRow), (s.reaches (.of rq) (askedRead key) = some role) ∧ (rowOf (keyIndex key) (keySub key) = some r) ∧ (r.type.isSegmented = false) ∧ (r.type ≠ .string) ∧ ((∀ w, r.access ≠ .wo w)) ∧ ((viewObject (keyIndex key) = true → rq.port = .spi)) ∧ ((asyObject (keyIndex key) = true → s.dev.bitOf Ix.ASY_STATUS 9 = false))) :=
  by refine ⟨S [], F, keyOf Ix.DEV_STATE 0, .reader, R Ix.DEV_STATE 0, ?_, ?_, ?_, ?_, ?_, ?_, ?_⟩; (decide +kernel); (decide +kernel); (decide +kernel); (decide +kernel); (intro w; cases w <;> decide +kernel); (decide +kernel); (decide +kernel)

theorem witness_RequestsRefusedBeforeTheValue :
    (∃ (s : State) (rq : Requester) (key : ObjKey) (role : Role) (staged : Bool), (s.reaches (.of rq) (askedRead key) = some role) ∧ (rowOf (keyIndex key) (keySub key) = none))
    ∧ (∃ (s : State) (rq : Requester) (index : Nat) (sub : Nat) (bytes : List Nat) (role : Role), (sub < 256) ∧ (s.reaches (.of rq) (askedWrite index sub) = some role) ∧ (rowOf index sub = none))
    ∧ (∃ (s : State) (rq : Requester) (index : Nat) (sub : Nat) (bytes : List Nat) (role : Role) (r : ObjRow), (sub < 256) ∧ (s.reaches (.of rq) (askedWrite index sub) = some role) ∧ (rowOf index sub = some r) ∧ (r.type.isSegmented = false) ∧ (lengthOk r.type bytes = false))
    ∧ (∃ (s : State) (rq : Requester) (index : Nat) (sub : Nat) (bytes : List Nat) (role : Role) (r : ObjRow), (sub < 256) ∧ (s.reaches (.of rq) (askedWrite index sub) = some role) ∧ (rowOf index sub = some r) ∧ (r.type.isSegmented = false) ∧ (lengthOk r.type bytes = true) ∧ (r.access.writer = none))
    ∧ (∃ (s : State) (rq : Requester) (index : Nat) (sub : Nat) (bytes : List Nat) (role : Role) (need : Role) (r : ObjRow), (sub < 256) ∧ (s.reaches (.of rq) (askedWrite index sub) = some role) ∧ (rowOf index sub = some r) ∧ (r.type.isSegmented = false) ∧ (lengthOk r.type bytes = true) ∧ (r.access.writer = some need) ∧ ((s.heard.writeRole (.of rq) role index).holds need = false)) :=
  ⟨by refine ⟨S [], F, keyOf 0 5, .reader, false, ?_, ?_⟩ <;> decide +kernel,
   by refine ⟨S [], C, 0xFFF, 0, [1], .custodian, ?_, ?_, ?_⟩ <;> decide +kernel,
   by refine ⟨S [], C, Ix.SUP_PACE_REQ, 0, [1, 2], .custodian, R Ix.SUP_PACE_REQ 0, ?_, ?_, ?_, ?_, ?_⟩ <;> decide +kernel,
   by refine ⟨S [], C, Ix.DEV_STATE, 0, [1], .custodian, R Ix.DEV_STATE 0, ?_, ?_, ?_, ?_, ?_, ?_⟩ <;> decide +kernel,
   by refine ⟨S [], F, Ix.SUP_PACE_REQ, 0, [1], .reader, .operator, R Ix.SUP_PACE_REQ 0, ?_, ?_, ?_, ?_, ?_, ?_, ?_⟩ <;> decide +kernel⟩

theorem witness_StagedWriteGoesIntoTheSet :
    (∃ (s : State) (rq : Requester) (index : Nat) (sub : Nat) (v : Nat) (r : ObjRow) (b : Block), (sub < 256) ∧ (s.admits rq index sub = true) ∧ (rowOf index sub = some r) ∧ (r.cls = .staged) ∧ (r.type.isSegmented = false) ∧ (r.type ≠ .string) ∧ (v < 256 ^ r.type.size) ∧ (r.takes index v = true) ∧ (blockOf index = some b) ∧ ((∀ x, s.dev.stagedOf b = some x → x.owner = (Caller.of rq).owner)))
    ∧ (∃ (s : State) (rq : Requester) (index : Nat) (sub : Nat) (v : Nat) (r : ObjRow) (b : Block) (x : StagedSet), (sub < 256) ∧ (s.admits rq index sub = true) ∧ (rowOf index sub = some r) ∧ (r.cls = .staged) ∧ (r.type.isSegmented = false) ∧ (r.type ≠ .string) ∧ (v < 256 ^ r.type.size) ∧ (r.takes index v = true) ∧ (blockOf index = some b) ∧ (s.dev.stagedOf b = some x) ∧ (x.owner ≠ (Caller.of rq).owner)) :=
  ⟨by refine ⟨S [], C, Ix.THM_CLASS_RIDER, 1, 100, R Ix.THM_CLASS_RIDER 1, .thm, ?_, ?_, ?_, ?_, ?_, ?_, ?_, ?_, ?_, ?_⟩; (decide +kernel); (decide +kernel); (decide +kernel); (decide +kernel); (decide +kernel); (decide +kernel); (decide +kernel); (decide +kernel); (decide +kernel); (intro x h; have e : Option.isSome _ = true := congrArg Option.isSome h; exact absurd e (by decide +kernel)),
   by refine ⟨S [] (fun d => { d with server := { d.server with staged := [⟨.thm, .hostSpi, [], []⟩] } }), C, Ix.THM_CLASS_RIDER, 1, 100, R Ix.THM_CLASS_RIDER 1, .thm, ⟨.thm, .hostSpi, [], []⟩, ?_, ?_, ?_, ?_, ?_, ?_, ?_, ?_, ?_, ?_, ?_⟩ <;> decide +kernel⟩

theorem witness_CommitTakesOrKeepsTheSet :
    (∃ (s : State) (rq : Requester) (b : Block) (x : StagedSet), (s.admits rq b.commit 0 = true) ∧ (s.heard.stagedOf b = some x) ∧ (x.owner = (Caller.of rq).owner) ∧ (s.heard.swapBlocks b = false) ∧ (firstFailing (b.conds s.heard (s.heard.merge x)) = none))
    ∧ (∃ (s : State) (rq : Requester) (b : Block) (x : StagedSet) (k : Nat), (s.admits rq b.commit 0 = true) ∧ (s.heard.stagedOf b = some x) ∧ (x.owner = (Caller.of rq).owner) ∧ (s.heard.swapBlocks b = false) ∧ (firstFailing (b.conds s.heard (s.heard.merge x)) = some k)) :=
  ⟨by refine ⟨S [] (fun d => { d with server := { d.server with staged := [⟨.rein, .session 1, [], []⟩] } }), C, .rein, ⟨.rein, .session 1, [], []⟩, ?_, ?_, ?_, ?_, ?_⟩ <;> decide +kernel,
   by refine ⟨S [] (fun d => { d with server := { d.server with staged := [⟨.rein, .session 1, [(keyOf (Ix.REIN_CFG) 3, 1), (keyOf (Ix.REIN_CFG + 1) 3, 1)], []⟩] } }), C, .rein, ⟨.rein, .session 1, [(keyOf (Ix.REIN_CFG) 3, 1), (keyOf (Ix.REIN_CFG + 1) 3, 1)], []⟩, 3, ?_, ?_, ?_, ?_, ?_⟩ <;> decide +kernel⟩

theorem witness_StagedSetsAreDiscardedByTheirOwner :
    (∃ (s : State) (rq : Requester) (b : Block) (x : StagedSet), (s.admits rq b.commit 0 = true) ∧ (s.heard.stagedOf b = some x) ∧ (x.owner = (Caller.of rq).owner))
    ∧ (∃ (s : State) (rq : Requester) (b : Block) (x : StagedSet) (c : Instr), (c = .stagedDiscard rq b ∨ c = commitCommand rq b) ∧ (s.admits rq b.commit 0 = true) ∧ (s.heard.stagedOf b = some x) ∧ (x.owner ≠ (Caller.of rq).owner))
    ∧ (∃ (s : State) (rq : Requester) (b : Block) (c : Instr), (c = .stagedDiscard rq b ∨ c = commitCommand rq b) ∧ (s.admits rq b.commit 0 = true) ∧ (s.heard.stagedOf b = none)) :=
  ⟨by refine ⟨S [] (fun d => { d with server := { d.server with staged := [⟨.rein, .session 1, [], []⟩] } }), C, .rein, ⟨.rein, .session 1, [], []⟩, ?_, ?_, ?_⟩ <;> decide +kernel,
   by refine ⟨S [] (fun d => { d with server := { d.server with staged := [⟨.rein, .hostSpi, [], []⟩] } }), C, .rein, ⟨.rein, .hostSpi, [], []⟩, commitCommand C .rein, ?_, ?_, ?_, ?_⟩ <;> decide +kernel,
   by refine ⟨S [], C, .rein, .stagedDiscard C .rein, ?_, ?_, ?_⟩ <;> decide +kernel⟩

theorem witness_WriteMultiIsAllOrNothing :
    (∃ (s : State) (rq : Requester) (es : List WriteEntry) (late : Option Nat) (role : Role) (i : Nat) (r : Refused), (s.reaches (.of rq) ⟨es.map (·.key), false, false⟩ = some role) ∧ (es ≠ []) ∧ (es.length ≤ 16) ∧ (Device.writeEntries s.now (.of rq) role es.length 1 es s.heard = .error (i, r)))
    ∧ (∃ (s : State) (rq : Requester) (es : List WriteEntry) (role : Role) (d : Device), (s.reaches (.of rq) ⟨es.map (·.key), false, false⟩ = some role) ∧ (es ≠ []) ∧ (es.length ≤ 16) ∧ (Device.writeEntries s.now (.of rq) role es.length 1 es s.heard = .ok d))
    ∧ (∃ (s : State) (rq : Requester) (es : List WriteEntry) (late : Option Nat) (role : Role), (s.reaches (.of rq) ⟨es.map (·.key), false, false⟩ = some role) ∧ (es = [] ∨ 16 < es.length)) :=
  ⟨by refine ⟨S [], C, [⟨keyOf Ix.ASY_RESTART 0, [1]⟩, ⟨keyOf Ix.DEV_STATE 0, [1]⟩], none, .custodian, 2, refusal 6 Ix.DEV_STATE 0, ?_, ?_, ?_, ?_⟩; (decide +kernel); (decide +kernel); (decide +kernel); (rfl),
   by refine ⟨S [], C, [⟨keyOf Ix.ASY_RESTART 0, [1]⟩], .custodian, (S []).heard.asyRestart, ?_, ?_, ?_, ?_⟩; (decide +kernel); (decide +kernel); (decide +kernel); (rfl),
   by refine ⟨S [], C, [], none, .custodian, ?_, ?_⟩ <;> decide +kernel⟩

theorem witness_DescribeAndReadMultiAnswer :
    (∃ (s : State) (rq : Requester) (key : ObjKey) (role : Role) (r : ObjRow), (s.reaches (.of rq) (askedRead key) = some role) ∧ (rowOf (keyIndex key) (keySub key) = some r) ∧ (s.dev.bitOf Ix.ASY_STATUS 9 = false))
    ∧ (∃ (s : State) (rq : Requester) (keys : List ObjKey) (role : Role), (s.reaches (.of rq) ⟨keys, true, false⟩ = some role) ∧ (keys ≠ []) ∧ (keys.length ≤ 16)) :=
  ⟨by refine ⟨S [], F, keyOf Ix.DEV_STATE 0, .reader, R Ix.DEV_STATE 0, ?_, ?_, ?_⟩ <;> decide +kernel,
   by refine ⟨S [], F, [keyOf Ix.DEV_STATE 0, keyOf Ix.SUP_VBAT 0], .reader, ?_, ?_, ?_⟩ <;> decide +kernel⟩

theorem witness_SegmentedTransfer :
    (∃ (s : State) (rq : Requester) (key : ObjKey) (first : Nat) (count : Nat) (length : Nat) (crc : Nat) (n : Nat) (role : Role) (r : ObjRow), (s.reaches (.of rq) ⟨[key], false, false⟩ = some role) ∧ (rowOf (keyIndex key) (keySub key) = some r) ∧ (r.type.isSegmented = true) ∧ (s.heard.writeBar (.of rq) role r (keyIndex key) (keySub key) false = 0) ∧ (entryRange (keyIndex key) first count = some n) ∧ (length ≤ 8192) ∧ ((∀ m, rangeBytes (keyIndex key) n = some m → m = length)) ∧ ((∀ t ∈ s.dev.server.transfers, t.writing = true → t.key = key → t.owner = (Caller.of rq).owner)))
    ∧ (∃ (s : State) (rq : Requester) (offset : Nat) (bytes : List Nat) (role : Role) (x : Transfer), (s.reaches (.of rq) ⟨s.dev.openKeys rq, false, false⟩ = some role) ∧ (s.dev.transferOf (Caller.of rq).owner = some x) ∧ (x.owner = (Caller.of rq).owner) ∧ (x.writing = true) ∧ (offset = x.data.length) ∧ (bytes ≠ []) ∧ (bytes.length ≤ 1024) ∧ (offset + bytes.length < x.length))
    ∧ (∃ (s : State) (rq : Requester) (offset : Nat) (bytes : List Nat) (role : Role) (x : Transfer), (s.reaches (.of rq) ⟨s.dev.openKeys rq, false, false⟩ = some role) ∧ (s.dev.transferOf (Caller.of rq).owner = some x) ∧ (x.writing = true) ∧ (offset = x.data.length) ∧ (bytes ≠ []) ∧ (bytes.length ≤ 1024) ∧ (offset + bytes.length = x.length) ∧ (crc32c (x.data ++ bytes) ≠ x.crc))
    ∧ (∃ (s : State) (rq : Requester) (key : ObjKey) (first : Nat) (count : Nat) (n : Nat) (role : Role) (r : ObjRow), (s.reaches (.of rq) ⟨[key], true, false⟩ = some role) ∧ (rowOf (keyIndex key) (keySub key) = some r) ∧ (r.type.isSegmented = true) ∧ (s.dev.bitOf Ix.ASY_STATUS 9 = false) ∧ (entryRange (keyIndex key) first count = some n) ∧ ((s.heard.bulk s.now (.of rq) (keyIndex key) (keySub key) first n).length ≤ 8192))
    ∧ (∃ (s : State) (rq : Requester) (offset : Nat) (length : Nat) (role : Role) (x : Transfer), (s.reaches (.of rq) ⟨s.dev.openKeys rq, true, false⟩ = some role) ∧ (s.dev.transferOf (Caller.of rq).owner = some x) ∧ (x.writing = false) ∧ (1 ≤ length) ∧ (length ≤ 1024) ∧ (offset + length ≤ x.length))
    ∧ (∃ (s : State) (rq : Requester) (x : Transfer), (s.dev.isRunning = true) ∧ (s.dev.transferOf (Caller.of rq).owner = some x)) :=
  ⟨by refine ⟨S [], C, keyOf Ix.STO_CAL_RECORD 0, 0, 0, 256, 0, 0, .custodian, R Ix.STO_CAL_RECORD 0, ?_, ?_, ?_, ?_, ?_, ?_, ?_, ?_⟩; (decide +kernel); (decide +kernel); (decide +kernel); (decide +kernel); (decide +kernel); (decide +kernel); (intro m h; have e : Option.isSome _ = true := congrArg Option.isSome h; exact absurd e (by decide +kernel)); (decide +kernel),
   by refine ⟨S [] (fun d => { d with server := { d.server with transfers := [⟨.session 1, keyOf Ix.STO_CAL_RECORD 0, true, 0, 0, 256, 0, []⟩] } }), C, 0, [1, 2], .custodian, ⟨.session 1, keyOf Ix.STO_CAL_RECORD 0, true, 0, 0, 256, 0, []⟩, ?_, ?_, ?_, ?_, ?_, ?_, ?_, ?_⟩ <;> decide +kernel,
   by refine ⟨S [] (fun d => { d with server := { d.server with transfers := [⟨.session 1, keyOf Ix.ASY_FEED 0, true, 0, 0, 2, 0, []⟩] } }), C, 0, [1, 2], .custodian, ⟨.session 1, keyOf Ix.ASY_FEED 0, true, 0, 0, 2, 0, []⟩, ?_, ?_, ?_, ?_, ?_, ?_, ?_, ?_⟩ <;> decide +kernel,
   by refine ⟨S [] (fun d => d.setTab Ix.STO_CAL_RECORD 0 (List.replicate 256 0)), F, keyOf Ix.STO_CAL_RECORD 0, 0, 0, 0, .reader, R Ix.STO_CAL_RECORD 0, ?_, ?_, ?_, ?_, ?_, ?_⟩ <;> decide +kernel,
   by refine ⟨S [] (fun d => { d with server := { d.server with transfers := [⟨.session 1, keyOf Ix.STO_CAL_RECORD 0, false, 0, 0, 3, 0, [7, 8, 9]⟩] } }), C, 1, 2, .custodian, ⟨.session 1, keyOf Ix.STO_CAL_RECORD 0, false, 0, 0, 3, 0, [7, 8, 9]⟩, ?_, ?_, ?_, ?_, ?_, ?_⟩ <;> decide +kernel,
   by refine ⟨S [] (fun d => { d with server := { d.server with transfers := [⟨.session 1, keyOf Ix.STO_CAL_RECORD 0, false, 0, 0, 3, 0, [7, 8, 9]⟩] } }), C, ⟨.session 1, keyOf Ix.STO_CAL_RECORD 0, false, 0, 0, 3, 0, [7, 8, 9]⟩, ?_, ?_⟩ <;> decide +kernel⟩

theorem witness_SatClearClearsEveryFlag :
    (∃ (s : State) (rq : Requester) (n : Fin 8), (s.admits rq (axIx Ix.AX_SAT n) 0 = true)) :=
  by refine ⟨S [(axIx Ix.AX_FE_STATUS 2, 0, 2), (axIx Ix.AX_CE_SLOT_STATUS 2, 3, 2)], C, 2, ?_⟩ <;> decide +kernel

theorem witness_SessionsOpenAndAreProven :
    (∃ (s : State) (rq : Requester) (role : Nat) (slot : Nat) (r : Role), (s.reaches (.of { rq with session := 0 }) plainAsked = some r) ∧ (s.heard.openShut = false) ∧ (1 ≤ role) ∧ (role ≤ 3) ∧ (slot ≤ 15) ∧ (rq.node ∉ s.dev.server.locked) ∧ (s.heard.openAllowed rq role slot = true) ∧ (s.dev.server.sessions.length < 8) ∧ ((role = 3 → ∀ x ∈ s.dev.server.sessions, x.role ≠ 3)))
    ∧ (∃ (s : State) (rq : Requester) (dest : Nat) (x : Session) (r : Role), (s.reaches (.of { rq with session := 0 }) plainAsked = some r) ∧ (s.dev.sessionOf rq = some x) ∧ (s.heard.vaultShut = false) ∧ (x.proven = false) ∧ (x.slot = 0) ∧ (s.heard.lifecycle = 0))
    ∧ (∃ (s : State) (rq : Requester) (dest : Nat) (nh : List Nat) (tag : List Nat) (x : Session) (r : Role), (s.reaches (.of { rq with session := 0 }) plainAsked = some r) ∧ (s.dev.sessionOf rq = some x) ∧ (s.heard.vaultShut = false) ∧ (x.proven = false) ∧ (s.heard.methodOf x = 1) ∧ (nh.length = 8) ∧ (tag.length = 8)) :=
  ⟨by refine ⟨S [] (fun d => { d with server := { d.server with sessions := [] } }), H, 3, 0, .operator, ?_, ?_, ?_, ?_, ?_, ?_, ?_, ?_, ?_⟩ <;> decide +kernel,
   by refine ⟨S [] (fun d => { d with server := { d.server with sessions := [{ custodian with proven := false }] } }), C, 0, { custodian with proven := false }, .operator, ?_, ?_, ?_, ?_, ?_, ?_⟩ <;> decide +kernel,
   by refine ⟨S [] (fun d => { d with server := { d.server with sessions := [{ custodian with proven := false, slot := 2 }] } }), C, 0, List.replicate 8 1, List.replicate 8 2, { custodian with proven := false, slot := 2 }, .operator, ?_, ?_, ?_, ?_, ?_, ?_, ?_⟩ <;> decide +kernel⟩

theorem witness_SessionsEnd :
    (∃ (s : State) (rq : Requester) (role : Role), (s.reaches (.of rq) plainAsked = some role) ∧ (rq.session ≠ 0))
    ∧ (∃ (s : State) (n : Nat), (s.dev.isRunning = true))
    ∧ (∃ (s : State) (n : Nat), (s.dev.isRunning = true) ∧ ((∃ x ∈ s.dev.server.sessions, x.number = n ∧ x.proven = false)))
    ∧ (∃ (s : State) (node : Nat), (s.dev.isRunning = true))
    ∧ (∃ (s : State), (s.dev.isRunning = true))
    ∧ (∃ (s : State), (s.dev.isRunning = true) ∧ (s.dev.server.teamster = false)) :=
  ⟨by refine ⟨S [], C, .custodian, ?_, ?_⟩ <;> decide +kernel,
   by refine ⟨S [], 1, ?_⟩ <;> decide +kernel,
   by refine ⟨S [] (fun d => { d with server := { d.server with sessions := [{ custodian with proven := false }] } }), 1, ?_, ?_⟩ <;> decide +kernel,
   by refine ⟨S [] (fun d => { d with server := { d.server with locked := [5, 6], failed := [(5, 1)] } }), 5, ?_⟩ <;> decide +kernel,
   by refine ⟨S [], ?_⟩ <;> decide +kernel,
   by refine ⟨S [(Ix.DEV_AXES_ENABLED, 0, 3)] (fun d => { d with server := { d.server with teamster := false } }), ?_, ?_⟩ <;> decide +kernel⟩

theorem witness_AssignDiscoverReceipt :
    (∃ (s : State) (rq : Requester) (role : Role), (s.reaches (.of rq) plainAsked = some role))
    ∧ (∃ (s : State) (rq : Requester) (serial : Nat) (node : Nat) (role : Role), (s.reaches (.of rq) ⟨[], false, false⟩ = some role) ∧ (s.heard.assignAllowed (.of rq) role serial = true) ∧ (node ≤ 0x3FFF) ∧ (s.heard.postStatus = 0))
    ∧ (∃ (s : State) (rq : Requester) (nonce : List Nat) (mask : Nat) (role : Role), (s.reaches (.of rq) plainAsked = some role) ∧ (nonce.length = 16) ∧ (mask < 256) ∧ (s.heard.receiptOk = true)) :=
  ⟨by refine ⟨S [(Ix.DEV_SERIAL, 0, 77)], F, .reader, ?_⟩ <;> decide +kernel,
   by refine ⟨S [(Ix.DEV_SERIAL, 0, 77)], H, 77, 0x123, .operator, ?_, ?_, ?_, ?_⟩ <;> decide +kernel,
   by refine ⟨S [] (fun d => { d with otp := { d.otp with inForce := 0x10 } }), F, List.replicate 16 9, 0x81, .reader, ?_, ?_, ?_, ?_⟩ <;> decide +kernel⟩

theorem witness_SupplyMonitorsAreShown :
    (∃ (s : State) (mv : Nat), (mv < 65536))
    ∧ (∃ (s : State) (mv : Nat), (mv < 65536) ∧ (s.dev.supply.phase = .asleep))
    ∧ (∃ (s : State) (mv : Nat), (mv < 65536) ∧ (s.dev.supply.phase ≠ .asleep))
    ∧ (∃ (s : State) (mv : Nat), (s.dev.isRunning = true) ∧ (mv < 65536))
    ∧ (∃ (s : State) (mv : Nat), (s.dev.isRunning = true) ∧ (mv < 65536))
    ∧ (∃ (s : State) (mv : Nat), (s.dev.isRunning = true) ∧ (mv < 65536))
    ∧ (∃ (s : State) (mv : Nat), (s.dev.isRunning = true) ∧ (mv < 65536))
    ∧ (∃ (s : State) (mv : Nat), (s.dev.isRunning = true) ∧ (mv < 65536))
    ∧ (∃ (s : State) (mv : Nat), (s.dev.isRunning = true) ∧ (mv < 65536))
    ∧ (∃ (s : State) (mv : Nat) (us : Nat), (mv < 65536) ∧ (us < 0x8_0000))
    ∧ (∃ (s : State) (mv : Nat), (mv < 65536)) :=
  ⟨by refine ⟨S [], 12000, ?_⟩ <;> decide +kernel,
   by refine ⟨S [] (fun d => { d with supply := { d.supply with phase := .asleep } }), 2999, ?_, ?_⟩ <;> decide +kernel,
   by refine ⟨S [], 12000, ?_, ?_⟩ <;> decide +kernel,
   by refine ⟨S [], 12000, ?_, ?_⟩ <;> decide +kernel,
   by refine ⟨S [], 12000, ?_, ?_⟩ <;> decide +kernel,
   by refine ⟨S [], 12000, ?_, ?_⟩ <;> decide +kernel,
   by refine ⟨S [], 12000, ?_, ?_⟩ <;> decide +kernel,
   by refine ⟨S [], 12000, ?_, ?_⟩ <;> decide +kernel,
   by refine ⟨S [], 12000, ?_, ?_⟩ <;> decide +kernel,
   by refine ⟨S [], 12000, 800, ?_, ?_⟩ <;> decide +kernel,
   by refine ⟨S [], 12000, ?_⟩ <;> decide +kernel⟩

theorem witness_WarningAndPowerLoss :
    (∃ (s : State) (mv : Nat), (s.dev.isRunning = true) ∧ (mv < 65536) ∧ (s.dev.bitOf Ix.SUP_STATUS 1 = false) ∧ (mv ≤ s.dev.rd Ix.SUP_BOW_LEVEL))
    ∧ (∃ (s : State) (mv : Nat) (c : Instr), (s.dev.isRunning = true) ∧ (mv < 65536) ∧ ((c = .brownOutWarn mv ∧ s.dev.belowLevel mv = false) ∨ (c = .brownOutClear mv ∧ s.dev.aboveLevel mv = false)))
    ∧ (∃ (s : State) (mv : Nat), (s.dev.isRunning = true) ∧ (mv < 65536) ∧ (s.dev.rd Ix.SUP_BOW_LEVEL + 300 ≤ mv))
    ∧ (∃ (s : State) (mv : Nat), (s.dev.isRunning = true) ∧ (mv < 65536) ∧ (s.dev.bitOf Ix.SUP_STATUS 7 = false))
    ∧ (∃ (s : State), (s.dev.isRunning = true) ∧ (s.dev.bitOf Ix.SUP_STATUS 7 = true) ∧ (s.dev.ledger.post = none) ∧ (s.dev.supply.cpDone = true))
    ∧ (∃ (s : State) (mv : Nat), (s.dev.isRunning = true) ∧ (mv < 65536) ∧ (s.dev.bitOf Ix.SUP_STATUS 7 = false))
    ∧ (∃ (s : State) (mv : Nat), (s.dev.isRunning = true) ∧ (mv < 65536) ∧ (s.dev.bitOf Ix.SUP_STATUS 7 = true)) :=
  ⟨by refine ⟨S [(Ix.SUP_BOW_LEVEL, 0, 9000)], 9000, ?_, ?_, ?_, ?_⟩ <;> decide +kernel,
   by refine ⟨S [(Ix.SUP_BOW_LEVEL, 0, 9000)], 9231, .brownOutWarn 9231, ?_, ?_, ?_⟩ <;> decide +kernel,
   by refine ⟨S [(Ix.SUP_STATUS, 0, 0x82), (Ix.SUP_BOW_LEVEL, 0, 9000)] (fun d => { d with supply := { d.supply with cpDone := true } }), 9300, ?_, ?_, ?_⟩ <;> decide +kernel,
   by refine ⟨S [], 4000, ?_, ?_, ?_⟩ <;> decide +kernel,
   by refine ⟨S [(Ix.SUP_STATUS, 0, 0x80)] (fun d => { d with supply := { d.supply with cpDone := true, deferred := 10 } }), ?_, ?_, ?_, ?_⟩ <;> decide +kernel,
   by refine ⟨S [], 2000, ?_, ?_, ?_⟩ <;> decide +kernel,
   by refine ⟨S [(Ix.SUP_STATUS, 0, 0x80)], 2000, ?_, ?_, ?_⟩ <;> decide +kernel⟩

theorem witness_DeviceResets :
    (∃ (s : State) (ns : Nat), (1000 ≤ ns) ∧ (s.dev.bitOf Ix.SUP_STATUS 7 = true))
    ∧ (∃ (s : State) (ns : Nat), (1000 ≤ ns) ∧ (s.dev.bitOf Ix.SUP_STATUS 7 = false))
    ∧ (∃ (s : State) (ns : Nat), (ns ≤ 200))
    ∧ (∃ (s : State) (rq : Requester), (s.admits rq Ix.SUP_RESET 0 = true) ∧ (s.dev.bitOf Ix.SUP_STATUS 7 = false))
    ∧ (∃ (s : State) (channel : Nat), (s.dev.isRunning = true) ∧ (s.dev.bitOf Ix.SUP_STATUS 7 = false))
    ∧ (∃ (s : State) (source : Nat) (channel : Nat), (s.dev.isPowered = true) ∧ (source ≠ 0)) :=
  ⟨by refine ⟨S [(Ix.SUP_STATUS, 0, 0x80)], 1000, ?_, ?_⟩ <;> decide +kernel,
   by refine ⟨S [], 1000, ?_, ?_⟩ <;> decide +kernel,
   by refine ⟨S [], 200, ?_⟩ <;> decide +kernel,
   by refine ⟨S [], C, ?_, ?_⟩ <;> decide +kernel,
   by refine ⟨S [], 3, ?_, ?_⟩ <;> decide +kernel,
   by refine ⟨S [], 0x40, 3, ?_, ?_⟩ <;> decide +kernel⟩

theorem witness_PowerOnResetsAndSleep :
    (∃ (s : State), (s.dev.supply.phase ≠ .asleep) ∧ (s.dev.supply.phase ≠ .service))
    ∧ (∃ (s : State), (s.dev.supply.phase = .asleep ∨ s.dev.supply.phase = .service))
    ∧ (∃ (s : State) (source : WakeSource), (s.dev.supply.phase = .asleep) ∧ (bit s.dev.supply.wakeArmed (wakeNumber source) = true) ∧ ((∀ did, source = .pin did → did.val = s.dev.rd Ix.SUP_WAKE_PIN_MODE)) ∧ ((source = .hostSpi → s.dev.bitOf Ix.SUP_STATUS 5 = true)))
    ∧ (∃ (s : State), (s.dev.supply.phase = .asleep) ∧ (bit s.dev.supply.wakeArmed 4 = true))
    ∧ (∃ (s : State), (s.dev.supply.phase = .service) ∧ (s.dev.ledger.post = none))
    ∧ (∃ (s : State), (s.dev.supply.phase = .service) ∧ (s.dev.ledger.post ≠ none))
    ∧ (∃ (s : State) (rq : Requester), (s.admits rq Ix.SUP_SLEEP 0 = true) ∧ (s.heard.sleepStatus = 0)) :=
  ⟨by refine ⟨S [], ?_, ?_⟩ <;> decide +kernel,
   by refine ⟨S [] (fun d => { d with supply := { d.supply with phase := .service } }), ?_⟩ <;> decide +kernel,
   by refine ⟨S [(Ix.SUP_WAKE_PIN_MODE, 0, 2)] (fun d => { d with supply := { d.supply with phase := .asleep, wakeArmed := 1 } }), .pin 2, ?_, ?_, ?_, ?_⟩ <;> decide +kernel,
   by refine ⟨S [] (fun d => { d with supply := { d.supply with phase := .asleep, wakeArmed := 16 } }), ?_, ?_⟩ <;> decide +kernel,
   by refine ⟨S [] (fun d => { d with supply := { d.supply with phase := .service } }), ?_, ?_⟩ <;> decide +kernel,
   by refine ⟨S [] (fun d => { d with supply := { d.supply with phase := .service }, ledger := { d.ledger with post := some [] } }), ?_, ?_⟩ <;> decide +kernel,
   by refine ⟨S [(Ix.SUP_WAKE_EN, 0, 1)], C, ?_, ?_⟩ <;> decide +kernel⟩

theorem witness_BootRuns :
    (∃ (s : State) (vbat : Nat) (vio : Nat) (vgd : Nat) (vcc5 : Nat) (vhold : Nat) (bootUs : Nat) (selfTest : Nat) (k : Nat) (d : Device), (s.dev.supply.phase = .held) ∧ (s.dev.releases ⟨vbat, vio, vgd, vcc5, vhold⟩ = true) ∧ (((s.dev.showRails ⟨vbat, vio, vgd, vcc5, vhold⟩).bootSense s.now selfTest).chooseBank s.now = (some k, d)))
    ∧ (∃ (s : State) (vbat : Nat) (vio : Nat) (vgd : Nat) (vcc5 : Nat) (vhold : Nat) (bootUs : Nat) (selfTest : Nat) (d : Device), (s.dev.supply.phase = .held) ∧ (s.dev.releases ⟨vbat, vio, vgd, vcc5, vhold⟩ = true) ∧ (((s.dev.showRails ⟨vbat, vio, vgd, vcc5, vhold⟩).bootSense s.now selfTest).chooseBank s.now = (none, d)))
    ∧ (∃ (s : State) (vbat : Nat) (vio : Nat) (vgd : Nat) (vcc5 : Nat) (vhold : Nat) (bootUs : Nat) (selfTest : Nat), (s.dev.supply.phase ≠ .held ∨ s.dev.releases ⟨vbat, vio, vgd, vcc5, vhold⟩ = false))
    ∧ (∃ (s : State) (vio : Nat), (s.dev.supply.phase = .held) ∧ (s.dev.supply.vbatAbsent = true))
    ∧ (∃ (s : State), (s.dev.isRunning = true) ∧ (s.dev.rd Ix.PAC_SOURCE = 0) ∧ (s.dev.supply.xtalLost = false))
    ∧ (∃ (s : State), (s.dev.isRunning = true) ∧ (s.dev.supply.trialRunning = true) ∧ ((s.dev.state = devReady ∨ s.dev.state = devRun)))
    ∧ (∃ (s : State) (rq : Requester) (k : Nat), (k ≤ 1) ∧ (s.admits rq Ix.SUP_BOOT_BANK_PREF 0 = true) ∧ (s.heard.bankOk k = true))
    ∧ (∃ (s : State) (rq : Requester) (k : Nat), (k ≤ 1) ∧ (s.admits rq Ix.SUP_BOOT_BANK_PREF 0 = true) ∧ (s.heard.bankOk k = false)) :=
  ⟨by refine ⟨S [] (fun d => { d with supply := { d.supply with phase := .held }, boot := ⟨0, false, 0, ⟨true, true, 0, 0, [], false, 16⟩, ⟨false, false, 0, 0, [], false, 0⟩⟩ }), 12000, 3300, 12000, 5000, 12000, 900, 0, 0, ((((S [] (fun d => { d with supply := { d.supply with phase := .held }, boot := ⟨0, false, 0, ⟨true, true, 0, 0, [], false, 16⟩, ⟨false, false, 0, 0, [], false, 0⟩⟩ })).dev.showRails ⟨12000, 3300, 12000, 5000, 12000⟩).bootSense (S [] (fun d => { d with supply := { d.supply with phase := .held }, boot := ⟨0, false, 0, ⟨true, true, 0, 0, [], false, 16⟩, ⟨false, false, 0, 0, [], false, 0⟩⟩ })).now 0).chooseBank (S [] (fun d => { d with supply := { d.supply with phase := .held }, boot := ⟨0, false, 0, ⟨true, true, 0, 0, [], false, 16⟩, ⟨false, false, 0, 0, [], false, 0⟩⟩ })).now).2, ?_, ?_, ?_⟩; (decide +kernel); (decide +kernel); (exact Prod.ext (by decide +kernel) (by dsimp only)),
   by refine ⟨S [] (fun d => { d with supply := { d.supply with phase := .held }, boot := ⟨0, false, 0, ⟨false, false, 0, 0, [], false, 0⟩, ⟨false, false, 0, 0, [], false, 0⟩⟩ }), 12000, 3300, 12000, 5000, 12000, 900, 0, ((((S [] (fun d => { d with supply := { d.supply with phase := .held }, boot := ⟨0, false, 0, ⟨false, false, 0, 0, [], false, 0⟩, ⟨false, false, 0, 0, [], false, 0⟩⟩ })).dev.showRails ⟨12000, 3300, 12000, 5000, 12000⟩).bootSense (S [] (fun d => { d with supply := { d.supply with phase := .held }, boot := ⟨0, false, 0, ⟨false, false, 0, 0, [], false, 0⟩, ⟨false, false, 0, 0, [], false, 0⟩⟩ })).now 0).chooseBank (S [] (fun d => { d with supply := { d.supply with phase := .held }, boot := ⟨0, false, 0, ⟨false, false, 0, 0, [], false, 0⟩, ⟨false, false, 0, 0, [], false, 0⟩⟩ })).now).2, ?_, ?_, ?_⟩; (decide +kernel); (decide +kernel); (exact Prod.ext (by decide +kernel) (by dsimp only)),
   by refine ⟨S [] (fun d => { d with supply := { d.supply with phase := .held } }), 12000, 1500, 12000, 5000, 12000, 900, 0, ?_⟩ <;> decide +kernel,
   by refine ⟨S [(Ix.SUP_STATUS, 0, 0)] (fun d => { d with supply := { d.supply with phase := .held, vbatAbsent := true } }), 3300, ?_, ?_⟩ <;> decide +kernel,
   by refine ⟨S [], ?_, ?_, ?_⟩ <;> decide +kernel,
   by refine ⟨S [] (fun d => { d with supply := { d.supply with trialRunning := true } }), ?_, ?_, ?_⟩ <;> decide +kernel,
   by refine ⟨S [] (fun d => { d with supply := { d.supply with phase := .running }, boot := ⟨1, false, 0, ⟨true, true, 0, 0, [], false, 16⟩, ⟨false, false, 0, 0, [], false, 0⟩⟩ }), C, 0, ?_, ?_, ?_⟩ <;> decide +kernel,
   by refine ⟨S [] (fun d => { d with supply := { d.supply with phase := .running }, boot := ⟨0, false, 0, ⟨true, true, 0, 0, [], false, 16⟩, ⟨false, false, 0, 0, [], false, 0⟩⟩ }), C, 1, ?_, ?_, ?_⟩ <;> decide +kernel⟩

theorem witness_PostIsCapturedAndCompleted :
    (∃ (s : State) (rq : Requester), (s.admits rq Ix.STO_POST 0 = true) ∧ (s.heard.postStatus = 0))
    ∧ (∃ (s : State) (rq : Requester), (s.admits rq Ix.STO_POST 0 = true) ∧ (s.heard.postStatus = 0x0A))
    ∧ (∃ (s : State) (rs : List LedgerRecord) (us : Nat), (s.dev.ledger.post = some rs) ∧ (s.dev.supply.exitPending = false) ∧ (s.dev.rd Ix.STO_LEDGER_HEAD + 1 ≤ 0xFFFF_FFFE))
    ∧ (∃ (s : State) (rs : List LedgerRecord) (us : Nat) (k : Nat), (s.dev.ledger.post = some rs) ∧ (s.dev.supply.exitPending = false) ∧ (s.dev.rd Ix.STO_LEDGER_HEAD + 1 ≤ 0xFFFF_FFFE))
    ∧ (∃ (s : State) (rs : List LedgerRecord) (us : Nat) (failed : Option Nat), (s.dev.ledger.post = some rs) ∧ (s.dev.supply.exitPending = false) ∧ (0xFFFF_FFFE < s.dev.rd Ix.STO_LEDGER_HEAD + 1)) :=
  ⟨by refine ⟨S [], C, ?_, ?_⟩ <;> decide +kernel,
   by refine ⟨S [] (fun d => { d with ledger := { d.ledger with post := some [] } }), C, ?_, ?_⟩ <;> decide +kernel,
   by refine ⟨S [(Ix.STO_LEDGER_HEAD, 0, 0xFFFFFFFD)] (fun d => { d with ledger := { d.ledger with post := some [] } }), [], 10, ?_, ?_, ?_⟩ <;> decide +kernel,
   by refine ⟨S [] (fun d => { d with ledger := { d.ledger with post := some [] } }), [], 10, 7, ?_, ?_, ?_⟩ <;> decide +kernel,
   by refine ⟨S [(Ix.STO_LEDGER_HEAD, 0, 0xFFFFFFFE)] (fun d => { d with ledger := { d.ledger with post := some [] } }), [], 10, some 0xFFFF, ?_, ?_, ?_⟩ <;> decide +kernel⟩

set_option maxRecDepth 200000 in
theorem witness_DefaultsCheckpointsCalibration :
    (∃ (s : State) (rq : Requester), (s.admits rq Ix.DEV_RESTORE_DEFAULTS 0 = true))
    ∧ (∃ (s : State), (s.dev.isRunning = true) ∧ (s.dev.bitOf Ix.SUP_STATUS 1 = false) ∧ (s.dev.bitOf Ix.SUP_STATUS 7 = false))
    ∧ (∃ (s : State) (rq : Requester) (bytes : List Octet), (s.admitsBlob rq Ix.STO_CAL_RECORD = true) ∧ (s.heard.calRecordOk bytes = true))
    ∧ (∃ (s : State) (rq : Requester) (bytes : List Octet), (s.admitsBlob rq Ix.STO_CAL_RECORD = true) ∧ (s.heard.calRecordOk bytes = false)) :=
  ⟨by refine ⟨S [], C, ?_⟩ <;> decide +kernel,
   by refine ⟨S [], ?_, ?_, ?_⟩ <;> decide +kernel,
   by refine ⟨S [(Ix.DEV_SERIAL, 0, 77)] (fun d => d.setTab Ix.STO_CAL_RECORD 0 (List.replicate 256 0)), C, (((1 :: List.replicate 3 0) ++ 77 :: List.replicate 247 0 ++ [67, 220, 170, 13] : List Nat).map fun x => (Fin.ofNat 256 x : Octet)), ?_, ?_⟩ <;> decide +kernel,
   by refine ⟨S [(Ix.DEV_SERIAL, 0, 77)], C, [1, 2], ?_, ?_⟩ <;> decide +kernel⟩

theorem witness_OtpCommands :
    (∃ (s : State) (rq : Requester), (s.admits rq Ix.STO_OTP_PROG_CMD 0 = true) ∧ (s.heard.otpGate = 0) ∧ (s.heard.programBad = false))
    ∧ (∃ (s : State) (rq : Requester), (s.admits rq Ix.STO_OTP_PROG_CMD 0 = true) ∧ (s.heard.otpGate = 0) ∧ (s.heard.sealBad = false))
    ∧ (∃ (s : State) (rq : Requester), (s.admits rq Ix.STO_OTP_PROG_CMD 0 = true) ∧ (s.heard.otpGate = 0) ∧ (s.heard.lockBad = false))
    ∧ (∃ (s : State) (rq : Requester), (s.admits rq Ix.STO_OTP_PROG_CMD 0 = true) ∧ (s.heard.otpGate = 0) ∧ (s.heard.lockVoidBad = false))
    ∧ (∃ (s : State) (rq : Requester), (s.admits rq Ix.STO_OTP_PROG_CMD 0 = true) ∧ (s.heard.otpGate = 0x0A))
    ∧ (∃ (s : State) (j : OtpJob) (weak : Nat) (missing : Nat), (s.dev.isRunning = true) ∧ (s.dev.otp.job = some j) ∧ (j.word < 240))
    ∧ (∃ (s : State) (j : OtpJob), (s.dev.isRunning = true) ∧ (s.dev.otp.job = some j) ∧ (240 ≤ j.word)) :=
  ⟨by refine ⟨S [(Ix.STO_OTP_PROG_ADDR, 0, 113), (Ix.STO_OTP_PROG_DATA, 0, 0x1234)], C, ?_, ?_, ?_⟩ <;> decide +kernel,
   by refine ⟨S [(Ix.STO_OTP_PROG_ADDR, 0, 7)], C, ?_, ?_, ?_⟩ <;> decide +kernel,
   by refine ⟨S [(Ix.STO_OTP_PROG_ADDR, 0, 7)] (fun d => { d with otp := { d.otp with shadow := [(127, ⟨encodeWord (d.checkWord 7), 0⟩)], fuses := [(127, ⟨encodeWord (d.checkWord 7), 0⟩)] } }), C, ?_, ?_, ?_⟩ <;> decide +kernel,
   by refine ⟨S [(Ix.STO_OTP_PROG_ADDR, 0, 7)], C, ?_, ?_, ?_⟩ <;> decide +kernel,
   by refine ⟨S [] (fun d => { d with ledger := { d.ledger with post := some [] } }), C, ?_, ?_⟩ <;> decide +kernel,
   by refine ⟨S [] (fun d => { d with otp := { d.otp with job := some ⟨113, 0x1234⟩ } }), ⟨113, 0x1234⟩, 0, 4, ?_, ?_, ?_⟩ <;> decide +kernel,
   by refine ⟨S [] (fun d => { d with otp := { d.otp with job := some ⟨240, 0x7FFFFFFFFF⟩ } }), ⟨240, 0x7FFFFFFFFF⟩, ?_, ?_, ?_⟩ <;> decide +kernel⟩

theorem witness_TripSourcesLatchTheirLegs :
    (∃ (s : State) (l : Fin 24) (high : Bool), (s.dev.isRunning = true) ∧ ((s.dev.leg l).monitors = true))
    ∧ (∃ (s : State) (l : Fin 24), (s.dev.isRunning = true) ∧ ((s.dev.leg l).monitors = true))
    ∧ (∃ (s : State) (l : Fin 24) (c : Instr) (src : Nat), (s.dev.isRunning = true) ∧ ((s.dev.leg l).monitors = true) ∧ ((c = .vdsAction ⟨l, false⟩ true ∧ src = 2) ∨ (c = .vdsAction ⟨l, false⟩ false ∧ src = 3) ∨ (c = .overcurrent ⟨l, false⟩ ∧ src = 4)))
    ∧ (∃ (s : State) (l : Fin 24) (high : Bool) (acts : Bool) (c : Instr), ((c = .vdsAction ⟨l, acts⟩ high ∨ c = .overcurrent ⟨l, acts⟩)) ∧ (s.dev.isRunning = true) ∧ ((s.dev.leg l).monitors = false))
    ∧ (∃ (s : State) (l : Fin 24) (high : Bool) (toOff : Bool), (s.dev.isRunning = true))
    ∧ (∃ (s : State) (pinB : Bool) (ns : Nat), (s.dev.isRunning = true) ∧ (10 ≤ ns))
    ∧ (∃ (s : State), (s.dev.isRunning = true))
    ∧ (∃ (s : State) (rq : Requester), (s.admits rq Ix.GDA_HOBBLE_CMD 0 = true) ∧ (s.dev.hobbleWire = false))
    ∧ (∃ (s : State) (l : Fin 24) (high : Bool) (toOff : Bool), (s.dev.supply.phase = .held) ∧ ((∀ x ∈ s.dev.gda.early, x.src ≠ 7 ∨ x.leg ≠ l.val)))
    ∧ (∃ (s : State), (s.dev.supply.phase = .held) ∧ ((∀ x ∈ s.dev.gda.early, x.src ≠ 6))) :=
  ⟨by refine ⟨S [(Ix.GDA_LEG_OWNER, 1, 0), (Ix.GDA_LEG_OWNER, 2, 0), (Ix.GDA_LEG_OWNER, 3, 0), (Ix.GDA_HITCH_AX, 1, 1), (Ix.GDA_HITCH_AX, 2, 0), (Ix.GDA_HITCH_AX, 3, 1), (Ix.GDA_HITCH_AX, 4, 2), (Ix.GDA_HITCH_AX, 5, 255)] (fun d => { d with gda := { d.gda with legs := d.gda.legs.set 1 { d.leg 1 with monitors := true, high := true } } }), 1, true, ?_, ?_⟩ <;> decide +kernel,
   by refine ⟨S [(Ix.GDA_LEG_OWNER, 1, 0), (Ix.GDA_LEG_OWNER, 2, 0), (Ix.GDA_LEG_OWNER, 3, 0), (Ix.GDA_HITCH_AX, 1, 1), (Ix.GDA_HITCH_AX, 2, 0), (Ix.GDA_HITCH_AX, 3, 1), (Ix.GDA_HITCH_AX, 4, 2), (Ix.GDA_HITCH_AX, 5, 255)] (fun d => { d with gda := { d.gda with legs := d.gda.legs.set 1 { d.leg 1 with monitors := true, high := true } } }), 1, ?_, ?_⟩ <;> decide +kernel,
   by refine ⟨S [(Ix.GDA_LEG_OWNER, 1, 0), (Ix.GDA_LEG_OWNER, 2, 0), (Ix.GDA_LEG_OWNER, 3, 0), (Ix.GDA_HITCH_AX, 1, 1), (Ix.GDA_HITCH_AX, 2, 0), (Ix.GDA_HITCH_AX, 3, 1), (Ix.GDA_HITCH_AX, 4, 2), (Ix.GDA_HITCH_AX, 5, 255)] (fun d => { d with gda := { d.gda with legs := d.gda.legs.set 1 { d.leg 1 with monitors := true } } }), 1, .overcurrent ⟨1, false⟩, 4, ?_, ?_, ?_⟩ <;> decide +kernel,
   by refine ⟨S [(Ix.GDA_LEG_OWNER, 1, 0), (Ix.GDA_LEG_OWNER, 2, 0), (Ix.GDA_LEG_OWNER, 3, 0), (Ix.GDA_HITCH_AX, 1, 1), (Ix.GDA_HITCH_AX, 2, 0), (Ix.GDA_HITCH_AX, 3, 1), (Ix.GDA_HITCH_AX, 4, 2), (Ix.GDA_HITCH_AX, 5, 255)], 1, true, true, .vdsAction ⟨1, true⟩ true, ?_, ?_, ?_⟩ <;> decide +kernel,
   by refine ⟨S [(Ix.GDA_LEG_OWNER, 1, 0), (Ix.GDA_LEG_OWNER, 2, 0), (Ix.GDA_LEG_OWNER, 3, 0), (Ix.GDA_HITCH_AX, 1, 1), (Ix.GDA_HITCH_AX, 2, 0), (Ix.GDA_HITCH_AX, 3, 1), (Ix.GDA_HITCH_AX, 4, 2), (Ix.GDA_HITCH_AX, 5, 255)] (fun d => { d with gda := { d.gda with legs := d.gda.legs.set 1 { d.leg 1 with monitors := true, high := true } } }), 1, true, false, ?_⟩ <;> decide +kernel,
   by refine ⟨S [(Ix.GDA_LEG_OWNER, 1, 0), (Ix.GDA_LEG_OWNER, 2, 0), (Ix.GDA_LEG_OWNER, 3, 0), (Ix.GDA_HITCH_AX, 1, 1), (Ix.GDA_HITCH_AX, 2, 0), (Ix.GDA_HITCH_AX, 3, 1), (Ix.GDA_HITCH_AX, 4, 2), (Ix.GDA_HITCH_AX, 5, 255), (Ix.GDA_TRIPA_MASK, 0, 6)], false, 10, ?_, ?_⟩ <;> decide +kernel,
   by refine ⟨S [(Ix.GDA_LEG_OWNER, 1, 0), (Ix.GDA_LEG_OWNER, 2, 0), (Ix.GDA_LEG_OWNER, 3, 0), (Ix.GDA_HITCH_AX, 1, 1), (Ix.GDA_HITCH_AX, 2, 0), (Ix.GDA_HITCH_AX, 3, 1), (Ix.GDA_HITCH_AX, 4, 2), (Ix.GDA_HITCH_AX, 5, 255)], ?_⟩ <;> decide +kernel,
   by refine ⟨S [(Ix.GDA_LEG_OWNER, 1, 0), (Ix.GDA_LEG_OWNER, 2, 0), (Ix.GDA_LEG_OWNER, 3, 0), (Ix.GDA_HITCH_AX, 1, 1), (Ix.GDA_HITCH_AX, 2, 0), (Ix.GDA_HITCH_AX, 3, 1), (Ix.GDA_HITCH_AX, 4, 2), (Ix.GDA_HITCH_AX, 5, 255)], C, ?_, ?_⟩ <;> decide +kernel,
   by refine ⟨S [] (fun d => (fun d => { d with gda := { d.gda with early := [⟨7, 2, 0x40, 0x45, 2⟩] } }) <| (fun d => { d with supply := { d.supply with phase := .held } }) <| d), 1, true, false, ?_, ?_⟩ <;> decide +kernel,
   by refine ⟨S [] (fun d => (fun d => { d with gda := { d.gda with early := [⟨7, 2, 0x40, 0x45, 2⟩] } }) <| (fun d => { d with supply := { d.supply with phase := .held } }) <| d), ?_, ?_⟩ <;> decide +kernel⟩

theorem witness_TripLatchIsCleared :
    (∃ (s : State) (rq : Requester) (mask : Nat), (s.admits rq Ix.GDA_TRIP_CLEAR 0 = true) ∧ (s.heard.tripClearStatus mask = 0))
    ∧ (∃ (s : State) (rq : Requester) (mask : Nat), (s.admits rq Ix.GDA_TRIP_CLEAR 0 = true) ∧ (s.heard.tripClearStatus mask = 0x10))
    ∧ (∃ (s : State) (source : Nat) (l : Fin 24), (s.dev.isRunning = true) ∧ (source = 2 ∨ source = 3 ∨ source = 4 ∨ source = 7))
    ∧ (∃ (s : State) (source : Nat) (l : Fin 24), (s.dev.isRunning = true) ∧ (source = 0 ∨ source = 1 ∨ source = 6)) :=
  ⟨by refine ⟨S [(Ix.GDA_LEG_OWNER, 1, 0), (Ix.GDA_LEG_OWNER, 2, 0), (Ix.GDA_LEG_OWNER, 3, 0), (Ix.GDA_HITCH_AX, 1, 1), (Ix.GDA_HITCH_AX, 2, 0), (Ix.GDA_HITCH_AX, 3, 1), (Ix.GDA_HITCH_AX, 4, 2), (Ix.GDA_HITCH_AX, 5, 255)] (fun d => { d with gda := { d.gda with legs := d.gda.legs.set 1 { d.leg 1 with latched := true, cmdLow := true } } }.wr Ix.GDA_TRIP_LATCH 0 2), C, 2, ?_, ?_⟩ <;> decide +kernel,
   by refine ⟨S [(Ix.GDA_LEG_OWNER, 1, 0), (Ix.GDA_LEG_OWNER, 2, 0), (Ix.GDA_LEG_OWNER, 3, 0), (Ix.GDA_HITCH_AX, 1, 1), (Ix.GDA_HITCH_AX, 2, 0), (Ix.GDA_HITCH_AX, 3, 1), (Ix.GDA_HITCH_AX, 4, 2), (Ix.GDA_HITCH_AX, 5, 255)] (fun d => { d with gda := { d.gda with legs := d.gda.legs.set 1 { d.leg 1 with latched := true, active := [4] } } }), C, 2, ?_, ?_⟩ <;> decide +kernel,
   by refine ⟨S [(Ix.GDA_LEG_OWNER, 1, 0), (Ix.GDA_LEG_OWNER, 2, 0), (Ix.GDA_LEG_OWNER, 3, 0), (Ix.GDA_HITCH_AX, 1, 1), (Ix.GDA_HITCH_AX, 2, 0), (Ix.GDA_HITCH_AX, 3, 1), (Ix.GDA_HITCH_AX, 4, 2), (Ix.GDA_HITCH_AX, 5, 255)] (fun d => { d with gda := { d.gda with legs := d.gda.legs.set 1 { d.leg 1 with active := [4] } } }), 4, 1, ?_, ?_⟩ <;> decide +kernel,
   by refine ⟨S [(Ix.GDA_LEG_OWNER, 1, 0), (Ix.GDA_LEG_OWNER, 2, 0), (Ix.GDA_LEG_OWNER, 3, 0), (Ix.GDA_HITCH_AX, 1, 1), (Ix.GDA_HITCH_AX, 2, 0), (Ix.GDA_HITCH_AX, 3, 1), (Ix.GDA_HITCH_AX, 4, 2), (Ix.GDA_HITCH_AX, 5, 255)] (fun d => { d with gda := { d.gda with active := [0, 6] } }), 6, 1, ?_, ?_⟩ <;> decide +kernel⟩

theorem witness_GuardAndLegSupplies :
    (∃ (s : State) (l : Fin 24), (s.dev.isRunning = true) ∧ ((s.dev.leg l).latched = false) ∧ (s.dev.gda.allOff = false) ∧ ((s.dev.leg l).waitHigh = true) ∧ ((s.dev.leg l).low = false))
    ∧ (∃ (s : State) (l : Fin 24), (s.dev.isRunning = true) ∧ ((s.dev.leg l).latched = false) ∧ (s.dev.gda.allOff = false) ∧ ((s.dev.leg l).waitLow = true) ∧ ((s.dev.leg l).high = false))
    ∧ (∃ (s : State) (l : Fin 24), (s.dev.isRunning = true) ∧ ((s.dev.leg l).latched = true) ∧ ((s.dev.leg l).waitTrip = true) ∧ ((s.dev.leg l).forceOff = false) ∧ (s.dev.gda.allOff = false) ∧ ((s.dev.leg l).high = false))
    ∧ (∃ (s : State) (l : Fin 24), (s.dev.isRunning = true) ∧ (s.dev.legOwner l < 8) ∧ (s.dev.bitOf Ix.GDA_BST_UV l = false))
    ∧ (∃ (s : State) (l : Fin 24), (s.dev.isRunning = true))
    ∧ (∃ (s : State) (vgd : Nat) (vbat : Nat), (s.dev.isRunning = true) ∧ (vgd < 9000) ∧ (5500 ≤ vbat) ∧ (vbat < 65536))
    ∧ (∃ (s : State) (vgd : Nat), (s.dev.isRunning = true) ∧ (9000 ≤ vgd) ∧ (vgd < 65536))
    ∧ (∃ (s : State), (s.dev.isRunning = true)) :=
  ⟨by refine ⟨S [(Ix.GDA_LEG_OWNER, 1, 0), (Ix.GDA_LEG_OWNER, 2, 0), (Ix.GDA_LEG_OWNER, 3, 0), (Ix.GDA_HITCH_AX, 1, 1), (Ix.GDA_HITCH_AX, 2, 0), (Ix.GDA_HITCH_AX, 3, 1), (Ix.GDA_HITCH_AX, 4, 2), (Ix.GDA_HITCH_AX, 5, 255)] (fun d => { d with gda := { d.gda with legs := d.gda.legs.set 1 { d.leg 1 with waitHigh := true } } }), 1, ?_, ?_, ?_, ?_, ?_⟩ <;> decide +kernel,
   by refine ⟨S [(Ix.GDA_LEG_OWNER, 1, 0), (Ix.GDA_LEG_OWNER, 2, 0), (Ix.GDA_LEG_OWNER, 3, 0), (Ix.GDA_HITCH_AX, 1, 1), (Ix.GDA_HITCH_AX, 2, 0), (Ix.GDA_HITCH_AX, 3, 1), (Ix.GDA_HITCH_AX, 4, 2), (Ix.GDA_HITCH_AX, 5, 255)] (fun d => { d with gda := { d.gda with legs := d.gda.legs.set 1 { d.leg 1 with waitLow := true } } }), 1, ?_, ?_, ?_, ?_, ?_⟩ <;> decide +kernel,
   by refine ⟨S [(Ix.GDA_LEG_OWNER, 1, 0), (Ix.GDA_LEG_OWNER, 2, 0), (Ix.GDA_LEG_OWNER, 3, 0), (Ix.GDA_HITCH_AX, 1, 1), (Ix.GDA_HITCH_AX, 2, 0), (Ix.GDA_HITCH_AX, 3, 1), (Ix.GDA_HITCH_AX, 4, 2), (Ix.GDA_HITCH_AX, 5, 255)] (fun d => { d with gda := { d.gda with legs := d.gda.legs.set 1 { d.leg 1 with latched := true, waitTrip := true, forceOff := false } } }), 1, ?_, ?_, ?_, ?_, ?_, ?_⟩ <;> decide +kernel,
   by refine ⟨S [(Ix.GDA_LEG_OWNER, 1, 0), (Ix.GDA_LEG_OWNER, 2, 0), (Ix.GDA_LEG_OWNER, 3, 0), (Ix.GDA_HITCH_AX, 1, 1), (Ix.GDA_HITCH_AX, 2, 0), (Ix.GDA_HITCH_AX, 3, 1), (Ix.GDA_HITCH_AX, 4, 2), (Ix.GDA_HITCH_AX, 5, 255)] (fun d => { d with gda := { d.gda with legs := d.gda.legs.set 1 { d.leg 1 with high := true } } }), 1, ?_, ?_, ?_⟩ <;> decide +kernel,
   by refine ⟨S [(Ix.GDA_LEG_OWNER, 1, 0), (Ix.GDA_LEG_OWNER, 2, 0), (Ix.GDA_LEG_OWNER, 3, 0), (Ix.GDA_HITCH_AX, 1, 1), (Ix.GDA_HITCH_AX, 2, 0), (Ix.GDA_HITCH_AX, 3, 1), (Ix.GDA_HITCH_AX, 4, 2), (Ix.GDA_HITCH_AX, 5, 255), (Ix.GDA_BST_UV, 0, 2)], 1, ?_⟩ <;> decide +kernel,
   by refine ⟨S [], 8999, 5500, ?_, ?_, ?_, ?_⟩ <;> decide +kernel,
   by refine ⟨S [] (fun d => { d with gda := { d.gda with vgdLow := true } }), 9000, ?_, ?_, ?_⟩ <;> decide +kernel,
   by refine ⟨S [] (fun d => { d with gda := { d.gda with legs := d.gda.legs.set 1 { d.leg 1 with monitorsDue := true } } }), ?_⟩ <;> decide +kernel⟩

theorem witness_GuardKeepsNoShootThrough :
    ∃ (s : State) (c : Instr) (t : State), s.dev.NoShootThrough ∧ exec c s = .next t ∧ (match c with
      | .guardDelayEnd _ _ | .tripLowTurnOn _ | .vdsAction _ _ | .overcurrent _ | .gateFault _ _ _ | .tripPin _ _ | .bstUv _
      | .strobeLost | .vgdUv _ | .vbatUv _ | .gateCommandEdge _ _ | .monitorsOn => True
      | _ => False) :=
  ⟨State.reset, .monitorsOn, State.reset.into State.reset.dev, by unfold Device.NoShootThrough; decide +kernel, rfl, trivial⟩

theorem witness_PostedSetsAreTaken :
    (∃ (s : State) (n : Fin 8) (fine : Fin 32) (set : EdgeSet), (s.dev.isRunning = true) ∧ ((s.dev.edpOf n).mailbox = some set) ∧ ((s.dev.edpOf n).running = true) ∧ (s.dev.manual n = false) ∧ (set.seq = ((s.dev.edpOf n).decided + 1) % 2 ^ 32) ∧ (((s.now * 32 + fine : Nat) : Int) ≤ s.dev.postBy n) ∧ (((s.now * 32 + fine : Nat) : Int) ≤ s.dev.limitFor n (s.dev.earliestOf n (s.dev.treatSet n set.cmp))))
    ∧ (∃ (s : State) (n : Fin 8) (fine : Fin 32) (set : EdgeSet), (s.dev.isRunning = true) ∧ ((s.dev.edpOf n).mailbox = some set) ∧ ((s.dev.edpOf n).running = true) ∧ (s.dev.manual n = false) ∧ (set.seq = ((s.dev.edpOf n).decided + 2) % 2 ^ 32))
    ∧ (∃ (s : State) (n : Fin 8) (fine : Fin 32) (set : EdgeSet), (s.dev.isRunning = true) ∧ ((s.dev.edpOf n).mailbox = some set) ∧ ((s.dev.edpOf n).running = true) ∧ (s.dev.manual n = false) ∧ (set.seq = ((s.dev.edpOf n).decided + 1) % 2 ^ 32) ∧ (s.dev.postBy n < ((s.now * 32 + fine : Nat) : Int))) :=
  ⟨by refine ⟨S [(Ix.GDA_LEG_OWNER, 1, 0), (Ix.GDA_LEG_OWNER, 2, 0), (Ix.GDA_LEG_OWNER, 3, 0), (Ix.GDA_HITCH_AX, 1, 1), (Ix.GDA_HITCH_AX, 2, 0), (Ix.GDA_HITCH_AX, 3, 1), (Ix.GDA_HITCH_AX, 4, 2), (Ix.GDA_HITCH_AX, 5, 255), (axIx Ix.AX_EDP_PERIOD 0, 0, 60000), (axIx Ix.AX_EDP_EVT 0, 1, 0), (axIx Ix.AX_EDP_EVT 0, 2, 0)] (fun d => { d with edp := d.edp.set 0 { d.edpOf 0 with running := true, decided := 4, nextStart := 32000100000, mailbox := some ⟨5, List.replicate 16 0⟩ } }), 0, 3, ⟨5, List.replicate 16 0⟩, ?_, ?_, ?_, ?_, ?_, ?_, ?_⟩ <;> decide +kernel,
   by refine ⟨S [(Ix.GDA_LEG_OWNER, 1, 0), (Ix.GDA_LEG_OWNER, 2, 0), (Ix.GDA_LEG_OWNER, 3, 0), (Ix.GDA_HITCH_AX, 1, 1), (Ix.GDA_HITCH_AX, 2, 0), (Ix.GDA_HITCH_AX, 3, 1), (Ix.GDA_HITCH_AX, 4, 2), (Ix.GDA_HITCH_AX, 5, 255), (axIx Ix.AX_EDP_PERIOD 0, 0, 60000), (axIx Ix.AX_EDP_EVT 0, 1, 0), (axIx Ix.AX_EDP_EVT 0, 2, 0)] (fun d => { d with edp := d.edp.set 0 { d.edpOf 0 with running := true, decided := 4, nextStart := 32000100000, mailbox := some ⟨6, List.replicate 16 0⟩ } }), 0, 3, ⟨6, List.replicate 16 0⟩, ?_, ?_, ?_, ?_, ?_⟩ <;> decide +kernel,
   by refine ⟨S [(Ix.GDA_LEG_OWNER, 1, 0), (Ix.GDA_LEG_OWNER, 2, 0), (Ix.GDA_LEG_OWNER, 3, 0), (Ix.GDA_HITCH_AX, 1, 1), (Ix.GDA_HITCH_AX, 2, 0), (Ix.GDA_HITCH_AX, 3, 1), (Ix.GDA_HITCH_AX, 4, 2), (Ix.GDA_HITCH_AX, 5, 255), (axIx Ix.AX_EDP_PERIOD 0, 0, 60000), (axIx Ix.AX_EDP_EVT 0, 1, 0), (axIx Ix.AX_EDP_EVT 0, 2, 0)] (fun d => { d with edp := d.edp.set 0 { d.edpOf 0 with running := true, decided := 4, nextStart := 31999000000, mailbox := some ⟨5, List.replicate 16 0⟩ } }), 0, 3, ⟨5, List.replicate 16 0⟩, ?_, ?_, ?_, ?_, ?_, ?_⟩ <;> decide +kernel⟩

theorem witness_PeriodIsDecided :
    (∃ (s : State) (n : Fin 8) (a : AcceptedSet), (s.dev.isRunning = true) ∧ ((s.dev.edpOf n).running = true) ∧ (s.dev.manual n = false) ∧ ((s.dev.edpOf n).accepted = some a) ∧ ((s.dev.edpOf n).early = none))
    ∧ (∃ (s : State) (n : Fin 8), (s.dev.isRunning = true) ∧ ((s.dev.edpOf n).running = true) ∧ (s.dev.manual n = false) ∧ ((s.dev.edpOf n).accepted = none) ∧ ((s.dev.edpOf n).early = none)) :=
  ⟨by refine ⟨S [(Ix.GDA_LEG_OWNER, 1, 0), (Ix.GDA_LEG_OWNER, 2, 0), (Ix.GDA_LEG_OWNER, 3, 0), (Ix.GDA_HITCH_AX, 1, 1), (Ix.GDA_HITCH_AX, 2, 0), (Ix.GDA_HITCH_AX, 3, 1), (Ix.GDA_HITCH_AX, 4, 2), (Ix.GDA_HITCH_AX, 5, 255), (axIx Ix.AX_EDP_PERIOD 0, 0, 60000), (axIx Ix.AX_EDP_EVT 0, 1, 0), (axIx Ix.AX_EDP_EVT 0, 2, 0)] (fun d => { d with edp := d.edp.set 0 { d.edpOf 0 with running := true, decided := 4, nextStart := 32000100000, newest := List.replicate 16 0, accepted := some ⟨⟨5, List.replicate 16 0⟩, 31999999990⟩, placed := [⟨32000100100, 0, true⟩] } }), 0, ⟨⟨5, List.replicate 16 0⟩, 31999999990⟩, ?_, ?_, ?_, ?_, ?_⟩ <;> decide +kernel,
   by refine ⟨S [(Ix.GDA_LEG_OWNER, 1, 0), (Ix.GDA_LEG_OWNER, 2, 0), (Ix.GDA_LEG_OWNER, 3, 0), (Ix.GDA_HITCH_AX, 1, 1), (Ix.GDA_HITCH_AX, 2, 0), (Ix.GDA_HITCH_AX, 3, 1), (Ix.GDA_HITCH_AX, 4, 2), (Ix.GDA_HITCH_AX, 5, 255), (axIx Ix.AX_EDP_PERIOD 0, 0, 60000), (axIx Ix.AX_EDP_EVT 0, 1, 0), (axIx Ix.AX_EDP_EVT 0, 2, 0)] (fun d => { d with edp := d.edp.set 0 { d.edpOf 0 with running := true, decided := 4, nextStart := 32000100000, newest := List.replicate 16 0 } }), 0, ?_, ?_, ?_, ?_, ?_⟩ <;> decide +kernel⟩

theorem witness_EventsAndFirstPeriod :
    (∃ (s : State) (n : Fin 8) (t0 : Nat), (s.dev.isRunning = true) ∧ ((s.dev.edpOf n).armed = some t0) ∧ ((s.dev.edpOf n).running = false) ∧ ((∀ l ∈ s.dev.axisLegs n, (s.dev.leg l).monitors = true)) ∧ (s.dev.rd Ix.CNV_IL_STATUS ≠ 1) ∧ (s.dev.cnv.delivered = []) ∧ ((∀ c ∈ [1, 2, 3, 4], (s.dev.edpSet n).dest c 24 = false ∧ (s.dev.edpSet n).dest c 25 = false)))
    ∧ (∃ (s : State) (n : Fin 8) (q : Fin 4) (e : Fin 8), (s.dev.isRunning = true) ∧ (s.dev.eventsAt n (s.now * 32 + (8 * q + e)) = ([], none)))
    ∧ (∃ (s : State) (n : Fin 8) (q : Fin 4) (e : Fin 8) (old : List Nat) (new : List Nat), (s.dev.isRunning = true) ∧ (s.dev.cnv.delivered = []) ∧ (s.dev.eventsAt n (s.now * 32 + (8 * q + e)) = (old, some new)) ∧ ((∀ x ∈ (s.dev.edpOf n).owed, x.1 ≠ s.dev.rd (axIx Ix.AX_EDP_PERIOD_SEQ n))) ∧ (s.dev.freshPeriod n ((s.dev.rd (axIx Ix.AX_EDP_PERIOD_SEQ n) + 1) % 2 ^ 32) = false) ∧ ((∀ c ∈ [1, 2, 3, 4], (((s.dev.frameOf n ((s.dev.rd (axIx Ix.AX_EDP_PERIOD_SEQ n) + 1) % 2 ^ 32)).map (·.cfg)).getD (s.dev.edpSet n)).source c ∉ old ++ new)))
    ∧ (∃ (s : State) (n : Fin 8) (q : Fin 4) (e : Fin 8) (old : List Nat), (s.dev.isRunning = true) ∧ (s.dev.eventsAt n (s.now * 32 + (8 * q + e)) = (old, none)) ∧ (s.dev.evtSource n 1 ∈ old) ∧ ((∀ c ∈ [2, 3, 4], s.dev.evtSource n c ∉ old)) ∧ (s.dev.evtDest n 1 24 = false) ∧ (s.dev.evtDest n 1 25 = false) ∧ (s.dev.evtDest n 1 27 = true) ∧ (s.dev.rd Ix.CNV_IL_STATUS ≠ 1) ∧ (s.dev.cnv.delivered = []) ∧ ((s.dev.edpOf n).occurs.getD 0 0 % s.dev.evtN n 1 = 0)) :=
  ⟨by refine ⟨S [(Ix.GDA_LEG_OWNER, 1, 0), (Ix.GDA_LEG_OWNER, 2, 0), (Ix.GDA_LEG_OWNER, 3, 0), (Ix.GDA_HITCH_AX, 1, 1), (Ix.GDA_HITCH_AX, 2, 0), (Ix.GDA_HITCH_AX, 3, 1), (Ix.GDA_HITCH_AX, 4, 2), (Ix.GDA_HITCH_AX, 5, 255), (axIx Ix.AX_EDP_PERIOD 0, 0, 60000), (axIx Ix.AX_EDP_EVT 0, 1, 0), (axIx Ix.AX_EDP_EVT 0, 2, 0)] (fun d => (fun d => { d with edp := d.edp.set 0 { d.edpOf 0 with armed := some 31999900000 } }) <| (fun d => { d with gda := { d.gda with legs := d.gda.legs.set 2 { d.leg 2 with monitors := true } } }) <| (fun d => { d with gda := { d.gda with legs := d.gda.legs.set 1 { d.leg 1 with monitors := true } } }) <| (fun d => { d with gda := { d.gda with legs := d.gda.legs.set 0 { d.leg 0 with monitors := true } } }) <| d), 0, 31999900000, ?_, ?_, ?_, ?_, ?_, ?_, ?_⟩ <;> decide +kernel,
   by refine ⟨S [(Ix.GDA_LEG_OWNER, 1, 0), (Ix.GDA_LEG_OWNER, 2, 0), (Ix.GDA_LEG_OWNER, 3, 0), (Ix.GDA_HITCH_AX, 1, 1), (Ix.GDA_HITCH_AX, 2, 0), (Ix.GDA_HITCH_AX, 3, 1), (Ix.GDA_HITCH_AX, 4, 2), (Ix.GDA_HITCH_AX, 5, 255), (axIx Ix.AX_EDP_PERIOD 0, 0, 60000), (axIx Ix.AX_EDP_EVT 0, 1, 0), (axIx Ix.AX_EDP_EVT 0, 2, 0), (axIx Ix.AX_EDP_PERIOD_SEQ 0, 0, 4)] (fun d => { d with edp := d.edp.set 0 { d.edpOf 0 with running := true, decided := 4, nextStart := 32000059999, frames := [⟨4, 31999999999, ⟨1, 60000, [0x2000001, 0, 0, 0], [300, 400]⟩, List.replicate 16 70000, false⟩] } }), 0, 0, 5, ?_, ?_⟩ <;> decide +kernel,
   by refine ⟨S [(Ix.GDA_LEG_OWNER, 1, 0), (Ix.GDA_LEG_OWNER, 2, 0), (Ix.GDA_LEG_OWNER, 3, 0), (Ix.GDA_HITCH_AX, 1, 1), (Ix.GDA_HITCH_AX, 2, 0), (Ix.GDA_HITCH_AX, 3, 1), (Ix.GDA_HITCH_AX, 4, 2), (Ix.GDA_HITCH_AX, 5, 255), (axIx Ix.AX_EDP_PERIOD 0, 0, 60000), (axIx Ix.AX_EDP_EVT 0, 1, 0), (axIx Ix.AX_EDP_EVT 0, 2, 0), (axIx Ix.AX_EDP_PERIOD_SEQ 0, 0, 4)] (fun d => { d with edp := d.edp.set 0 { d.edpOf 0 with running := true, decided := 4, nextStart := 32000000005, candidate := List.replicate 16 100, frames := [⟨4, 31999940005, ⟨1, 60000, [0, 0, 0, 0], [300, 400]⟩, List.replicate 16 70000, false⟩] } }), 0, 0, 5, (List.range 16).map (· + 16), [1, 3, 4], ?_, ?_, ?_, ?_, ?_, ?_⟩ <;> decide +kernel,
   by refine ⟨S [(Ix.GDA_LEG_OWNER, 1, 0), (Ix.GDA_LEG_OWNER, 2, 0), (Ix.GDA_LEG_OWNER, 3, 0), (Ix.GDA_HITCH_AX, 1, 1), (Ix.GDA_HITCH_AX, 2, 0), (Ix.GDA_HITCH_AX, 3, 1), (Ix.GDA_HITCH_AX, 4, 2), (Ix.GDA_HITCH_AX, 5, 255), (axIx Ix.AX_EDP_PERIOD 0, 0, 60000), (axIx Ix.AX_EDP_EVT 0, 1, 0), (axIx Ix.AX_EDP_EVT 0, 2, 0), (axIx Ix.AX_EDP_PERIOD_SEQ 0, 0, 4)] (fun d => { d with edp := d.edp.set 0 { d.edpOf 0 with running := true, decided := 4, nextStart := 32000059705, frames := [⟨4, 31999999705, ⟨1, 60000, [0xC000003, 2, 0, 0], [300, 400]⟩, List.replicate 16 300, false⟩] } }), 0, 0, 5, [3] ++ (List.range 16).map (· + 16), ?_, ?_, ?_, ?_, ?_, ?_, ?_, ?_, ?_, ?_⟩ <;> decide +kernel⟩

theorem witness_GateEdgesMoveTheirWires :
    (∃ (s : State) (n : Fin 8) (clear : Bool) (x : DueEdge) (e : Edp) (l : Nat), (s.dev.isRunning = true) ∧ ((s.dev.edpOf n).nextEdge = some (x, e)) ∧ (s.dev.outputLeg n x.output = some l) ∧ (l < 24))
    ∧ (∃ (s : State) (n : Fin 8) (clear : Bool) (x : DueEdge) (e : Edp) (l : Nat), (s.dev.isRunning = true) ∧ ((s.dev.edpOf n).nextEdge = some (x, e)) ∧ (s.dev.outputLeg n x.output = some l) ∧ (l < 24) ∧ (x.on = false) ∧ (s.dev.legOwner l < 8) ∧ ((s.dev.leg l).latched = false) ∧ (s.dev.gda.allOff = false))
    ∧ (∃ (s : State) (n : Fin 8) (x : DueEdge) (e : Edp) (l : Nat), (s.dev.isRunning = true) ∧ ((s.dev.edpOf n).nextEdge = some (x, e)) ∧ (s.dev.outputLeg n x.output = some l) ∧ (l < 24) ∧ (x.on = true) ∧ (s.dev.legOwner l < 8) ∧ ((s.dev.leg l).latched = false) ∧ (s.dev.gda.allOff = false) ∧ (s.dev.bitOf Ix.GDA_BST_UV l = false) ∧ ((if x.output % 2 = 0 then (s.dev.leg l).low else (s.dev.leg l).high) = false)) :=
  ⟨by refine ⟨S [(Ix.GDA_LEG_OWNER, 1, 0), (Ix.GDA_LEG_OWNER, 2, 0), (Ix.GDA_LEG_OWNER, 3, 0), (Ix.GDA_HITCH_AX, 1, 1), (Ix.GDA_HITCH_AX, 2, 0), (Ix.GDA_HITCH_AX, 3, 1), (Ix.GDA_HITCH_AX, 4, 2), (Ix.GDA_HITCH_AX, 5, 255), (axIx Ix.AX_EDP_PERIOD 0, 0, 60000), (axIx Ix.AX_EDP_EVT 0, 1, 0), (axIx Ix.AX_EDP_EVT 0, 2, 0)] (fun d => { d with edp := d.edp.set 0 { d.edpOf 0 with running := true, decided := 4, nextStart := 32000100000, edges := [⟨32000000000, 2, true⟩] } }), 0, true, ⟨32000000000, 2, true⟩, { ((S [(Ix.GDA_LEG_OWNER, 1, 0), (Ix.GDA_LEG_OWNER, 2, 0), (Ix.GDA_LEG_OWNER, 3, 0), (Ix.GDA_HITCH_AX, 1, 1), (Ix.GDA_HITCH_AX, 2, 0), (Ix.GDA_HITCH_AX, 3, 1), (Ix.GDA_HITCH_AX, 4, 2), (Ix.GDA_HITCH_AX, 5, 255), (axIx Ix.AX_EDP_PERIOD 0, 0, 60000), (axIx Ix.AX_EDP_EVT 0, 1, 0), (axIx Ix.AX_EDP_EVT 0, 2, 0)] (fun d => { d with edp := d.edp.set 0 { d.edpOf 0 with running := true, decided := 4, nextStart := 32000100000, edges := [] } })).dev.edpOf 0) with edges := [] }, 1, ?_, ?_, ?_, ?_⟩ <;> decide +kernel,
   by refine ⟨S [(Ix.GDA_LEG_OWNER, 1, 0), (Ix.GDA_LEG_OWNER, 2, 0), (Ix.GDA_LEG_OWNER, 3, 0), (Ix.GDA_HITCH_AX, 1, 1), (Ix.GDA_HITCH_AX, 2, 0), (Ix.GDA_HITCH_AX, 3, 1), (Ix.GDA_HITCH_AX, 4, 2), (Ix.GDA_HITCH_AX, 5, 255), (axIx Ix.AX_EDP_PERIOD 0, 0, 60000), (axIx Ix.AX_EDP_EVT 0, 1, 0), (axIx Ix.AX_EDP_EVT 0, 2, 0)] (fun d => { d with edp := d.edp.set 0 { d.edpOf 0 with running := true, decided := 4, nextStart := 32000100000, edges := [⟨32000000000, 2, false⟩] } }), 0, true, ⟨32000000000, 2, false⟩, { ((S [(Ix.GDA_LEG_OWNER, 1, 0), (Ix.GDA_LEG_OWNER, 2, 0), (Ix.GDA_LEG_OWNER, 3, 0), (Ix.GDA_HITCH_AX, 1, 1), (Ix.GDA_HITCH_AX, 2, 0), (Ix.GDA_HITCH_AX, 3, 1), (Ix.GDA_HITCH_AX, 4, 2), (Ix.GDA_HITCH_AX, 5, 255), (axIx Ix.AX_EDP_PERIOD 0, 0, 60000), (axIx Ix.AX_EDP_EVT 0, 1, 0), (axIx Ix.AX_EDP_EVT 0, 2, 0)] (fun d => { d with edp := d.edp.set 0 { d.edpOf 0 with running := true, decided := 4, nextStart := 32000100000, edges := [] } })).dev.edpOf 0) with edges := [] }, 1, ?_, ?_, ?_, ?_, ?_, ?_, ?_, ?_⟩ <;> decide +kernel,
   by refine ⟨S [(Ix.GDA_LEG_OWNER, 1, 0), (Ix.GDA_LEG_OWNER, 2, 0), (Ix.GDA_LEG_OWNER, 3, 0), (Ix.GDA_HITCH_AX, 1, 1), (Ix.GDA_HITCH_AX, 2, 0), (Ix.GDA_HITCH_AX, 3, 1), (Ix.GDA_HITCH_AX, 4, 2), (Ix.GDA_HITCH_AX, 5, 255), (axIx Ix.AX_EDP_PERIOD 0, 0, 60000), (axIx Ix.AX_EDP_EVT 0, 1, 0), (axIx Ix.AX_EDP_EVT 0, 2, 0)] (fun d => { d with edp := d.edp.set 0 { d.edpOf 0 with running := true, decided := 4, nextStart := 32000100000, edges := [⟨32000000000, 2, true⟩] } }), 0, ⟨32000000000, 2, true⟩, { ((S [(Ix.GDA_LEG_OWNER, 1, 0), (Ix.GDA_LEG_OWNER, 2, 0), (Ix.GDA_LEG_OWNER, 3, 0), (Ix.GDA_HITCH_AX, 1, 1), (Ix.GDA_HITCH_AX, 2, 0), (Ix.GDA_HITCH_AX, 3, 1), (Ix.GDA_HITCH_AX, 4, 2), (Ix.GDA_HITCH_AX, 5, 255), (axIx Ix.AX_EDP_PERIOD 0, 0, 60000), (axIx Ix.AX_EDP_EVT 0, 1, 0), (axIx Ix.AX_EDP_EVT 0, 2, 0)] (fun d => { d with edp := d.edp.set 0 { d.edpOf 0 with running := true, decided := 4, nextStart := 32000100000, edges := [] } })).dev.edpOf 0) with edges := [] }, 1, ?_, ?_, ?_, ?_, ?_, ?_, ?_, ?_, ?_, ?_⟩ <;> decide +kernel⟩

theorem witness_SpeculativePair :
    (∃ (s : State) (n : Fin 8) (p : PendingSet), (s.dev.isRunning = true) ∧ ((s.dev.sc n).pending = some p) ∧ (p.done = false) ∧ ((s.dev.sc n).waiting = none) ∧ ((∀ k, k < 6 → (s.dev.slot n k).due = false)) ∧ ((s.dev.ce n).check = none) ∧ ((s.dev.ce n).lookups = []))
    ∧ (∃ (s : State) (n : Fin 8) (j : FullJob), (s.dev.isRunning = true) ∧ ((s.dev.sc n).full = some j))
    ∧ (∃ (s : State) (n : Fin 8) (hits : Nat), (s.dev.isRunning = true) ∧ ((s.dev.sc n).full1k = some hits) ∧ (hits ≤ 1024) ∧ ((s.dev.rd (axIx Ix.AX_SC_RATE_MIN n) = 0 ∨ ¬ divRne ((hits : Int) * 1000) 1024 < s.dev.rd (axIx Ix.AX_SC_RATE_MIN n) ∨ s.dev.bitOf (axIx Ix.AX_SC_STATUS n) 4 = true)))
    ∧ (∃ (s : State) (n : Fin 8) (hits : Nat), (s.dev.isRunning = true) ∧ ((s.dev.sc n).full1k = some hits) ∧ (s.dev.rd (axIx Ix.AX_SC_RATE_MIN n) ≠ 0) ∧ ((divRne ((hits : Int) * 1000) 1024).toNat < s.dev.rd (axIx Ix.AX_SC_RATE_MIN n)) ∧ (s.dev.bitOf (axIx Ix.AX_SC_STATUS n) 4 = false)) :=
  ⟨by refine ⟨S [(Ix.GDA_LEG_OWNER, 1, 0), (Ix.GDA_LEG_OWNER, 2, 0), (Ix.GDA_LEG_OWNER, 3, 0), (Ix.GDA_HITCH_AX, 1, 1), (Ix.GDA_HITCH_AX, 2, 0), (Ix.GDA_HITCH_AX, 3, 1), (Ix.GDA_HITCH_AX, 4, 2), (Ix.GDA_HITCH_AX, 5, 255)] (fun d => d.onSc 0 fun x => { x with pending := some ⟨.gatesOff, ⟨⟨⟨[],0,0,0,0⟩,.off,0,0,0,0,0,0,0,0⟩,0,⟨0,0,0,0,0,false,false,false,false,0,0,false⟩,0,0,0,0,0,0,0⟩, ⟨⟨⟨[],0,0,0,0⟩,.off,0,0,0,0,0,0,0,0⟩,0,⟨0,0,0,0,0,false,false,false,false,0,0,false⟩,0,0,0,0,0,0,0⟩, List.replicate 16 0, [], [], false, 0, 9, false, 0⟩ }), 0, ⟨.gatesOff, ⟨⟨⟨[],0,0,0,0⟩,.off,0,0,0,0,0,0,0,0⟩,0,⟨0,0,0,0,0,false,false,false,false,0,0,false⟩,0,0,0,0,0,0,0⟩, ⟨⟨⟨[],0,0,0,0⟩,.off,0,0,0,0,0,0,0,0⟩,0,⟨0,0,0,0,0,false,false,false,false,0,0,false⟩,0,0,0,0,0,0,0⟩, List.replicate 16 0, [], [], false, 0, 9, false, 0⟩, ?_, ?_, ?_, ?_, ?_, ?_, ?_⟩ <;> decide +kernel,
   by refine ⟨S [(Ix.GDA_LEG_OWNER, 1, 0), (Ix.GDA_LEG_OWNER, 2, 0), (Ix.GDA_LEG_OWNER, 3, 0), (Ix.GDA_HITCH_AX, 1, 1), (Ix.GDA_HITCH_AX, 2, 0), (Ix.GDA_HITCH_AX, 3, 1), (Ix.GDA_HITCH_AX, 4, 2), (Ix.GDA_HITCH_AX, 5, 255)] (fun d => d.onSc 0 fun x => { x with full := some ⟨⟨⟨3, 31999000000, [], 9⟩, none, none, [], []⟩, false, .loop, ⟨0,0,0,0,0,false,false,false,false,0,0,false⟩, ⟨0,0,0,0,0,false,false,false,false,0,0,false⟩, List.replicate 16 0, 0⟩ }), 0, ⟨⟨⟨3, 31999000000, [], 9⟩, none, none, [], []⟩, false, .loop, ⟨0,0,0,0,0,false,false,false,false,0,0,false⟩, ⟨0,0,0,0,0,false,false,false,false,0,0,false⟩, List.replicate 16 0, 0⟩, ?_, ?_⟩ <;> decide +kernel,
   by refine ⟨S [(Ix.GDA_LEG_OWNER, 1, 0), (Ix.GDA_LEG_OWNER, 2, 0), (Ix.GDA_LEG_OWNER, 3, 0), (Ix.GDA_HITCH_AX, 1, 1), (Ix.GDA_HITCH_AX, 2, 0), (Ix.GDA_HITCH_AX, 3, 1), (Ix.GDA_HITCH_AX, 4, 2), (Ix.GDA_HITCH_AX, 5, 255)] (fun d => d.onSc 0 fun x => { x with full1k := some 1024 }), 0, 1024, ?_, ?_, ?_, ?_⟩ <;> decide +kernel,
   by refine ⟨S [(Ix.GDA_LEG_OWNER, 1, 0), (Ix.GDA_LEG_OWNER, 2, 0), (Ix.GDA_LEG_OWNER, 3, 0), (Ix.GDA_HITCH_AX, 1, 1), (Ix.GDA_HITCH_AX, 2, 0), (Ix.GDA_HITCH_AX, 3, 1), (Ix.GDA_HITCH_AX, 4, 2), (Ix.GDA_HITCH_AX, 5, 255), (axIx Ix.AX_SC_RATE_MIN 0, 0, 900)] (fun d => d.onSc 0 fun x => { x with full1k := some 512 }), 0, 512, ?_, ?_, ?_, ?_, ?_⟩ <;> decide +kernel⟩

theorem witness_ConversionPool :
    (∃ (s : State) (sl : Fin 8) (fine : Fin 32) (raw : Int) (mv : Nat), (s.dev.isRunning = true) ∧ (s.dev.cnv.stopped = false) ∧ (s.dev.PoolQuiet) ∧ ((s.dev.cnv.slices.getD sl ⟨false, .idle, 0, false⟩).job = .monitor 0x70) ∧ (s.dev.cnv.delivered = []) ∧ (mv < 65536))
    ∧ (∃ (s : State) (sl : Fin 8) (fine : Fin 32) (raw : Int) (mv : Nat) (code : Nat), (s.dev.isRunning = true) ∧ (s.dev.cnv.stopped = false) ∧ (s.dev.PoolQuiet) ∧ ((s.dev.cnv.slices.getD sl ⟨false, .idle, 0, false⟩).job = .monitor code) ∧ (s.dev.cnv.delivered = []))
    ∧ (∃ (s : State) (sl : Fin 8) (g : Fin 8) (fine : Fin 32) (raw : Int) (mv : Nat) (code : Nat) (time : Nat) (flags : Nat) (prio : Nat) (window : Nat), (s.dev.isRunning = true) ∧ (s.dev.cnv.stopped = false) ∧ (s.dev.PoolQuiet) ∧ ((s.dev.cnv.slices.getD sl ⟨false, .idle, 0, false⟩).job = .held g time 0) ∧ (s.dev.cnv.holds = [⟨g, time, prio, window, [⟨code, false, true, 0, flags, false⟩]⟩]) ∧ (s.dev.cnv.delivered = []) ∧ ((s.dev.sc g).cycles = []) ∧ ((s.dev.threePhase g = true → s.dev.stState g ≠ 1)))
    ∧ (∃ (s : State) (x : Slice), (s.dev.isRunning = true) ∧ (s.dev.bursting = false) ∧ (s.dev.cnv.stopped = false) ∧ (s.dev.PoolQuiet) ∧ (s.dev.cnv.slices[s.dev.monitorSlice]? = some x) ∧ (x.inService = true) ∧ (x.job = .idle))
    ∧ (∃ (s : State), (s.dev.isRunning = true) ∧ (s.dev.bursting = true))
    ∧ (∃ (s : State) (n : Fin 8) (code : Nat) (time : Nat) (prio : Nat) (window : Nat), (s.dev.isRunning = true) ∧ (s.dev.cnv.holds = [⟨n, time, prio, window, [⟨code, true, false, 0, 0, false⟩]⟩]) ∧ (time + window * 32 ≤ s.now * 32) ∧ ((∀ x ∈ s.dev.cnv.slices, x.inService = true → x.job ≠ .idle ∧ x.job ≠ .equalise ∧ x.job ≠ .calibrate)) ∧ (s.dev.cnv.delivered = []) ∧ ((s.dev.sc n).cycles = []) ∧ ((s.dev.threePhase n = true → s.dev.stState n ≠ 1)) ∧ (s.dev.rd (Ix.CNV_GROUP_CNT + n) 2 = 0))
    ∧ (∃ (s : State) (sl : Fin 8) (x : Slice) (trim : Int), (s.dev.isRunning = true) ∧ (s.dev.cnv.slices[sl]? = some x) ∧ (x.inService = true) ∧ (-100 < trim) ∧ (trim < 100))
    ∧ (∃ (s : State) (sl : Fin 8) (x : Slice) (trim : Int), (s.dev.isRunning = true) ∧ (s.dev.cnv.slices[sl]? = some x) ∧ (x.inService = true) ∧ (x.fails = 2) ∧ (-100 < trim) ∧ (trim < 100))
    ∧ (∃ (s : State) (l : Fin 24), (s.dev.isRunning = true) ∧ (l.val ∉ s.dev.cnv.outside))
    ∧ (∃ (s : State) (l : Fin 24), (s.dev.isRunning = true)) :=
  ⟨by refine ⟨S [] (fun d => { d with cnv := { d.cnv with slices := d.cnv.slices.set 7 { (d.cnv.slices.getD 7 ⟨true, .idle, 0, false⟩) with job := .monitor 0x70 } } }), 7, 9, 5, 12000, ?_, ?_, ?_, ?_, ?_, ?_⟩; (decide +kernel); (decide +kernel); (unfold Device.PoolQuiet; decide +kernel); (decide +kernel); (decide +kernel); (decide +kernel),
   by refine ⟨S [] (fun d => { d with cnv := { d.cnv with slices := d.cnv.slices.set 7 { (d.cnv.slices.getD 7 ⟨true, .idle, 0, false⟩) with job := .monitor 0x71 } } }), 7, 9, 5, 12000, 0x71, ?_, ?_, ?_, ?_, ?_⟩; (decide +kernel); (decide +kernel); (unfold Device.PoolQuiet; decide +kernel); (decide +kernel); (decide +kernel),
   by refine ⟨S [] (fun d => (fun d => { d with cnv := { d.cnv with slices := d.cnv.slices.set 3 { (d.cnv.slices.getD 3 ⟨true, .idle, 0, false⟩) with job := .held 2 31999990000 0 } } }) <| (fun d => { d with cnv := { d.cnv with holds := [⟨2, 31999990000, 5, 300, [⟨0x44, false, true, 0, 0, false⟩]⟩] } }) <| d), 3, 2, 9, 50, 0, 0x44, 31999990000, 0, 5, 300, ?_, ?_, ?_, ?_, ?_, ?_, ?_, ?_⟩; (decide +kernel); (decide +kernel); (unfold Device.PoolQuiet; decide +kernel); (decide +kernel); (decide +kernel); (decide +kernel); (decide +kernel); (decide +kernel),
   by refine ⟨S [], ⟨true, .idle, 0, false⟩, ?_, ?_, ?_, ?_, ?_, ?_, ?_⟩; (decide +kernel); (decide +kernel); (decide +kernel); (unfold Device.PoolQuiet; decide +kernel); (decide +kernel); (decide +kernel); (decide +kernel),
   by refine ⟨S [(Ix.CNV_IL_STATUS, 0, 2)], ?_, ?_⟩ <;> decide +kernel,
   by refine ⟨S [] (fun d => (fun d => { d with cnv := { d.cnv with holds := [⟨2, 31999990400, 5, 300, [⟨0x44, true, false, 0, 0, false⟩]⟩], slices := List.replicate 8 ⟨true, .monitor 0x71, 0, false⟩ } }) <| d), 2, 0x44, 31999990400, 5, 300, ?_, ?_, ?_, ?_, ?_, ?_, ?_, ?_⟩ <;> decide +kernel,
   by refine ⟨S [] (fun d => { d with cnv := { d.cnv with slices := d.cnv.slices.set 3 { (d.cnv.slices.getD 3 ⟨true, .idle, 0, false⟩) with fails := 2 } } }), 3, ⟨true, .idle, 2, false⟩, -99, ?_, ?_, ?_, ?_, ?_⟩ <;> decide +kernel,
   by refine ⟨S [] (fun d => { d with cnv := { d.cnv with slices := d.cnv.slices.set 3 { (d.cnv.slices.getD 3 ⟨true, .idle, 0, false⟩) with fails := 2 } } }), 3, ⟨true, .idle, 2, false⟩, 99, ?_, ?_, ?_, ?_, ?_, ?_⟩ <;> decide +kernel,
   by refine ⟨S [(Ix.GDA_LEG_OWNER, 1, 0), (Ix.GDA_LEG_OWNER, 2, 0), (Ix.GDA_LEG_OWNER, 3, 0), (Ix.GDA_HITCH_AX, 1, 1), (Ix.GDA_HITCH_AX, 2, 0), (Ix.GDA_HITCH_AX, 3, 1), (Ix.GDA_HITCH_AX, 4, 2), (Ix.GDA_HITCH_AX, 5, 255)], 1, ?_, ?_⟩ <;> decide +kernel,
   by refine ⟨S [(Ix.GDA_LEG_OWNER, 1, 0), (Ix.GDA_LEG_OWNER, 2, 0), (Ix.GDA_LEG_OWNER, 3, 0), (Ix.GDA_HITCH_AX, 1, 1), (Ix.GDA_HITCH_AX, 2, 0), (Ix.GDA_HITCH_AX, 3, 1), (Ix.GDA_HITCH_AX, 4, 2), (Ix.GDA_HITCH_AX, 5, 255)] (fun d => { d with cnv := { d.cnv with outside := [1, 5] } }), 1, ?_⟩ <;> decide +kernel⟩

theorem witness_BurstsAndCalibration :
    (∃ (s : State) (rq : Requester), (s.admits rq Ix.CNV_IL_CMD 0 = true) ∧ (s.heard.burstStatus s.now = 0))
    ∧ (∃ (s : State) (rq : Requester), (s.admits rq Ix.CNV_IL_CMD 0 = true) ∧ (s.dev.bitOf Ix.CNV_STATUS 0 = true))
    ∧ (∃ (s : State) (raws : List SliceResult), (s.dev.isRunning = true) ∧ (s.dev.bursting = true))
    ∧ (∃ (s : State), (s.dev.isRunning = true) ∧ (s.dev.bursting = true) ∧ (s.dev.rd Ix.CNV_IL_COUNT ≠ 0) ∧ (s.dev.cnv.holds = []))
    ∧ (∃ (s : State) (rq : Requester), (s.admits rq Ix.CNV_CAL_CMD 0 = true) ∧ (s.heard.calStatus 1 = 0))
    ∧ (∃ (s : State) (rq : Requester), (s.admits rq Ix.CNV_CAL_CMD 0 = true) ∧ (s.heard.calStatus 2 = 0))
    ∧ (∃ (s : State), (s.dev.isRunning = true) ∧ (s.dev.cnv.calPhase = 1) ∧ (2 ^ s.dev.rd Ix.CNV_CAL_AVG ≤ s.dev.cnv.calCount) ∧ (s.dev.cnv.calBad = false))
    ∧ (∃ (s : State), (s.dev.isRunning = true) ∧ (s.dev.cnv.calPhase ≠ 0) ∧ (2 ^ s.dev.rd Ix.CNV_CAL_AVG ≤ s.dev.cnv.calCount) ∧ (s.dev.cnv.calBad = true))
    ∧ (∃ (s : State) (rq : Requester), (s.admits rq Ix.CNV_CAL_CMD 0 = true) ∧ (s.heard.calStatus 3 = 0) ∧ (s.heard.calRefusal = 0) ∧ ((s.dev.tab Ix.STO_CAL_RECORD).length = 256) ∧ (s.dev.rd Ix.CNV_CAL_CHAN < 56))
    ∧ (∃ (s : State) (rq : Requester), (s.admits rq Ix.CNV_CAL_CMD 0 = true) ∧ (s.heard.calStatus 3 = 0) ∧ (s.heard.calRefusal ≠ 0)) :=
  ⟨by refine ⟨S [(Ix.CNV_IL_TRIG, 0, 0xFF)], C, ?_, ?_⟩ <;> decide +kernel,
   by refine ⟨S [(Ix.CNV_STATUS, 0, 1), (Ix.CNV_IL_STATUS, 0, 2)], C, ?_, ?_⟩ <;> decide +kernel,
   by refine ⟨S [(Ix.CNV_STATUS, 0, 1), (Ix.CNV_IL_STATUS, 0, 2), (Ix.CNV_IL_CHAN, 0, 0x40), (Ix.CNV_IL_COUNT, 0, 32)], [some 4, none], ?_, ?_⟩ <;> decide +kernel,
   by refine ⟨S [(Ix.CNV_STATUS, 0, 1), (Ix.CNV_IL_STATUS, 0, 2), (Ix.CNV_IL_CHAN, 0, 0x40), (Ix.CNV_IL_COUNT, 0, 32)], ?_, ?_, ?_, ?_⟩ <;> decide +kernel,
   by refine ⟨S [(Ix.CNV_CAL_CHAN, 0, 3)], C, ?_, ?_⟩ <;> decide +kernel,
   by refine ⟨S [(Ix.CNV_CAL_CHAN, 0, 3), (Ix.CNV_CAL_STATUS, 0, 2)], C, ?_, ?_⟩ <;> decide +kernel,
   by refine ⟨S [(Ix.CNV_CAL_CHAN, 0, 3), (Ix.CNV_CAL_AVG, 0, 4), (Ix.CNV_CAL_STATUS, 0, 1)] (fun d => { d with cnv := { d.cnv with calPhase := 1, calCount := 16, calSum := 100 } }), ?_, ?_, ?_, ?_⟩ <;> decide +kernel,
   by refine ⟨S [(Ix.CNV_CAL_CHAN, 0, 3), (Ix.CNV_CAL_AVG, 0, 4), (Ix.CNV_CAL_STATUS, 0, 1)] (fun d => { d with cnv := { d.cnv with calPhase := 2, calCount := 16, calBad := true } }), ?_, ?_, ?_, ?_⟩ <;> decide +kernel,
   by refine ⟨S [(Ix.CNV_CAL_CHAN, 0, 3), (Ix.CNV_CAL_STATUS, 0, 3), (Ix.CNV_CAL_RESULT, 2, 200000), (Ix.CNV_CAL_RESULT, 3, 4096)] (fun d => d.setTab Ix.STO_CAL_RECORD 0 (List.replicate 256 0)), C, ?_, ?_, ?_, ?_, ?_⟩ <;> decide +kernel,
   by refine ⟨S [(Ix.CNV_CAL_CHAN, 0, 3), (Ix.CNV_CAL_STATUS, 0, 3), (Ix.CNV_CAL_RESULT, 2, 200000), (Ix.CNV_CAL_RESULT, 3, 9000)] (fun d => d.setTab Ix.STO_CAL_RECORD 0 (List.replicate 256 0)), C, ?_, ?_, ?_⟩ <;> decide +kernel⟩

theorem witness_ControlBanksAndSlots :
    (∃ (s : State) (n : Fin 8), (s.dev.isRunning = true) ∧ ((s.dev.ce n).writing = true))
    ∧ (∃ (s : State) (rq : Requester) (n : Fin 8), (s.admits rq (axIx Ix.AX_CE_BANK_SEL n) 0 = true) ∧ (s.heard.swapPending n = false) ∧ (s.heard.bankNo n ≤ 1))
    ∧ (∃ (s : State) (rq : Requester) (n : Fin 8) (bank : Nat), (s.admits rq (axIx Ix.AX_CE_BANK_SEL n) 0 = true) ∧ (s.heard.swapPending n = false) ∧ (bank ≤ 1) ∧ (bank ≠ s.heard.bankNo n) ∧ (firstFailing (s.heard.bankConds n) = none) ∧ (s.heard.countsEnabled n = true))
    ∧ (∃ (s : State) (rq : Requester) (n : Fin 8) (bank : Nat), (s.admits rq (axIx Ix.AX_CE_BANK_SEL n) 0 = true) ∧ (s.heard.swapPending n = false) ∧ (bank ≤ 1) ∧ (bank ≠ s.heard.bankNo n) ∧ (firstFailing (s.heard.bankConds n) = none) ∧ (s.heard.countsEnabled n = false))
    ∧ (∃ (s : State) (rq : Requester) (n : Fin 8) (bank : Nat), (s.admits rq (axIx Ix.AX_CE_BANK_SEL n) 0 = true) ∧ (s.heard.swapPending n = true) ∧ (bank ≤ 1))
    ∧ (∃ (s : State) (n : Fin 8) (x : Fin 6) (y : Sample), (s.dev.isRunning = true) ∧ ((s.dev.slot n x).job = some y) ∧ ((s.dev.slot n x).late = none) ∧ (s.dev.pairBusy n = false) ∧ ((∀ k, k < 6 → k ≠ x.val → (s.dev.slot n k).job = none)) ∧ ((s.dev.slotState n x = 3 ∨ s.dev.slotState n x = 4)) ∧ ((∀ k, k < 6 → (s.dev.slot n k).due = false)) ∧ ((s.dev.ce n).slots.length = 6) ∧ ((∀ k, k < 2 → (s.dev.bank n).refSlot n k ≠ some x.val)))
    ∧ (∃ (s : State) (n : Fin 8) (x : Fin 6) (y : Sample) (late : Nat), (s.dev.isRunning = true) ∧ ((s.dev.slot n x).job = some y) ∧ (s.dev.pairBusy n = false) ∧ ((∀ k, k < 6 → k ≠ x.val → (s.dev.slot n k).job = none)) ∧ ((s.dev.slot n x).late = some late) ∧ ((s.dev.slotState n x ≠ 3 ∧ s.dev.slotState n x ≠ 4)) ∧ ((∀ k, k < 6 → (s.dev.slot n k).due = false)) ∧ ((s.dev.ce n).slots.length = 6)) :=
  ⟨by refine ⟨S [(Ix.GDA_LEG_OWNER, 1, 0), (Ix.GDA_LEG_OWNER, 2, 0), (Ix.GDA_LEG_OWNER, 3, 0), (Ix.GDA_HITCH_AX, 1, 1), (Ix.GDA_HITCH_AX, 2, 0), (Ix.GDA_HITCH_AX, 3, 1), (Ix.GDA_HITCH_AX, 4, 2), (Ix.GDA_HITCH_AX, 5, 255), (axIx Ix.AX_CE_STATUS 0, 0, 4)] (fun d => d.onCe 0 fun p => { p with writing := true }), 0, ?_, ?_⟩ <;> decide +kernel,
   by refine ⟨S [(Ix.GDA_LEG_OWNER, 1, 0), (Ix.GDA_LEG_OWNER, 2, 0), (Ix.GDA_LEG_OWNER, 3, 0), (Ix.GDA_HITCH_AX, 1, 1), (Ix.GDA_HITCH_AX, 2, 0), (Ix.GDA_HITCH_AX, 3, 1), (Ix.GDA_HITCH_AX, 4, 2), (Ix.GDA_HITCH_AX, 5, 255)], C, 0, ?_, ?_, ?_⟩ <;> decide +kernel,
   by refine ⟨S [(Ix.GDA_LEG_OWNER, 1, 0), (Ix.GDA_LEG_OWNER, 2, 0), (Ix.GDA_LEG_OWNER, 3, 0), (Ix.GDA_HITCH_AX, 1, 1), (Ix.GDA_HITCH_AX, 2, 0), (Ix.GDA_HITCH_AX, 3, 1), (Ix.GDA_HITCH_AX, 4, 2), (Ix.GDA_HITCH_AX, 5, 255), (axIx Ix.AX_STATE 0, 0, 1), (axIx Ix.AX_SC_PREDICT 0, 0, 0), (axIx Ix.AX_FE_STATE 0, 0, 1)], C, 0, 1, ?_, ?_, ?_, ?_, ?_, ?_⟩ <;> decide +kernel,
   by refine ⟨S [(Ix.GDA_LEG_OWNER, 1, 0), (Ix.GDA_LEG_OWNER, 2, 0), (Ix.GDA_LEG_OWNER, 3, 0), (Ix.GDA_HITCH_AX, 1, 1), (Ix.GDA_HITCH_AX, 2, 0), (Ix.GDA_HITCH_AX, 3, 1), (Ix.GDA_HITCH_AX, 4, 2), (Ix.GDA_HITCH_AX, 5, 255)], C, 0, 1, ?_, ?_, ?_, ?_, ?_, ?_⟩ <;> decide +kernel,
   by refine ⟨S [(Ix.GDA_LEG_OWNER, 1, 0), (Ix.GDA_LEG_OWNER, 2, 0), (Ix.GDA_LEG_OWNER, 3, 0), (Ix.GDA_HITCH_AX, 1, 1), (Ix.GDA_HITCH_AX, 2, 0), (Ix.GDA_HITCH_AX, 3, 1), (Ix.GDA_HITCH_AX, 4, 2), (Ix.GDA_HITCH_AX, 5, 255), (axIx Ix.AX_CE_STATUS 0, 0, 4)], C, 0, 1, ?_, ?_, ?_⟩ <;> decide +kernel,
   by refine ⟨S [(Ix.GDA_LEG_OWNER, 1, 0), (Ix.GDA_LEG_OWNER, 2, 0), (Ix.GDA_LEG_OWNER, 3, 0), (Ix.GDA_HITCH_AX, 1, 1), (Ix.GDA_HITCH_AX, 2, 0), (Ix.GDA_HITCH_AX, 3, 1), (Ix.GDA_HITCH_AX, 4, 2), (Ix.GDA_HITCH_AX, 5, 255), (axIx Ix.AX_CE_SLOT_STATUS 0, 3, 512)] (fun d => d.onSlot 0 2 fun p => { p with job := some ⟨0,0,0,0,0,false,false,false,false,0,0,false⟩ }), 0, 2, ⟨0,0,0,0,0,false,false,false,false,0,0,false⟩, ?_, ?_, ?_, ?_, ?_, ?_, ?_, ?_, ?_⟩ <;> decide +kernel,
   by refine ⟨S [(Ix.GDA_LEG_OWNER, 1, 0), (Ix.GDA_LEG_OWNER, 2, 0), (Ix.GDA_LEG_OWNER, 3, 0), (Ix.GDA_HITCH_AX, 1, 1), (Ix.GDA_HITCH_AX, 2, 0), (Ix.GDA_HITCH_AX, 3, 1), (Ix.GDA_HITCH_AX, 4, 2), (Ix.GDA_HITCH_AX, 5, 255)] (fun d => d.onSlot 0 2 fun p => { p with job := some ⟨0,0,0,0,0,false,false,false,false,0,0,false⟩, late := some 999 }), 0, 2, ⟨0,0,0,0,0,false,false,false,false,0,0,false⟩, 999, ?_, ?_, ?_, ?_, ?_, ?_, ?_, ?_⟩ <;> decide +kernel⟩

theorem witness_PositionSensors :
    (∃ (s : State) (n : Fin 8) (u : Bool) (v : Bool) (w : Bool) (old : Nat), (s.dev.isRunning = true) ∧ (s.dev.rd (axIx Ix.AX_FE_ANGLE_SRC n) = 1) ∧ ((s.dev.fe n).sector = some old) ∧ (old < 6) ∧ (s.dev.hallSector n (bitIf u 0 + bitIf v 1 + bitIf w 2) = some ((old + 1) % 6)))
    ∧ (∃ (s : State) (n : Fin 8) (u : Bool) (v : Bool) (w : Bool), (s.dev.isRunning = true) ∧ (s.dev.rd (axIx Ix.AX_FE_ANGLE_SRC n) = 1) ∧ (s.dev.hallSector n (bitIf u 0 + bitIf v 1 + bitIf w 2) = none))
    ∧ (∃ (s : State) (n : Fin 8) (k : Nat), (s.dev.isRunning = true) ∧ (s.dev.rd (axIx Ix.AX_FE_ANGLE_SRC n) = 1) ∧ ((s.dev.fe n).sector = some k))
    ∧ (∃ (s : State) (n : Fin 8) (index : Bool), (s.dev.isRunning = true) ∧ (s.dev.rd (axIx Ix.AX_FE_ANGLE_SRC n) = 2) ∧ ((s.dev.fe n).levels = 0))
    ∧ (∃ (s : State) (n : Fin 8) (index : Bool), (s.dev.isRunning = true) ∧ (s.dev.rd (axIx Ix.AX_FE_ANGLE_SRC n) = 2) ∧ ((s.dev.fe n).levels = 0))
    ∧ (∃ (s : State) (n : Fin 8) (index : Bool), (s.dev.isRunning = true) ∧ (s.dev.rd (axIx Ix.AX_FE_ANGLE_SRC n) = 2) ∧ ((s.dev.fe n).levels = 0))
    ∧ (∃ (s : State) (n : Fin 8) (a : Bool) (b : Bool) (index : Bool) (p : Nat) (q : Nat) (r : Nat), (s.dev.isRunning = true) ∧ (s.dev.rd (axIx Ix.AX_FE_ANGLE_SRC n) = 2) ∧ (s.dev.posPins n = [p, q, r]) ∧ (p < 16) ∧ (q < 16) ∧ (r < 16) ∧ (p ≠ q) ∧ (p ≠ r) ∧ (q ≠ r) ∧ ((∀ x ∈ [p, q, r], s.dev.rd Ix.POS_OWNER (x + 1) ≠ 0xFF))) :=
  ⟨by refine ⟨S [(Ix.GDA_LEG_OWNER, 1, 0), (Ix.GDA_LEG_OWNER, 2, 0), (Ix.GDA_LEG_OWNER, 3, 0), (Ix.GDA_HITCH_AX, 1, 1), (Ix.GDA_HITCH_AX, 2, 0), (Ix.GDA_HITCH_AX, 3, 1), (Ix.GDA_HITCH_AX, 4, 2), (Ix.GDA_HITCH_AX, 5, 255), (axIx Ix.AX_FE_ANGLE_SRC 0, 0, 1), (axIx Ix.AX_FE_HALL_MAP 0, 0, 0xF542031F)] (fun d => d.onFe 0 fun p => { p with code := 1, sector := some 5 }), 0, true, true, false, 5, ?_, ?_, ?_, ?_, ?_⟩ <;> decide +kernel,
   by refine ⟨S [(Ix.GDA_LEG_OWNER, 1, 0), (Ix.GDA_LEG_OWNER, 2, 0), (Ix.GDA_LEG_OWNER, 3, 0), (Ix.GDA_HITCH_AX, 1, 1), (Ix.GDA_HITCH_AX, 2, 0), (Ix.GDA_HITCH_AX, 3, 1), (Ix.GDA_HITCH_AX, 4, 2), (Ix.GDA_HITCH_AX, 5, 255), (axIx Ix.AX_FE_ANGLE_SRC 0, 0, 1), (axIx Ix.AX_FE_HALL_MAP 0, 0, 0xF542031F)] (fun d => d.onFe 0 fun p => { p with code := 6 }), 0, true, true, true, ?_, ?_, ?_⟩ <;> decide +kernel,
   by refine ⟨S [(Ix.GDA_LEG_OWNER, 1, 0), (Ix.GDA_LEG_OWNER, 2, 0), (Ix.GDA_LEG_OWNER, 3, 0), (Ix.GDA_HITCH_AX, 1, 1), (Ix.GDA_HITCH_AX, 2, 0), (Ix.GDA_HITCH_AX, 3, 1), (Ix.GDA_HITCH_AX, 4, 2), (Ix.GDA_HITCH_AX, 5, 255), (axIx Ix.AX_FE_ANGLE_SRC 0, 0, 1), (axIx Ix.AX_FE_HALL_MAP 0, 0, 0xF542031F)] (fun d => d.onFe 0 fun p => { p with code := 6, sector := some 3 }), 0, 3, ?_, ?_, ?_⟩ <;> decide +kernel,
   by refine ⟨S [(Ix.GDA_LEG_OWNER, 1, 0), (Ix.GDA_LEG_OWNER, 2, 0), (Ix.GDA_LEG_OWNER, 3, 0), (Ix.GDA_HITCH_AX, 1, 1), (Ix.GDA_HITCH_AX, 2, 0), (Ix.GDA_HITCH_AX, 3, 1), (Ix.GDA_HITCH_AX, 4, 2), (Ix.GDA_HITCH_AX, 5, 255), (axIx Ix.AX_FE_ANGLE_SRC 0, 0, 2)], 0, true, ?_, ?_, ?_⟩ <;> decide +kernel,
   by refine ⟨S [(Ix.GDA_LEG_OWNER, 1, 0), (Ix.GDA_LEG_OWNER, 2, 0), (Ix.GDA_LEG_OWNER, 3, 0), (Ix.GDA_HITCH_AX, 1, 1), (Ix.GDA_HITCH_AX, 2, 0), (Ix.GDA_HITCH_AX, 3, 1), (Ix.GDA_HITCH_AX, 4, 2), (Ix.GDA_HITCH_AX, 5, 255), (axIx Ix.AX_FE_ANGLE_SRC 0, 0, 2)], 0, true, ?_, ?_, ?_⟩ <;> decide +kernel,
   by refine ⟨S [(Ix.GDA_LEG_OWNER, 1, 0), (Ix.GDA_LEG_OWNER, 2, 0), (Ix.GDA_LEG_OWNER, 3, 0), (Ix.GDA_HITCH_AX, 1, 1), (Ix.GDA_HITCH_AX, 2, 0), (Ix.GDA_HITCH_AX, 3, 1), (Ix.GDA_HITCH_AX, 4, 2), (Ix.GDA_HITCH_AX, 5, 255), (axIx Ix.AX_FE_ANGLE_SRC 0, 0, 2)], 0, true, ?_, ?_, ?_⟩ <;> decide +kernel,
   by refine ⟨S [(Ix.GDA_LEG_OWNER, 1, 0), (Ix.GDA_LEG_OWNER, 2, 0), (Ix.GDA_LEG_OWNER, 3, 0), (Ix.GDA_HITCH_AX, 1, 1), (Ix.GDA_HITCH_AX, 2, 0), (Ix.GDA_HITCH_AX, 3, 1), (Ix.GDA_HITCH_AX, 4, 2), (Ix.GDA_HITCH_AX, 5, 255), (axIx Ix.AX_FE_ANGLE_SRC 0, 0, 2), (axIx Ix.AX_FE_POS_PINS 0, 0, 0xFF000F03), (Ix.POS_OWNER, 4, 0), (Ix.POS_OWNER, 16, 0), (Ix.POS_OWNER, 1, 0)], 0, true, false, true, 3, 15, 0, ?_, ?_, ?_, ?_, ?_, ?_, ?_, ?_, ?_, ?_⟩ <;> decide +kernel⟩

theorem witness_StartProcedure :
    (∃ (s : State) (n : Fin 8) (c : Instr) (e : StEvent), (s.dev.isRunning = true) ∧ ((c = .catchWindowEnd n ∧ e = .windowEnd ∧ s.dev.catching n = true) ∨ (c = .dwellEnd n ∧ e = .dwellEnd ∧ s.dev.stState n = 4) ∨ (c = .alignEnd n ∧ e = .alignEnd ∧ s.dev.stState n = 5) ∨ (c = .pulseSequenceDone n ∧ e = .pulsesDone ∧ s.dev.stState n = 6) ∨ (c = .handoverWaitExpire n ∧ e = .waitEnd ∧ s.dev.stState n = 7) ∨ (c = .attemptPauseEnd n ∧ e = .pauseEnd ∧ s.dev.stState n = 1 ∧ (s.dev.st n).pausing = true)))
    ∧ (∃ (s : State) (rq : Requester) (n : Fin 8), (s.admits rq (axIx Ix.AX_ST_CMD n) 0 = true) ∧ (s.heard.stState n = 9) ∧ ((s.dev.st n).events = []))
    ∧ (∃ (s : State) (rq : Requester) (n : Fin 8), (s.admits rq (axIx Ix.AX_ST_CMD n) 0 = true) ∧ (1 ≤ s.heard.stState n) ∧ (s.heard.stState n ≤ 8))
    ∧ (∃ (s : State) (n : Fin 8), ((s.dev.st n).events = [.stop]) ∧ (1 ≤ s.dev.stState n) ∧ (s.dev.stState n ≤ 8) ∧ ((s.dev.speedLoop n = false)))
    ∧ (∃ (s : State) (t : State) (n : Fin 8), (s.dev.stState n = 1) ∧ ((s.dev.st n).pausing = false) ∧ (s.dev.sensored n = false) ∧ ((s.dev.st n).slow = true) ∧ (t = s.into (s.dev.stEvent s.now n .windowEnd)))
    ∧ (∃ (s : State) (t : State) (n : Fin 8), (s.dev.stState n = 1) ∧ ((s.dev.st n).pausing = false) ∧ (s.dev.sensored n = false) ∧ ((s.dev.st n).slow = false) ∧ ((s.dev.st n).run < s.dev.scfg n Ix.AX_ST_CATCH 3) ∧ ((s.dev.st n).attempt < s.dev.lastAttempt n) ∧ (t = s.into (s.dev.stEvent s.now n .windowEnd)))
    ∧ (∃ (s : State) (t : State) (n : Fin 8), (s.dev.stState n = 1) ∧ ((s.dev.st n).pausing = false) ∧ (s.dev.sensored n = false) ∧ ((s.dev.st n).slow = false) ∧ (s.dev.scfg n Ix.AX_ST_CATCH 3 ≤ (s.dev.st n).run) ∧ (speedAtLeast (s.dev.st n).catcher.omega (sgn 16 (s.dev.scfg n Ix.AX_ST_CATCH 1)) = true) ∧ (sgnOf (s.dev.st n).catcher.omega = (s.dev.st n).dir) ∧ (t = s.into (s.dev.stEvent s.now n .windowEnd)))
    ∧ (∃ (s : State) (t : State) (n : Fin 8), (s.dev.stState n = 4) ∧ (t = s.into (s.dev.stEvent s.now n .dwellEnd)))
    ∧ (∃ (s : State) (t : State) (n : Fin 8), (s.dev.stState n = 5) ∧ (s.dev.fcfg n Ix.AX_FE_INJ_CFG 1 ≠ 1) ∧ (t = s.into (s.dev.stEvent s.now n .alignEnd)))
    ∧ (∃ (s : State) (t : State) (n : Fin 8), (s.dev.stState n = 5) ∧ (s.dev.fcfg n Ix.AX_FE_INJ_CFG 1 = 1) ∧ (t = s.into (s.dev.stEvent s.now n .alignEnd)))
    ∧ (∃ (s : State) (t : State) (n : Fin 8), (s.dev.stState n = 6) ∧ ((s.dev.st n).readings = List.replicate 12 0) ∧ (0 < sgn 16 (s.dev.scfg n Ix.AX_ST_PULSE 4)) ∧ ((s.dev.st n).attempt < s.dev.lastAttempt n) ∧ (t = s.into (s.dev.stEvent s.now n .pulsesDone)))
    ∧ (∃ (s : State) (t : State) (n : Fin 8), (s.dev.stState n = 7) ∧ ((s.dev.st n).attempt < s.dev.lastAttempt n) ∧ (t = s.into (s.dev.stEvent s.now n .waitEnd)))
    ∧ (∃ (s : State) (t : State) (n : Fin 8), (s.dev.stState n = 7) ∧ (s.dev.lastAttempt n ≤ (s.dev.st n).attempt) ∧ (t = s.into (s.dev.stEvent s.now n .waitEnd)))
    ∧ (∃ (s : State) (t : State) (n : Fin 8), (s.dev.stState n = 1) ∧ ((s.dev.st n).pausing = true) ∧ (t = s.into (s.dev.stEvent s.now n .pauseEnd)))
    ∧ (∃ (s : State) (n : Fin 8), (s.dev.isRunning = true) ∧ (s.dev.stState n = 8) ∧ (2 ≤ s.dev.feState n) ∧ (sgn 16 (s.dev.scfg n Ix.AX_ST_LOCK 2) ≤ ((s.dev.ce n).refs.getD 1 0).natAbs)) :=
  ⟨by refine ⟨S [(Ix.GDA_LEG_OWNER, 1, 0), (Ix.GDA_LEG_OWNER, 2, 0), (Ix.GDA_LEG_OWNER, 3, 0), (Ix.GDA_HITCH_AX, 1, 1), (Ix.GDA_HITCH_AX, 2, 0), (Ix.GDA_HITCH_AX, 3, 1), (Ix.GDA_HITCH_AX, 4, 2), (Ix.GDA_HITCH_AX, 5, 255), (axIx Ix.AX_ST_STATE 0, 0, 4)], 0, .dwellEnd 0, .dwellEnd, ?_, ?_⟩ <;> decide +kernel,
   by refine ⟨S [(Ix.GDA_LEG_OWNER, 1, 0), (Ix.GDA_LEG_OWNER, 2, 0), (Ix.GDA_LEG_OWNER, 3, 0), (Ix.GDA_HITCH_AX, 1, 1), (Ix.GDA_HITCH_AX, 2, 0), (Ix.GDA_HITCH_AX, 3, 1), (Ix.GDA_HITCH_AX, 4, 2), (Ix.GDA_HITCH_AX, 5, 255), (axIx Ix.AX_ST_STATE 0, 0, 9)], C, 0, ?_, ?_, ?_⟩ <;> decide +kernel,
   by refine ⟨S [(Ix.GDA_LEG_OWNER, 1, 0), (Ix.GDA_LEG_OWNER, 2, 0), (Ix.GDA_LEG_OWNER, 3, 0), (Ix.GDA_HITCH_AX, 1, 1), (Ix.GDA_HITCH_AX, 2, 0), (Ix.GDA_HITCH_AX, 3, 1), (Ix.GDA_HITCH_AX, 4, 2), (Ix.GDA_HITCH_AX, 5, 255), (axIx Ix.AX_ST_STATE 0, 0, 8)], C, 0, ?_, ?_, ?_⟩ <;> decide +kernel,
   by refine ⟨S [(Ix.GDA_LEG_OWNER, 1, 0), (Ix.GDA_LEG_OWNER, 2, 0), (Ix.GDA_LEG_OWNER, 3, 0), (Ix.GDA_HITCH_AX, 1, 1), (Ix.GDA_HITCH_AX, 2, 0), (Ix.GDA_HITCH_AX, 3, 1), (Ix.GDA_HITCH_AX, 4, 2), (Ix.GDA_HITCH_AX, 5, 255), (axIx Ix.AX_ST_STATE 0, 0, 7), (axIx Ix.AX_CE_MODE 0, 3, 1)] (fun d => d.onSt 0 fun p => { p with events := [.stop] }), 0, ?_, ?_, ?_, ?_⟩ <;> decide +kernel,
   by refine ⟨S [(Ix.GDA_LEG_OWNER, 1, 0), (Ix.GDA_LEG_OWNER, 2, 0), (Ix.GDA_LEG_OWNER, 3, 0), (Ix.GDA_HITCH_AX, 1, 1), (Ix.GDA_HITCH_AX, 2, 0), (Ix.GDA_HITCH_AX, 3, 1), (Ix.GDA_HITCH_AX, 4, 2), (Ix.GDA_HITCH_AX, 5, 255), (axIx Ix.AX_ST_STATE 0, 0, 1)] (fun d => d.onSt 0 fun p => { p with slow := true }), (S [(Ix.GDA_LEG_OWNER, 1, 0), (Ix.GDA_LEG_OWNER, 2, 0), (Ix.GDA_LEG_OWNER, 3, 0), (Ix.GDA_HITCH_AX, 1, 1), (Ix.GDA_HITCH_AX, 2, 0), (Ix.GDA_HITCH_AX, 3, 1), (Ix.GDA_HITCH_AX, 4, 2), (Ix.GDA_HITCH_AX, 5, 255), (axIx Ix.AX_ST_STATE 0, 0, 1)] (fun d => d.onSt 0 fun p => { p with slow := true })).into ((S [(Ix.GDA_LEG_OWNER, 1, 0), (Ix.GDA_LEG_OWNER, 2, 0), (Ix.GDA_LEG_OWNER, 3, 0), (Ix.GDA_HITCH_AX, 1, 1), (Ix.GDA_HITCH_AX, 2, 0), (Ix.GDA_HITCH_AX, 3, 1), (Ix.GDA_HITCH_AX, 4, 2), (Ix.GDA_HITCH_AX, 5, 255), (axIx Ix.AX_ST_STATE 0, 0, 1)] (fun d => d.onSt 0 fun p => { p with slow := true })).dev.stEvent (S [(Ix.GDA_LEG_OWNER, 1, 0), (Ix.GDA_LEG_OWNER, 2, 0), (Ix.GDA_LEG_OWNER, 3, 0), (Ix.GDA_HITCH_AX, 1, 1), (Ix.GDA_HITCH_AX, 2, 0), (Ix.GDA_HITCH_AX, 3, 1), (Ix.GDA_HITCH_AX, 4, 2), (Ix.GDA_HITCH_AX, 5, 255), (axIx Ix.AX_ST_STATE 0, 0, 1)] (fun d => d.onSt 0 fun p => { p with slow := true })).now 0 .windowEnd), 0, ?_, ?_, ?_, ?_, ?_⟩; (decide +kernel); (decide +kernel); (decide +kernel); (decide +kernel); (rfl),
   by refine ⟨S [(Ix.GDA_LEG_OWNER, 1, 0), (Ix.GDA_LEG_OWNER, 2, 0), (Ix.GDA_LEG_OWNER, 3, 0), (Ix.GDA_HITCH_AX, 1, 1), (Ix.GDA_HITCH_AX, 2, 0), (Ix.GDA_HITCH_AX, 3, 1), (Ix.GDA_HITCH_AX, 4, 2), (Ix.GDA_HITCH_AX, 5, 255), (axIx Ix.AX_ST_STATE 0, 0, 1)] (fun d => d.onSt 0 fun p => { p with cfg := [(keyOf (axIx Ix.AX_ST_RETRY 0) 1, 3), (keyOf (axIx Ix.AX_ST_CATCH 0) 1, 10), (keyOf (axIx Ix.AX_ST_CATCH 0) 3, 4)], run := 3, slow := false }), (S [(Ix.GDA_LEG_OWNER, 1, 0), (Ix.GDA_LEG_OWNER, 2, 0), (Ix.GDA_LEG_OWNER, 3, 0), (Ix.GDA_HITCH_AX, 1, 1), (Ix.GDA_HITCH_AX, 2, 0), (Ix.GDA_HITCH_AX, 3, 1), (Ix.GDA_HITCH_AX, 4, 2), (Ix.GDA_HITCH_AX, 5, 255), (axIx Ix.AX_ST_STATE 0, 0, 1)] (fun d => d.onSt 0 fun p => { p with cfg := [(keyOf (axIx Ix.AX_ST_RETRY 0) 1, 3), (keyOf (axIx Ix.AX_ST_CATCH 0) 1, 10), (keyOf (axIx Ix.AX_ST_CATCH 0) 3, 4)], run := 3, slow := false })).into ((S [(Ix.GDA_LEG_OWNER, 1, 0), (Ix.GDA_LEG_OWNER, 2, 0), (Ix.GDA_LEG_OWNER, 3, 0), (Ix.GDA_HITCH_AX, 1, 1), (Ix.GDA_HITCH_AX, 2, 0), (Ix.GDA_HITCH_AX, 3, 1), (Ix.GDA_HITCH_AX, 4, 2), (Ix.GDA_HITCH_AX, 5, 255), (axIx Ix.AX_ST_STATE 0, 0, 1)] (fun d => d.onSt 0 fun p => { p with cfg := [(keyOf (axIx Ix.AX_ST_RETRY 0) 1, 3), (keyOf (axIx Ix.AX_ST_CATCH 0) 1, 10), (keyOf (axIx Ix.AX_ST_CATCH 0) 3, 4)], run := 3, slow := false })).dev.stEvent (S [(Ix.GDA_LEG_OWNER, 1, 0), (Ix.GDA_LEG_OWNER, 2, 0), (Ix.GDA_LEG_OWNER, 3, 0), (Ix.GDA_HITCH_AX, 1, 1), (Ix.GDA_HITCH_AX, 2, 0), (Ix.GDA_HITCH_AX, 3, 1), (Ix.GDA_HITCH_AX, 4, 2), (Ix.GDA_HITCH_AX, 5, 255), (axIx Ix.AX_ST_STATE 0, 0, 1)] (fun d => d.onSt 0 fun p => { p with cfg := [(keyOf (axIx Ix.AX_ST_RETRY 0) 1, 3), (keyOf (axIx Ix.AX_ST_CATCH 0) 1, 10), (keyOf (axIx Ix.AX_ST_CATCH 0) 3, 4)], run := 3, slow := false })).now 0 .windowEnd), 0, ?_, ?_, ?_, ?_, ?_, ?_, ?_⟩; (decide +kernel); (decide +kernel); (decide +kernel); (decide +kernel); (decide +kernel); (decide +kernel); (rfl),
   by refine ⟨S [(Ix.GDA_LEG_OWNER, 1, 0), (Ix.GDA_LEG_OWNER, 2, 0), (Ix.GDA_LEG_OWNER, 3, 0), (Ix.GDA_HITCH_AX, 1, 1), (Ix.GDA_HITCH_AX, 2, 0), (Ix.GDA_HITCH_AX, 3, 1), (Ix.GDA_HITCH_AX, 4, 2), (Ix.GDA_HITCH_AX, 5, 255), (axIx Ix.AX_ST_STATE 0, 0, 1)] (fun d => d.onSt 0 fun p => { p with cfg := [(keyOf (axIx Ix.AX_ST_RETRY 0) 1, 3), (keyOf (axIx Ix.AX_ST_CATCH 0) 1, 10), (keyOf (axIx Ix.AX_ST_CATCH 0) 3, 4)], run := 4, slow := false, dir := 1, catcher := ⟨0, 100000000, 0⟩ }), (S [(Ix.GDA_LEG_OWNER, 1, 0), (Ix.GDA_LEG_OWNER, 2, 0), (Ix.GDA_LEG_OWNER, 3, 0), (Ix.GDA_HITCH_AX, 1, 1), (Ix.GDA_HITCH_AX, 2, 0), (Ix.GDA_HITCH_AX, 3, 1), (Ix.GDA_HITCH_AX, 4, 2), (Ix.GDA_HITCH_AX, 5, 255), (axIx Ix.AX_ST_STATE 0, 0, 1)] (fun d => d.onSt 0 fun p => { p with cfg := [(keyOf (axIx Ix.AX_ST_RETRY 0) 1, 3), (keyOf (axIx Ix.AX_ST_CATCH 0) 1, 10), (keyOf (axIx Ix.AX_ST_CATCH 0) 3, 4)], run := 4, slow := false, dir := 1, catcher := ⟨0, 100000000, 0⟩ })).into ((S [(Ix.GDA_LEG_OWNER, 1, 0), (Ix.GDA_LEG_OWNER, 2, 0), (Ix.GDA_LEG_OWNER, 3, 0), (Ix.GDA_HITCH_AX, 1, 1), (Ix.GDA_HITCH_AX, 2, 0), (Ix.GDA_HITCH_AX, 3, 1), (Ix.GDA_HITCH_AX, 4, 2), (Ix.GDA_HITCH_AX, 5, 255), (axIx Ix.AX_ST_STATE 0, 0, 1)] (fun d => d.onSt 0 fun p => { p with cfg := [(keyOf (axIx Ix.AX_ST_RETRY 0) 1, 3), (keyOf (axIx Ix.AX_ST_CATCH 0) 1, 10), (keyOf (axIx Ix.AX_ST_CATCH 0) 3, 4)], run := 4, slow := false, dir := 1, catcher := ⟨0, 100000000, 0⟩ })).dev.stEvent (S [(Ix.GDA_LEG_OWNER, 1, 0), (Ix.GDA_LEG_OWNER, 2, 0), (Ix.GDA_LEG_OWNER, 3, 0), (Ix.GDA_HITCH_AX, 1, 1), (Ix.GDA_HITCH_AX, 2, 0), (Ix.GDA_HITCH_AX, 3, 1), (Ix.GDA_HITCH_AX, 4, 2), (Ix.GDA_HITCH_AX, 5, 255), (axIx Ix.AX_ST_STATE 0, 0, 1)] (fun d => d.onSt 0 fun p => { p with cfg := [(keyOf (axIx Ix.AX_ST_RETRY 0) 1, 3), (keyOf (axIx Ix.AX_ST_CATCH 0) 1, 10), (keyOf (axIx Ix.AX_ST_CATCH 0) 3, 4)], run := 4, slow := false, dir := 1, catcher := ⟨0, 100000000, 0⟩ })).now 0 .windowEnd), 0, ?_, ?_, ?_, ?_, ?_, ?_, ?_, ?_⟩; (decide +kernel); (decide +kernel); (decide +kernel); (decide +kernel); (decide +kernel); (decide +kernel); (decide +kernel); (rfl),
   by refine ⟨S [(Ix.GDA_LEG_OWNER, 1, 0), (Ix.GDA_LEG_OWNER, 2, 0), (Ix.GDA_LEG_OWNER, 3, 0), (Ix.GDA_HITCH_AX, 1, 1), (Ix.GDA_HITCH_AX, 2, 0), (Ix.GDA_HITCH_AX, 3, 1), (Ix.GDA_HITCH_AX, 4, 2), (Ix.GDA_HITCH_AX, 5, 255), (axIx Ix.AX_ST_STATE 0, 0, 4)], (S [(Ix.GDA_LEG_OWNER, 1, 0), (Ix.GDA_LEG_OWNER, 2, 0), (Ix.GDA_LEG_OWNER, 3, 0), (Ix.GDA_HITCH_AX, 1, 1), (Ix.GDA_HITCH_AX, 2, 0), (Ix.GDA_HITCH_AX, 3, 1), (Ix.GDA_HITCH_AX, 4, 2), (Ix.GDA_HITCH_AX, 5, 255), (axIx Ix.AX_ST_STATE 0, 0, 4)]).into ((S [(Ix.GDA_LEG_OWNER, 1, 0), (Ix.GDA_LEG_OWNER, 2, 0), (Ix.GDA_LEG_OWNER, 3, 0), (Ix.GDA_HITCH_AX, 1, 1), (Ix.GDA_HITCH_AX, 2, 0), (Ix.GDA_HITCH_AX, 3, 1), (Ix.GDA_HITCH_AX, 4, 2), (Ix.GDA_HITCH_AX, 5, 255), (axIx Ix.AX_ST_STATE 0, 0, 4)]).dev.stEvent (S [(Ix.GDA_LEG_OWNER, 1, 0), (Ix.GDA_LEG_OWNER, 2, 0), (Ix.GDA_LEG_OWNER, 3, 0), (Ix.GDA_HITCH_AX, 1, 1), (Ix.GDA_HITCH_AX, 2, 0), (Ix.GDA_HITCH_AX, 3, 1), (Ix.GDA_HITCH_AX, 4, 2), (Ix.GDA_HITCH_AX, 5, 255), (axIx Ix.AX_ST_STATE 0, 0, 4)]).now 0 .dwellEnd), 0, ?_, ?_⟩; (decide +kernel); (rfl),
   by refine ⟨S [(Ix.GDA_LEG_OWNER, 1, 0), (Ix.GDA_LEG_OWNER, 2, 0), (Ix.GDA_LEG_OWNER, 3, 0), (Ix.GDA_HITCH_AX, 1, 1), (Ix.GDA_HITCH_AX, 2, 0), (Ix.GDA_HITCH_AX, 3, 1), (Ix.GDA_HITCH_AX, 4, 2), (Ix.GDA_HITCH_AX, 5, 255), (axIx Ix.AX_ST_STATE 0, 0, 5)], (S [(Ix.GDA_LEG_OWNER, 1, 0), (Ix.GDA_LEG_OWNER, 2, 0), (Ix.GDA_LEG_OWNER, 3, 0), (Ix.GDA_HITCH_AX, 1, 1), (Ix.GDA_HITCH_AX, 2, 0), (Ix.GDA_HITCH_AX, 3, 1), (Ix.GDA_HITCH_AX, 4, 2), (Ix.GDA_HITCH_AX, 5, 255), (axIx Ix.AX_ST_STATE 0, 0, 5)]).into ((S [(Ix.GDA_LEG_OWNER, 1, 0), (Ix.GDA_LEG_OWNER, 2, 0), (Ix.GDA_LEG_OWNER, 3, 0), (Ix.GDA_HITCH_AX, 1, 1), (Ix.GDA_HITCH_AX, 2, 0), (Ix.GDA_HITCH_AX, 3, 1), (Ix.GDA_HITCH_AX, 4, 2), (Ix.GDA_HITCH_AX, 5, 255), (axIx Ix.AX_ST_STATE 0, 0, 5)]).dev.stEvent (S [(Ix.GDA_LEG_OWNER, 1, 0), (Ix.GDA_LEG_OWNER, 2, 0), (Ix.GDA_LEG_OWNER, 3, 0), (Ix.GDA_HITCH_AX, 1, 1), (Ix.GDA_HITCH_AX, 2, 0), (Ix.GDA_HITCH_AX, 3, 1), (Ix.GDA_HITCH_AX, 4, 2), (Ix.GDA_HITCH_AX, 5, 255), (axIx Ix.AX_ST_STATE 0, 0, 5)]).now 0 .alignEnd), 0, ?_, ?_, ?_⟩; (decide +kernel); (decide +kernel); (rfl),
   by refine ⟨S [(Ix.GDA_LEG_OWNER, 1, 0), (Ix.GDA_LEG_OWNER, 2, 0), (Ix.GDA_LEG_OWNER, 3, 0), (Ix.GDA_HITCH_AX, 1, 1), (Ix.GDA_HITCH_AX, 2, 0), (Ix.GDA_HITCH_AX, 3, 1), (Ix.GDA_HITCH_AX, 4, 2), (Ix.GDA_HITCH_AX, 5, 255), (axIx Ix.AX_ST_STATE 0, 0, 5), (axIx Ix.AX_FE_INJ_CFG 0, 1, 1)], (S [(Ix.GDA_LEG_OWNER, 1, 0), (Ix.GDA_LEG_OWNER, 2, 0), (Ix.GDA_LEG_OWNER, 3, 0), (Ix.GDA_HITCH_AX, 1, 1), (Ix.GDA_HITCH_AX, 2, 0), (Ix.GDA_HITCH_AX, 3, 1), (Ix.GDA_HITCH_AX, 4, 2), (Ix.GDA_HITCH_AX, 5, 255), (axIx Ix.AX_ST_STATE 0, 0, 5), (axIx Ix.AX_FE_INJ_CFG 0, 1, 1)]).into ((S [(Ix.GDA_LEG_OWNER, 1, 0), (Ix.GDA_LEG_OWNER, 2, 0), (Ix.GDA_LEG_OWNER, 3, 0), (Ix.GDA_HITCH_AX, 1, 1), (Ix.GDA_HITCH_AX, 2, 0), (Ix.GDA_HITCH_AX, 3, 1), (Ix.GDA_HITCH_AX, 4, 2), (Ix.GDA_HITCH_AX, 5, 255), (axIx Ix.AX_ST_STATE 0, 0, 5), (axIx Ix.AX_FE_INJ_CFG 0, 1, 1)]).dev.stEvent (S [(Ix.GDA_LEG_OWNER, 1, 0), (Ix.GDA_LEG_OWNER, 2, 0), (Ix.GDA_LEG_OWNER, 3, 0), (Ix.GDA_HITCH_AX, 1, 1), (Ix.GDA_HITCH_AX, 2, 0), (Ix.GDA_HITCH_AX, 3, 1), (Ix.GDA_HITCH_AX, 4, 2), (Ix.GDA_HITCH_AX, 5, 255), (axIx Ix.AX_ST_STATE 0, 0, 5), (axIx Ix.AX_FE_INJ_CFG 0, 1, 1)]).now 0 .alignEnd), 0, ?_, ?_, ?_⟩; (decide +kernel); (decide +kernel); (rfl),
   by refine ⟨S [(Ix.GDA_LEG_OWNER, 1, 0), (Ix.GDA_LEG_OWNER, 2, 0), (Ix.GDA_LEG_OWNER, 3, 0), (Ix.GDA_HITCH_AX, 1, 1), (Ix.GDA_HITCH_AX, 2, 0), (Ix.GDA_HITCH_AX, 3, 1), (Ix.GDA_HITCH_AX, 4, 2), (Ix.GDA_HITCH_AX, 5, 255), (axIx Ix.AX_ST_STATE 0, 0, 6)] (fun d => d.onSt 0 fun p => { p with cfg := [(keyOf (axIx Ix.AX_ST_RETRY 0) 1, 3), (keyOf (axIx Ix.AX_ST_PULSE 0) 4, 10)], readings := List.replicate 12 0 }), (S [(Ix.GDA_LEG_OWNER, 1, 0), (Ix.GDA_LEG_OWNER, 2, 0), (Ix.GDA_LEG_OWNER, 3, 0), (Ix.GDA_HITCH_AX, 1, 1), (Ix.GDA_HITCH_AX, 2, 0), (Ix.GDA_HITCH_AX, 3, 1), (Ix.GDA_HITCH_AX, 4, 2), (Ix.GDA_HITCH_AX, 5, 255), (axIx Ix.AX_ST_STATE 0, 0, 6)] (fun d => d.onSt 0 fun p => { p with cfg := [(keyOf (axIx Ix.AX_ST_RETRY 0) 1, 3), (keyOf (axIx Ix.AX_ST_PULSE 0) 4, 10)], readings := List.replicate 12 0 })).into ((S [(Ix.GDA_LEG_OWNER, 1, 0), (Ix.GDA_LEG_OWNER, 2, 0), (Ix.GDA_LEG_OWNER, 3, 0), (Ix.GDA_HITCH_AX, 1, 1), (Ix.GDA_HITCH_AX, 2, 0), (Ix.GDA_HITCH_AX, 3, 1), (Ix.GDA_HITCH_AX, 4, 2), (Ix.GDA_HITCH_AX, 5, 255), (axIx Ix.AX_ST_STATE 0, 0, 6)] (fun d => d.onSt 0 fun p => { p with cfg := [(keyOf (axIx Ix.AX_ST_RETRY 0) 1, 3), (keyOf (axIx Ix.AX_ST_PULSE 0) 4, 10)], readings := List.replicate 12 0 })).dev.stEvent (S [(Ix.GDA_LEG_OWNER, 1, 0), (Ix.GDA_LEG_OWNER, 2, 0), (Ix.GDA_LEG_OWNER, 3, 0), (Ix.GDA_HITCH_AX, 1, 1), (Ix.GDA_HITCH_AX, 2, 0), (Ix.GDA_HITCH_AX, 3, 1), (Ix.GDA_HITCH_AX, 4, 2), (Ix.GDA_HITCH_AX, 5, 255), (axIx Ix.AX_ST_STATE 0, 0, 6)] (fun d => d.onSt 0 fun p => { p with cfg := [(keyOf (axIx Ix.AX_ST_RETRY 0) 1, 3), (keyOf (axIx Ix.AX_ST_PULSE 0) 4, 10)], readings := List.replicate 12 0 })).now 0 .pulsesDone), 0, ?_, ?_, ?_, ?_, ?_⟩; (decide +kernel); (decide +kernel); (decide +kernel); (decide +kernel); (rfl),
   by refine ⟨S [(Ix.GDA_LEG_OWNER, 1, 0), (Ix.GDA_LEG_OWNER, 2, 0), (Ix.GDA_LEG_OWNER, 3, 0), (Ix.GDA_HITCH_AX, 1, 1), (Ix.GDA_HITCH_AX, 2, 0), (Ix.GDA_HITCH_AX, 3, 1), (Ix.GDA_HITCH_AX, 4, 2), (Ix.GDA_HITCH_AX, 5, 255), (axIx Ix.AX_ST_STATE 0, 0, 7)] (fun d => d.onSt 0 fun p => { p with cfg := [(keyOf (axIx Ix.AX_ST_RETRY 0) 1, 3), (keyOf (axIx Ix.AX_ST_CATCH 0) 1, 10), (keyOf (axIx Ix.AX_ST_CATCH 0) 3, 4)] }), (S [(Ix.GDA_LEG_OWNER, 1, 0), (Ix.GDA_LEG_OWNER, 2, 0), (Ix.GDA_LEG_OWNER, 3, 0), (Ix.GDA_HITCH_AX, 1, 1), (Ix.GDA_HITCH_AX, 2, 0), (Ix.GDA_HITCH_AX, 3, 1), (Ix.GDA_HITCH_AX, 4, 2), (Ix.GDA_HITCH_AX, 5, 255), (axIx Ix.AX_ST_STATE 0, 0, 7)] (fun d => d.onSt 0 fun p => { p with cfg := [(keyOf (axIx Ix.AX_ST_RETRY 0) 1, 3), (keyOf (axIx Ix.AX_ST_CATCH 0) 1, 10), (keyOf (axIx Ix.AX_ST_CATCH 0) 3, 4)] })).into ((S [(Ix.GDA_LEG_OWNER, 1, 0), (Ix.GDA_LEG_OWNER, 2, 0), (Ix.GDA_LEG_OWNER, 3, 0), (Ix.GDA_HITCH_AX, 1, 1), (Ix.GDA_HITCH_AX, 2, 0), (Ix.GDA_HITCH_AX, 3, 1), (Ix.GDA_HITCH_AX, 4, 2), (Ix.GDA_HITCH_AX, 5, 255), (axIx Ix.AX_ST_STATE 0, 0, 7)] (fun d => d.onSt 0 fun p => { p with cfg := [(keyOf (axIx Ix.AX_ST_RETRY 0) 1, 3), (keyOf (axIx Ix.AX_ST_CATCH 0) 1, 10), (keyOf (axIx Ix.AX_ST_CATCH 0) 3, 4)] })).dev.stEvent (S [(Ix.GDA_LEG_OWNER, 1, 0), (Ix.GDA_LEG_OWNER, 2, 0), (Ix.GDA_LEG_OWNER, 3, 0), (Ix.GDA_HITCH_AX, 1, 1), (Ix.GDA_HITCH_AX, 2, 0), (Ix.GDA_HITCH_AX, 3, 1), (Ix.GDA_HITCH_AX, 4, 2), (Ix.GDA_HITCH_AX, 5, 255), (axIx Ix.AX_ST_STATE 0, 0, 7)] (fun d => d.onSt 0 fun p => { p with cfg := [(keyOf (axIx Ix.AX_ST_RETRY 0) 1, 3), (keyOf (axIx Ix.AX_ST_CATCH 0) 1, 10), (keyOf (axIx Ix.AX_ST_CATCH 0) 3, 4)] })).now 0 .waitEnd), 0, ?_, ?_, ?_⟩; (decide +kernel); (decide +kernel); (rfl),
   by refine ⟨S [(Ix.GDA_LEG_OWNER, 1, 0), (Ix.GDA_LEG_OWNER, 2, 0), (Ix.GDA_LEG_OWNER, 3, 0), (Ix.GDA_HITCH_AX, 1, 1), (Ix.GDA_HITCH_AX, 2, 0), (Ix.GDA_HITCH_AX, 3, 1), (Ix.GDA_HITCH_AX, 4, 2), (Ix.GDA_HITCH_AX, 5, 255), (axIx Ix.AX_ST_STATE 0, 0, 7)] (fun d => d.onSt 0 fun p => { p with attempt := 9 }), (S [(Ix.GDA_LEG_OWNER, 1, 0), (Ix.GDA_LEG_OWNER, 2, 0), (Ix.GDA_LEG_OWNER, 3, 0), (Ix.GDA_HITCH_AX, 1, 1), (Ix.GDA_HITCH_AX, 2, 0), (Ix.GDA_HITCH_AX, 3, 1), (Ix.GDA_HITCH_AX, 4, 2), (Ix.GDA_HITCH_AX, 5, 255), (axIx Ix.AX_ST_STATE 0, 0, 7)] (fun d => d.onSt 0 fun p => { p with attempt := 9 })).into ((S [(Ix.GDA_LEG_OWNER, 1, 0), (Ix.GDA_LEG_OWNER, 2, 0), (Ix.GDA_LEG_OWNER, 3, 0), (Ix.GDA_HITCH_AX, 1, 1), (Ix.GDA_HITCH_AX, 2, 0), (Ix.GDA_HITCH_AX, 3, 1), (Ix.GDA_HITCH_AX, 4, 2), (Ix.GDA_HITCH_AX, 5, 255), (axIx Ix.AX_ST_STATE 0, 0, 7)] (fun d => d.onSt 0 fun p => { p with attempt := 9 })).dev.stEvent (S [(Ix.GDA_LEG_OWNER, 1, 0), (Ix.GDA_LEG_OWNER, 2, 0), (Ix.GDA_LEG_OWNER, 3, 0), (Ix.GDA_HITCH_AX, 1, 1), (Ix.GDA_HITCH_AX, 2, 0), (Ix.GDA_HITCH_AX, 3, 1), (Ix.GDA_HITCH_AX, 4, 2), (Ix.GDA_HITCH_AX, 5, 255), (axIx Ix.AX_ST_STATE 0, 0, 7)] (fun d => d.onSt 0 fun p => { p with attempt := 9 })).now 0 .waitEnd), 0, ?_, ?_, ?_⟩; (decide +kernel); (decide +kernel); (rfl),
   by refine ⟨S [(Ix.GDA_LEG_OWNER, 1, 0), (Ix.GDA_LEG_OWNER, 2, 0), (Ix.GDA_LEG_OWNER, 3, 0), (Ix.GDA_HITCH_AX, 1, 1), (Ix.GDA_HITCH_AX, 2, 0), (Ix.GDA_HITCH_AX, 3, 1), (Ix.GDA_HITCH_AX, 4, 2), (Ix.GDA_HITCH_AX, 5, 255), (axIx Ix.AX_ST_STATE 0, 0, 1)] (fun d => d.onSt 0 fun p => { p with pausing := true, run := 9 }), (S [(Ix.GDA_LEG_OWNER, 1, 0), (Ix.GDA_LEG_OWNER, 2, 0), (Ix.GDA_LEG_OWNER, 3, 0), (Ix.GDA_HITCH_AX, 1, 1), (Ix.GDA_HITCH_AX, 2, 0), (Ix.GDA_HITCH_AX, 3, 1), (Ix.GDA_HITCH_AX, 4, 2), (Ix.GDA_HITCH_AX, 5, 255), (axIx Ix.AX_ST_STATE 0, 0, 1)] (fun d => d.onSt 0 fun p => { p with pausing := true, run := 9 })).into ((S [(Ix.GDA_LEG_OWNER, 1, 0), (Ix.GDA_LEG_OWNER, 2, 0), (Ix.GDA_LEG_OWNER, 3, 0), (Ix.GDA_HITCH_AX, 1, 1), (Ix.GDA_HITCH_AX, 2, 0), (Ix.GDA_HITCH_AX, 3, 1), (Ix.GDA_HITCH_AX, 4, 2), (Ix.GDA_HITCH_AX, 5, 255), (axIx Ix.AX_ST_STATE 0, 0, 1)] (fun d => d.onSt 0 fun p => { p with pausing := true, run := 9 })).dev.stEvent (S [(Ix.GDA_LEG_OWNER, 1, 0), (Ix.GDA_LEG_OWNER, 2, 0), (Ix.GDA_LEG_OWNER, 3, 0), (Ix.GDA_HITCH_AX, 1, 1), (Ix.GDA_HITCH_AX, 2, 0), (Ix.GDA_HITCH_AX, 3, 1), (Ix.GDA_HITCH_AX, 4, 2), (Ix.GDA_HITCH_AX, 5, 255), (axIx Ix.AX_ST_STATE 0, 0, 1)] (fun d => d.onSt 0 fun p => { p with pausing := true, run := 9 })).now 0 .pauseEnd), 0, ?_, ?_, ?_⟩; (decide +kernel); (decide +kernel); (rfl),
   by refine ⟨S [(Ix.GDA_LEG_OWNER, 1, 0), (Ix.GDA_LEG_OWNER, 2, 0), (Ix.GDA_LEG_OWNER, 3, 0), (Ix.GDA_HITCH_AX, 1, 1), (Ix.GDA_HITCH_AX, 2, 0), (Ix.GDA_HITCH_AX, 3, 1), (Ix.GDA_HITCH_AX, 4, 2), (Ix.GDA_HITCH_AX, 5, 255), (axIx Ix.AX_ST_STATE 0, 0, 8), (axIx Ix.AX_FE_STATE 0, 0, 2)] (fun d => d.onCe 0 fun p => { p with refs := [0, 32000] }), 0, ?_, ?_, ?_, ?_⟩ <;> decide +kernel⟩

theorem witness_MoveCommands :
    (∃ (s : State) (rq : Requester) (n : Fin 8), (s.admits rq (axIx Ix.AX_PRF_CMD n) 0 = true) ∧ (s.heard.pushStatus n = 0))
    ∧ (∃ (s : State) (rq : Requester) (n : Fin 8), (s.admits rq (axIx Ix.AX_PRF_CMD n) 0 = true) ∧ (s.heard.pushStatus n = 0x0A))
    ∧ (∃ (s : State) (rq : Requester) (n : Fin 8) (m : Move), (s.admits rq (axIx Ix.AX_PRF_CMD n) 0 = true) ∧ (s.heard.prfState n = 2) ∧ ((s.dev.prf n).move = some m) ∧ ((s.dev.prf n).v ≠ 0))
    ∧ (∃ (s : State) (rq : Requester) (n : Fin 8), (s.admits rq (axIx Ix.AX_PRF_CMD n) 0 = true) ∧ ((s.heard.prfState n = 2 ∨ s.heard.prfState n = 4 ∨ s.heard.prfState n = 5)) ∧ ((s.dev.prf n).v ≠ 0))
    ∧ (∃ (s : State) (rq : Requester) (n : Fin 8) (g : GroupMove) (c : Instr), (c = .flush rq n ∨ c = .quickStop rq n) ∧ (s.admits rq (axIx Ix.AX_PRF_CMD n) 0 = true) ∧ (s.heard.prfState n = 6) ∧ (s.dev.interp.move = some g))
    ∧ (∃ (s : State) (rq : Requester) (n : Fin 8), (s.admits rq (axIx Ix.AX_PRF_CMD n) 0 = true) ∧ (s.heard.homeStatus n = 0) ∧ (s.dev.homeMethod n ≠ 0))
    ∧ (∃ (s : State) (rq : Requester), (s.admits rq Ix.INT_CMD 0 = true) ∧ (s.heard.groupStatus s.heard.heldGroup = 0))
    ∧ (∃ (s : State) (rq : Requester), (s.admits rq Ix.INT_CMD 0 = true))
    ∧ (∃ (s : State) (rq : Requester), (s.admits rq Ix.INT_CMD 0 = true)) :=
  ⟨by refine ⟨S [(Ix.GDA_LEG_OWNER, 1, 0), (Ix.GDA_LEG_OWNER, 2, 0), (Ix.GDA_LEG_OWNER, 3, 0), (Ix.GDA_HITCH_AX, 1, 1), (Ix.GDA_HITCH_AX, 2, 0), (Ix.GDA_HITCH_AX, 3, 1), (Ix.GDA_HITCH_AX, 4, 2), (Ix.GDA_HITCH_AX, 5, 255), (axIx Ix.AX_STATE 0, 0, 1), (Ix.DEV_STATE, 0, 3), (axIx Ix.AX_PRF_STATE 0, 0, 1), (axIx Ix.AX_PRF_MOVE 0, 1, 1), (axIx Ix.AX_PRF_MOVE 0, 2, 1000), (axIx Ix.AX_PRF_MOVE 0, 4, 7), (axIx Ix.AX_PRF_MOVE 0, 5, 7)], C, 0, ?_, ?_⟩ <;> decide +kernel,
   by refine ⟨S [(Ix.GDA_LEG_OWNER, 1, 0), (Ix.GDA_LEG_OWNER, 2, 0), (Ix.GDA_LEG_OWNER, 3, 0), (Ix.GDA_HITCH_AX, 1, 1), (Ix.GDA_HITCH_AX, 2, 0), (Ix.GDA_HITCH_AX, 3, 1), (Ix.GDA_HITCH_AX, 4, 2), (Ix.GDA_HITCH_AX, 5, 255), (axIx Ix.AX_STATE 0, 0, 1), (Ix.DEV_STATE, 0, 3), (axIx Ix.AX_PRF_STATE 0, 0, 1), (axIx Ix.AX_PRF_MOVE 0, 1, 1), (axIx Ix.AX_PRF_MOVE 0, 2, 1000), (axIx Ix.AX_PRF_MOVE 0, 4, 7), (axIx Ix.AX_PRF_MOVE 0, 5, 7)] (fun d => d.onPrf 0 fun p => { p with queue := List.replicate 16 ⟨0, 0, 0, 1, 1, 0, false, 0⟩ }), C, 0, ?_, ?_⟩ <;> decide +kernel,
   by refine ⟨S [(Ix.GDA_LEG_OWNER, 1, 0), (Ix.GDA_LEG_OWNER, 2, 0), (Ix.GDA_LEG_OWNER, 3, 0), (Ix.GDA_HITCH_AX, 1, 1), (Ix.GDA_HITCH_AX, 2, 0), (Ix.GDA_HITCH_AX, 3, 1), (Ix.GDA_HITCH_AX, 4, 2), (Ix.GDA_HITCH_AX, 5, 255), (axIx Ix.AX_STATE 0, 0, 1), (Ix.DEV_STATE, 0, 3), (axIx Ix.AX_PRF_STATE 0, 0, 1), (axIx Ix.AX_PRF_STATE 0, 0, 2)] (fun d => d.onPrf 0 fun p => { p with move := some ⟨0, 5000, 100, 7, 9, 0, false, 0⟩, v := 6553600, queue := [⟨0, 5000, 100, 7, 9, 0, false, 0⟩] }), C, 0, ⟨0, 5000, 100, 7, 9, 0, false, 0⟩, ?_, ?_, ?_, ?_⟩ <;> decide +kernel,
   by refine ⟨S [(Ix.GDA_LEG_OWNER, 1, 0), (Ix.GDA_LEG_OWNER, 2, 0), (Ix.GDA_LEG_OWNER, 3, 0), (Ix.GDA_HITCH_AX, 1, 1), (Ix.GDA_HITCH_AX, 2, 0), (Ix.GDA_HITCH_AX, 3, 1), (Ix.GDA_HITCH_AX, 4, 2), (Ix.GDA_HITCH_AX, 5, 255), (axIx Ix.AX_STATE 0, 0, 1), (Ix.DEV_STATE, 0, 3), (axIx Ix.AX_PRF_STATE 0, 0, 1), (axIx Ix.AX_PRF_STATE 0, 0, 2)] (fun d => d.onPrf 0 fun p => { p with move := some ⟨0, 5000, 100, 7, 9, 0, false, 0⟩, v := 6553600, queue := [⟨0, 5000, 100, 7, 9, 0, false, 0⟩] }), C, 0, ?_, ?_, ?_⟩ <;> decide +kernel,
   by refine ⟨S [(Ix.GDA_LEG_OWNER, 1, 0), (Ix.GDA_LEG_OWNER, 2, 0), (Ix.GDA_LEG_OWNER, 3, 0), (Ix.GDA_HITCH_AX, 1, 1), (Ix.GDA_HITCH_AX, 2, 0), (Ix.GDA_HITCH_AX, 3, 1), (Ix.GDA_HITCH_AX, 4, 2), (Ix.GDA_HITCH_AX, 5, 255), (axIx Ix.AX_STATE 0, 0, 1), (Ix.DEV_STATE, 0, 3), (axIx Ix.AX_PRF_STATE 0, 0, 1), (axIx Ix.AX_PRF_STATE 0, 0, 6), (Ix.INT_GROUP, 0, 1), (Ix.INT_MOVE, 1, 1), (Ix.INT_MOVE, 2, 500), (Ix.INT_MOVE, 7, 5), (Ix.INT_MOVE, 8, 5)] (fun d => (fun d => { d with interp := { d.interp with move := some ⟨1, [500, 0, 0, 0], 1000, 5, 5, 0⟩ } }) <| (fun d => d.onPrf 0 fun p => { p with v := 6553600 }) <| d), C, 0, ⟨1, [500, 0, 0, 0], 1000, 5, 5, 0⟩, .quickStop C 0, ?_, ?_, ?_, ?_⟩ <;> decide +kernel,
   by refine ⟨S [(Ix.GDA_LEG_OWNER, 1, 0), (Ix.GDA_LEG_OWNER, 2, 0), (Ix.GDA_LEG_OWNER, 3, 0), (Ix.GDA_HITCH_AX, 1, 1), (Ix.GDA_HITCH_AX, 2, 0), (Ix.GDA_HITCH_AX, 3, 1), (Ix.GDA_HITCH_AX, 4, 2), (Ix.GDA_HITCH_AX, 5, 255), (Ix.GDA_HITCH_AX, 1, 2), (axIx Ix.AX_STATE 0, 0, 1), (Ix.DEV_STATE, 0, 3), (axIx Ix.AX_PRF_STATE 0, 0, 1)] (fun d => d.onPrf 0 fun p => { p with cfg := [(keyOf (axIx Ix.AX_PRF_HOME 0) 1, 1)] }), C, 0, ?_, ?_, ?_⟩ <;> decide +kernel,
   by refine ⟨S [(Ix.GDA_LEG_OWNER, 1, 0), (Ix.GDA_LEG_OWNER, 2, 0), (Ix.GDA_LEG_OWNER, 3, 0), (Ix.GDA_HITCH_AX, 1, 1), (Ix.GDA_HITCH_AX, 2, 0), (Ix.GDA_HITCH_AX, 3, 1), (Ix.GDA_HITCH_AX, 4, 2), (Ix.GDA_HITCH_AX, 5, 255), (axIx Ix.AX_STATE 0, 0, 1), (Ix.DEV_STATE, 0, 3), (axIx Ix.AX_PRF_STATE 0, 0, 1), (Ix.INT_GROUP, 0, 1), (Ix.INT_MOVE, 1, 1), (Ix.INT_MOVE, 2, 500), (Ix.INT_MOVE, 7, 5), (Ix.INT_MOVE, 8, 5)], C, ?_, ?_⟩ <;> decide +kernel,
   by refine ⟨S [(Ix.GDA_LEG_OWNER, 1, 0), (Ix.GDA_LEG_OWNER, 2, 0), (Ix.GDA_LEG_OWNER, 3, 0), (Ix.GDA_HITCH_AX, 1, 1), (Ix.GDA_HITCH_AX, 2, 0), (Ix.GDA_HITCH_AX, 3, 1), (Ix.GDA_HITCH_AX, 4, 2), (Ix.GDA_HITCH_AX, 5, 255), (axIx Ix.AX_STATE 0, 0, 1), (Ix.DEV_STATE, 0, 3), (axIx Ix.AX_PRF_STATE 0, 0, 1), (axIx Ix.AX_PRF_STATE 0, 0, 6), (Ix.INT_GROUP, 0, 1), (Ix.INT_MOVE, 1, 1), (Ix.INT_MOVE, 2, 500), (Ix.INT_MOVE, 7, 5), (Ix.INT_MOVE, 8, 5)] (fun d => (fun d => { d with interp := { d.interp with move := some ⟨1, [500, 0, 0, 0], 1000, 5, 5, 0⟩ } }) <| (fun d => d.onPrf 0 fun p => { p with v := 6553600 }) <| d), C, ?_⟩ <;> decide +kernel,
   by refine ⟨S [(Ix.GDA_LEG_OWNER, 1, 0), (Ix.GDA_LEG_OWNER, 2, 0), (Ix.GDA_LEG_OWNER, 3, 0), (Ix.GDA_HITCH_AX, 1, 1), (Ix.GDA_HITCH_AX, 2, 0), (Ix.GDA_HITCH_AX, 3, 1), (Ix.GDA_HITCH_AX, 4, 2), (Ix.GDA_HITCH_AX, 5, 255), (axIx Ix.AX_STATE 0, 0, 1), (Ix.DEV_STATE, 0, 3), (axIx Ix.AX_PRF_STATE 0, 0, 1), (axIx Ix.AX_PRF_STATE 0, 0, 6), (Ix.INT_GROUP, 0, 1), (Ix.INT_MOVE, 1, 1), (Ix.INT_MOVE, 2, 500), (Ix.INT_MOVE, 7, 5), (Ix.INT_MOVE, 8, 5)] (fun d => (fun d => { d with interp := { d.interp with move := some ⟨1, [500, 0, 0, 0], 1000, 5, 5, 0⟩ } }) <| (fun d => d.onPrf 0 fun p => { p with v := 6553600 }) <| d), C, ?_⟩ <;> decide +kernel⟩

theorem witness_StepsAndProfiles :
    (∃ (s : State) (n : Fin 8), (s.dev.isRunning = true) ∧ (s.dev.interp.move = none) ∧ (s.dev.prfState n ≠ 6) ∧ ((s.dev.prf n).waits = false) ∧ ((s.dev.prf n).v ≠ 0) ∧ ((s.dev.prfState n = 2 → (s.dev.prf n).target ≠ some (s.dev.rd (axIx Ix.AX_PRF_POS n)))) ∧ ((∀ l ∈ s.dev.axisLegs n, (s.dev.leg l).latched = false)))
    ∧ (∃ (s : State) (n : Fin 8), (s.dev.isRunning = true) ∧ (s.dev.interp.move = none) ∧ (s.dev.interp.queue = []) ∧ (s.dev.prfState n = 4) ∧ ((s.dev.prf n).waits = false))
    ∧ (∃ (s : State) (n : Fin 8) (m : Move) (rest : List Move), (s.dev.isRunning = true) ∧ (s.dev.interp.move = none) ∧ (s.dev.interp.queue = []) ∧ (s.dev.prfState n = 1) ∧ ((s.dev.prf n).waits = false) ∧ ((s.dev.prf n).v = 0) ∧ ((s.dev.prf n).move = none) ∧ ((s.dev.prf n).queue = m :: rest) ∧ (m.kind = 0) ∧ (s.dev.bitOf (axIx Ix.AX_PRF_STATUS n) 6 = false) ∧ (posDiff m.target (s.dev.rd (axIx Ix.AX_PRF_POS n)) ≠ -2147483648))
    ∧ (∃ (s : State) (n : Fin 8) (m : Move) (rest : List Move), (s.dev.isRunning = true) ∧ (s.dev.interp.move = none) ∧ (s.dev.interp.queue = []) ∧ (s.dev.prfState n = 1) ∧ ((s.dev.prf n).waits = false) ∧ ((s.dev.prf n).v = 0) ∧ ((s.dev.prf n).queue = m :: rest) ∧ (m.kind = 0) ∧ (s.dev.bitOf (axIx Ix.AX_PRF_STATUS n) 6 = false) ∧ (posDiff m.target (s.dev.rd (axIx Ix.AX_PRF_POS n)) = -2147483648))
    ∧ (∃ (s : State) (n : Fin 8), (s.dev.isRunning = true) ∧ (s.dev.prfState n = 3) ∧ ((s.dev.prf n).queue = []))
    ∧ (∃ (s : State) (n : Fin 8), (s.dev.isRunning = true) ∧ (s.dev.stepper n = true) ∧ (s.dev.prfState n = 1) ∧ ((s.dev.prf n).hold = none))
    ∧ (∃ (s : State) (n : Fin 8) (steps : Nat), (s.dev.isRunning = true) ∧ (s.dev.pcfg n Ix.AX_PRF_HOME 3 < 16) ∧ (s.dev.prfState n = 5) ∧ ((s.dev.prf n).homing = some .search) ∧ (s.dev.homeMethod n = 1))
    ∧ (∃ (s : State) (n : Fin 8) (steps : Nat), (s.dev.isRunning = true) ∧ (s.dev.pcfg n Ix.AX_PRF_HOME 3 < 16) ∧ (s.dev.prfState n = 5) ∧ ((s.dev.prf n).homing = some .search) ∧ (s.dev.homeMethod n = 3))
    ∧ (∃ (s : State) (n : Fin 8), (s.dev.isRunning = true) ∧ ((s.dev.prf n).waits = true) ∧ (s.dev.seat.push = none)) :=
  ⟨by refine ⟨S [(Ix.GDA_LEG_OWNER, 1, 0), (Ix.GDA_LEG_OWNER, 2, 0), (Ix.GDA_LEG_OWNER, 3, 0), (Ix.GDA_HITCH_AX, 1, 1), (Ix.GDA_HITCH_AX, 2, 0), (Ix.GDA_HITCH_AX, 3, 1), (Ix.GDA_HITCH_AX, 4, 2), (Ix.GDA_HITCH_AX, 5, 255), (axIx Ix.AX_STATE 0, 0, 1), (Ix.DEV_STATE, 0, 3), (axIx Ix.AX_PRF_STATE 0, 0, 1), (axIx Ix.AX_PRF_STATE 0, 0, 2)] (fun d => d.onPrf 0 fun p => { p with move := some ⟨0, 5000, 100, 7, 9, 0, false, 0⟩, v := 200000000000, carry := 4294000000, target := some 5000 }), 0, ?_, ?_, ?_, ?_, ?_, ?_, ?_⟩ <;> decide +kernel,
   by refine ⟨S [(Ix.GDA_LEG_OWNER, 1, 0), (Ix.GDA_LEG_OWNER, 2, 0), (Ix.GDA_LEG_OWNER, 3, 0), (Ix.GDA_HITCH_AX, 1, 1), (Ix.GDA_HITCH_AX, 2, 0), (Ix.GDA_HITCH_AX, 3, 1), (Ix.GDA_HITCH_AX, 4, 2), (Ix.GDA_HITCH_AX, 5, 255), (axIx Ix.AX_STATE 0, 0, 1), (Ix.DEV_STATE, 0, 3), (axIx Ix.AX_PRF_STATE 0, 0, 1), (axIx Ix.AX_PRF_STATE 0, 0, 4)] (fun d => d.onPrf 0 fun p => { p with v := 200000000000, stopDec := 50 }), 0, ?_, ?_, ?_, ?_, ?_⟩ <;> decide +kernel,
   by refine ⟨S [(Ix.GDA_LEG_OWNER, 1, 0), (Ix.GDA_LEG_OWNER, 2, 0), (Ix.GDA_LEG_OWNER, 3, 0), (Ix.GDA_HITCH_AX, 1, 1), (Ix.GDA_HITCH_AX, 2, 0), (Ix.GDA_HITCH_AX, 3, 1), (Ix.GDA_HITCH_AX, 4, 2), (Ix.GDA_HITCH_AX, 5, 255), (axIx Ix.AX_STATE 0, 0, 1), (Ix.DEV_STATE, 0, 3), (axIx Ix.AX_PRF_STATE 0, 0, 1)] (fun d => d.onPrf 0 fun p => { p with queue := [⟨0, 5000, 100, 7, 9, 0, false, 0⟩] }), 0, ⟨0, 5000, 100, 7, 9, 0, false, 0⟩, [], ?_, ?_, ?_, ?_, ?_, ?_, ?_, ?_, ?_, ?_, ?_⟩ <;> decide +kernel,
   by refine ⟨S [(Ix.GDA_LEG_OWNER, 1, 0), (Ix.GDA_LEG_OWNER, 2, 0), (Ix.GDA_LEG_OWNER, 3, 0), (Ix.GDA_HITCH_AX, 1, 1), (Ix.GDA_HITCH_AX, 2, 0), (Ix.GDA_HITCH_AX, 3, 1), (Ix.GDA_HITCH_AX, 4, 2), (Ix.GDA_HITCH_AX, 5, 255), (axIx Ix.AX_STATE 0, 0, 1), (Ix.DEV_STATE, 0, 3), (axIx Ix.AX_PRF_STATE 0, 0, 1)] (fun d => d.onPrf 0 fun p => { p with queue := [⟨0, 2147483648, 100, 7, 9, 0, false, 0⟩] }), 0, ⟨0, 2147483648, 100, 7, 9, 0, false, 0⟩, [], ?_, ?_, ?_, ?_, ?_, ?_, ?_, ?_, ?_, ?_⟩ <;> decide +kernel,
   by refine ⟨S [(Ix.GDA_LEG_OWNER, 1, 0), (Ix.GDA_LEG_OWNER, 2, 0), (Ix.GDA_LEG_OWNER, 3, 0), (Ix.GDA_HITCH_AX, 1, 1), (Ix.GDA_HITCH_AX, 2, 0), (Ix.GDA_HITCH_AX, 3, 1), (Ix.GDA_HITCH_AX, 4, 2), (Ix.GDA_HITCH_AX, 5, 255), (axIx Ix.AX_STATE 0, 0, 1), (Ix.DEV_STATE, 0, 3), (axIx Ix.AX_PRF_STATE 0, 0, 1), (axIx Ix.AX_PRF_STATE 0, 0, 3)] (fun d => d.onPrf 0 fun p => { p with move := some ⟨0, 5000, 100, 7, 9, 0, false, 0⟩ }), 0, ?_, ?_, ?_⟩ <;> decide +kernel,
   by refine ⟨S [(Ix.GDA_LEG_OWNER, 1, 0), (Ix.GDA_LEG_OWNER, 2, 0), (Ix.GDA_LEG_OWNER, 3, 0), (Ix.GDA_HITCH_AX, 1, 1), (Ix.GDA_HITCH_AX, 2, 0), (Ix.GDA_HITCH_AX, 3, 1), (Ix.GDA_HITCH_AX, 4, 2), (Ix.GDA_HITCH_AX, 5, 255), (Ix.GDA_HITCH_AX, 1, 2), (axIx Ix.AX_STATE 0, 0, 1), (Ix.DEV_STATE, 0, 3), (axIx Ix.AX_PRF_STATE 0, 0, 1)], 0, ?_, ?_, ?_, ?_⟩ <;> decide +kernel,
   by refine ⟨S [(Ix.GDA_LEG_OWNER, 1, 0), (Ix.GDA_LEG_OWNER, 2, 0), (Ix.GDA_LEG_OWNER, 3, 0), (Ix.GDA_HITCH_AX, 1, 1), (Ix.GDA_HITCH_AX, 2, 0), (Ix.GDA_HITCH_AX, 3, 1), (Ix.GDA_HITCH_AX, 4, 2), (Ix.GDA_HITCH_AX, 5, 255), (Ix.GDA_HITCH_AX, 1, 2), (axIx Ix.AX_STATE 0, 0, 1), (Ix.DEV_STATE, 0, 3), (axIx Ix.AX_PRF_STATE 0, 0, 1), (axIx Ix.AX_PRF_STATE 0, 0, 5)] (fun d => d.onPrf 0 fun p => { p with cfg := [(keyOf (axIx Ix.AX_PRF_HOME 0) 1, 1), (keyOf (axIx Ix.AX_PRF_HOME 0) 3, 4), (keyOf (axIx Ix.AX_PRF_HOME 0) 4, 1), (keyOf (axIx Ix.AX_PRF_HOME 0) 7, 300)], homing := some .search, v := 1000000 }), 0, 2, ?_, ?_, ?_, ?_, ?_⟩ <;> decide +kernel,
   by refine ⟨S [(Ix.GDA_LEG_OWNER, 1, 0), (Ix.GDA_LEG_OWNER, 2, 0), (Ix.GDA_LEG_OWNER, 3, 0), (Ix.GDA_HITCH_AX, 1, 1), (Ix.GDA_HITCH_AX, 2, 0), (Ix.GDA_HITCH_AX, 3, 1), (Ix.GDA_HITCH_AX, 4, 2), (Ix.GDA_HITCH_AX, 5, 255), (Ix.GDA_HITCH_AX, 1, 2), (axIx Ix.AX_STATE 0, 0, 1), (Ix.DEV_STATE, 0, 3), (axIx Ix.AX_PRF_STATE 0, 0, 1), (axIx Ix.AX_PRF_STATE 0, 0, 5)] (fun d => d.onPrf 0 fun p => { p with cfg := [(keyOf (axIx Ix.AX_PRF_HOME 0) 1, 3), (keyOf (axIx Ix.AX_PRF_HOME 0) 3, 4), (keyOf (axIx Ix.AX_PRF_HOME 0) 4, 1), (keyOf (axIx Ix.AX_PRF_HOME 0) 7, 300)], homing := some .search, v := 1000000 }), 0, 2, ?_, ?_, ?_, ?_, ?_⟩ <;> decide +kernel,
   by refine ⟨S [(Ix.GDA_LEG_OWNER, 1, 0), (Ix.GDA_LEG_OWNER, 2, 0), (Ix.GDA_LEG_OWNER, 3, 0), (Ix.GDA_HITCH_AX, 1, 1), (Ix.GDA_HITCH_AX, 2, 0), (Ix.GDA_HITCH_AX, 3, 1), (Ix.GDA_HITCH_AX, 4, 2), (Ix.GDA_HITCH_AX, 5, 255), (Ix.GDA_HITCH_AX, 1, 2), (axIx Ix.AX_STATE 0, 0, 1), (Ix.DEV_STATE, 0, 3), (axIx Ix.AX_PRF_STATE 0, 0, 1), (axIx Ix.AX_PRF_STATE 0, 0, 2)] (fun d => d.onPrf 0 fun p => { p with waits := true }), 0, ?_, ?_, ?_⟩ <;> decide +kernel⟩

theorem witness_ServicesRunTheirAxes :
    (∃ (s : State) (rq : Requester) (n : Fin 8), (s.admits rq Ix.SVC_CMD (n + 1) = true) ∧ (s.heard.svcState n = 1) ∧ (s.heard.runStatus n = 0))
    ∧ (∃ (s : State) (rq : Requester) (n : Fin 8), (s.admits rq Ix.SVC_CMD (n + 1) = true) ∧ (s.heard.svcState n = 5))
    ∧ (∃ (s : State) (rq : Requester) (n : Fin 8), (s.admits rq Ix.SVC_CMD (n + 1) = true) ∧ (2 ≤ s.heard.svcState n) ∧ (s.heard.svcState n ≤ 4))
    ∧ (∃ (s : State) (rq : Requester) (n : Fin 8), (s.admits rq Ix.SVC_CMD (n + 1) = true) ∧ (s.heard.svcState n = 6))
    ∧ (∃ (s : State) (n : Fin 8), (s.dev.isRunning = true) ∧ (s.dev.server.teamster = true) ∧ (s.dev.OnlyService n) ∧ (1 ≤ s.dev.svcKind n) ∧ (s.dev.svcKind n ≤ 3) ∧ (2 ≤ s.dev.svcState n) ∧ (s.dev.svcState n ≤ 4) ∧ (s.dev.enabled n = false) ∧ ((s.dev.svcOf n).recovery = .none) ∧ ((s.dev.svcOf n).noticed = 0) ∧ ((s.dev.svcOf n).cause = 0))
    ∧ (∃ (s : State) (n : Fin 8), (s.dev.isRunning = true) ∧ (s.dev.server.teamster = true) ∧ (s.dev.OnlyService n) ∧ (s.dev.svcKind n = 1) ∧ (s.dev.svcState n = 2) ∧ (s.dev.enabled n = true) ∧ (s.dev.stState n = 8))
    ∧ (∃ (s : State) (n : Fin 8), (s.dev.isRunning = true) ∧ (s.dev.server.teamster = true) ∧ (s.dev.OnlyService n) ∧ (s.dev.svcKind n = 1) ∧ (s.dev.svcState n = 3) ∧ (s.dev.enabled n = true) ∧ (s.dev.rd (Ix.SVC_PUMP + n) 1 = 0) ∧ (s.dev.thermal n = false))
    ∧ (∃ (s : State) (n : Fin 8), (s.dev.isRunning = true) ∧ (s.dev.server.teamster = true) ∧ (s.dev.OnlyService n) ∧ (s.dev.svcKind n = 2) ∧ (s.dev.svcState n = 3) ∧ (s.dev.enabled n = true) ∧ (2 ≤ s.dev.rd (Ix.SVC_FAN + n) 1) ∧ ((s.dev.svcOf n).noticed = 0) ∧ ((s.dev.svcOf n).demanded = true) ∧ (s.dev.fanStopped n = false))
    ∧ (∃ (s : State) (n : Fin 8), (s.dev.isRunning = true) ∧ (s.dev.server.teamster = true) ∧ (s.dev.OnlyService n) ∧ (s.dev.svcKind n = 3) ∧ (s.dev.svcState n = 5) ∧ (s.dev.enabled n = true) ∧ (s.dev.prfState n = 1) ∧ ((s.dev.prf n).waits = false))
    ∧ (∃ (s : State) (n : Fin 8), (s.dev.isRunning = true) ∧ (s.dev.server.teamster = true) ∧ (s.dev.svcKind n = 1) ∧ (s.dev.svcState n = 3) ∧ (s.dev.inTicks (s.dev.rd (Ix.SVC_PUMP + n) 7) ≤ (s.dev.svcOf n).dry) ∧ (s.dev.rd (Ix.SVC_PUMP + n) 10 ≠ 0) ∧ ((s.dev.svcOf n).ticks ≤ s.dev.inTicks (s.dev.rd (Ix.SVC_PUMP + n) 10)) ∧ ((s.dev.svcOf n).aired = false))
    ∧ (∃ (s : State) (n : Fin 8), (s.dev.isRunning = true) ∧ (s.dev.server.teamster = true) ∧ (s.dev.svcKind n = 1) ∧ (s.dev.svcState n = 3) ∧ (s.dev.inTicks (s.dev.rd (Ix.SVC_PUMP + n) 7) ≤ (s.dev.svcOf n).dry) ∧ ((s.dev.svcOf n).aired = true) ∧ (s.dev.rd (Ix.SVC_PUMP + n) 9 ≤ (s.dev.svcOf n).retries))
    ∧ (∃ (s : State) (n : Fin 8), (s.dev.isRunning = true) ∧ (s.dev.server.teamster = true) ∧ (s.dev.svcKind n = 1) ∧ (s.dev.svcState n = 3) ∧ (s.dev.inTicks (s.dev.rd (Ix.SVC_PUMP + n) 7) ≤ (s.dev.svcOf n).dry) ∧ ((s.dev.svcOf n).aired = true) ∧ ((s.dev.svcOf n).retries < s.dev.rd (Ix.SVC_PUMP + n) 9))
    ∧ (∃ (s : State) (n : Fin 8) (k : Nat), (s.dev.isRunning = true) ∧ (s.dev.server.teamster = true) ∧ (s.dev.svcState n = 4) ∧ ((s.dev.svcOf n).recovery = .airLock k))
    ∧ (∃ (s : State) (n : Fin 8), (s.dev.isRunning = true) ∧ (s.dev.server.teamster = true) ∧ (s.dev.svcState n = 4) ∧ ((s.dev.svcOf n).recovery = .dryWait))
    ∧ (∃ (s : State) (n : Fin 8), (s.dev.isRunning = true) ∧ (s.dev.server.teamster = true) ∧ (s.dev.svcState n = 4) ∧ ((s.dev.svcOf n).recovery = .blockWait))
    ∧ (∃ (s : State) (n : Fin 8) (src : Nat), (s.dev.isRunning = true) ∧ (s.dev.server.teamster = true) ∧ (s.dev.svcTsrc n = some src) ∧ (s.dev.svcOwner n = true) ∧ ((s.dev.svcOf n).lost = false) ∧ (s.dev.tempOk src = false) ∧ (5 ∉ (s.dev.svcOf n).held))
    ∧ (∃ (s : State) (n : Fin 8) (src : Nat), (s.dev.isRunning = true) ∧ (s.dev.server.teamster = true) ∧ (s.dev.svcTsrc n = some src) ∧ (s.dev.svcOwner n = true) ∧ ((s.dev.svcOf n).lost = true) ∧ (s.dev.tempOk src = true) ∧ (s.dev.svcState n ≠ 4) ∧ (s.dev.svcState n ≠ 5)) :=
  ⟨by refine ⟨S [(Ix.GDA_LEG_OWNER, 1, 0), (Ix.GDA_LEG_OWNER, 2, 0), (Ix.GDA_LEG_OWNER, 3, 0), (Ix.GDA_HITCH_AX, 1, 1), (Ix.GDA_HITCH_AX, 2, 0), (Ix.GDA_HITCH_AX, 3, 1), (Ix.GDA_HITCH_AX, 4, 2), (Ix.GDA_HITCH_AX, 5, 255), (Ix.SVC_KIND, 1, 1), (Ix.SVC_STATE, 1, 1)], C, 0, ?_, ?_, ?_⟩ <;> decide +kernel,
   by refine ⟨S [(Ix.GDA_LEG_OWNER, 1, 0), (Ix.GDA_LEG_OWNER, 2, 0), (Ix.GDA_LEG_OWNER, 3, 0), (Ix.GDA_HITCH_AX, 1, 1), (Ix.GDA_HITCH_AX, 2, 0), (Ix.GDA_HITCH_AX, 3, 1), (Ix.GDA_HITCH_AX, 4, 2), (Ix.GDA_HITCH_AX, 5, 255), (Ix.SVC_KIND, 1, 1), (Ix.SVC_STATE, 1, 5), (axIx Ix.AX_STATE 0, 0, 1), (Ix.DEV_STATE, 0, 3)], C, 0, ?_, ?_⟩ <;> decide +kernel,
   by refine ⟨S [(Ix.GDA_LEG_OWNER, 1, 0), (Ix.GDA_LEG_OWNER, 2, 0), (Ix.GDA_LEG_OWNER, 3, 0), (Ix.GDA_HITCH_AX, 1, 1), (Ix.GDA_HITCH_AX, 2, 0), (Ix.GDA_HITCH_AX, 3, 1), (Ix.GDA_HITCH_AX, 4, 2), (Ix.GDA_HITCH_AX, 5, 255), (Ix.SVC_KIND, 1, 1), (Ix.SVC_STATE, 1, 4), (axIx Ix.AX_STATE 0, 0, 1), (Ix.DEV_STATE, 0, 3), (axIx Ix.AX_ST_STATE 0, 0, 8)] (fun d => d.onSvc 0 fun p => { p with recovery := .airLock 2 }), C, 0, ?_, ?_, ?_⟩ <;> decide +kernel,
   by refine ⟨S [(Ix.GDA_LEG_OWNER, 1, 0), (Ix.GDA_LEG_OWNER, 2, 0), (Ix.GDA_LEG_OWNER, 3, 0), (Ix.GDA_HITCH_AX, 1, 1), (Ix.GDA_HITCH_AX, 2, 0), (Ix.GDA_HITCH_AX, 3, 1), (Ix.GDA_HITCH_AX, 4, 2), (Ix.GDA_HITCH_AX, 5, 255), (Ix.SVC_KIND, 1, 1), (Ix.SVC_STATE, 1, 6)], C, 0, ?_, ?_⟩ <;> decide +kernel,
   by refine ⟨S [(Ix.GDA_LEG_OWNER, 1, 0), (Ix.GDA_LEG_OWNER, 2, 0), (Ix.GDA_LEG_OWNER, 3, 0), (Ix.GDA_HITCH_AX, 1, 1), (Ix.GDA_HITCH_AX, 2, 0), (Ix.GDA_HITCH_AX, 3, 1), (Ix.GDA_HITCH_AX, 4, 2), (Ix.GDA_HITCH_AX, 5, 255), (Ix.SVC_KIND, 1, 3), (Ix.SVC_STATE, 1, 3)], 0, ?_, ?_, ?_, ?_, ?_, ?_, ?_, ?_, ?_, ?_, ?_⟩; (decide +kernel); (decide +kernel); (unfold Device.OnlyService; decide +kernel); (decide +kernel); (decide +kernel); (decide +kernel); (decide +kernel); (decide +kernel); (decide +kernel); (decide +kernel); (decide +kernel),
   by refine ⟨S [(Ix.GDA_LEG_OWNER, 1, 0), (Ix.GDA_LEG_OWNER, 2, 0), (Ix.GDA_LEG_OWNER, 3, 0), (Ix.GDA_HITCH_AX, 1, 1), (Ix.GDA_HITCH_AX, 2, 0), (Ix.GDA_HITCH_AX, 3, 1), (Ix.GDA_HITCH_AX, 4, 2), (Ix.GDA_HITCH_AX, 5, 255), (Ix.SVC_KIND, 1, 1), (Ix.SVC_STATE, 1, 2), (axIx Ix.AX_STATE 0, 0, 1), (Ix.DEV_STATE, 0, 3), (axIx Ix.AX_ST_STATE 0, 0, 8)] (fun d => d.onSvc 0 fun p => { p with dry := 4 }), 0, ?_, ?_, ?_, ?_, ?_, ?_, ?_⟩; (decide +kernel); (decide +kernel); (unfold Device.OnlyService; decide +kernel); (decide +kernel); (decide +kernel); (decide +kernel); (decide +kernel),
   by refine ⟨S [(Ix.GDA_LEG_OWNER, 1, 0), (Ix.GDA_LEG_OWNER, 2, 0), (Ix.GDA_LEG_OWNER, 3, 0), (Ix.GDA_HITCH_AX, 1, 1), (Ix.GDA_HITCH_AX, 2, 0), (Ix.GDA_HITCH_AX, 3, 1), (Ix.GDA_HITCH_AX, 4, 2), (Ix.GDA_HITCH_AX, 5, 255), (Ix.SVC_KIND, 1, 1), (Ix.SVC_STATE, 1, 3), (axIx Ix.AX_STATE 0, 0, 1), (Ix.DEV_STATE, 0, 3), (axIx Ix.AX_ST_STATE 0, 0, 8), (Ix.SVC_PUMP + 0, 1, 0), (Ix.SVC_PUMP + 0, 2, 9000)] (fun d => d.onSvc 0 fun p => { p with dry := 4 }), 0, ?_, ?_, ?_, ?_, ?_, ?_, ?_, ?_⟩; (decide +kernel); (decide +kernel); (unfold Device.OnlyService; decide +kernel); (decide +kernel); (decide +kernel); (decide +kernel); (decide +kernel); (decide +kernel),
   by refine ⟨S [(Ix.GDA_LEG_OWNER, 1, 0), (Ix.GDA_LEG_OWNER, 2, 0), (Ix.GDA_LEG_OWNER, 3, 0), (Ix.GDA_HITCH_AX, 1, 1), (Ix.GDA_HITCH_AX, 2, 0), (Ix.GDA_HITCH_AX, 3, 1), (Ix.GDA_HITCH_AX, 4, 2), (Ix.GDA_HITCH_AX, 5, 255), (Ix.SVC_KIND, 1, 2), (Ix.SVC_STATE, 1, 3), (axIx Ix.AX_STATE 0, 0, 1), (Ix.DEV_STATE, 0, 3), (axIx Ix.AX_ST_STATE 0, 0, 8), (Ix.SVC_FAN + 0, 1, 2), (Ix.SVC_FAN + 0, 2, 9000), (Ix.SVC_FAN + 0, 13, 500)] (fun d => d.onSvc 0 fun p => { p with demanded := true }), 0, ?_, ?_, ?_, ?_, ?_, ?_, ?_, ?_, ?_, ?_⟩; (decide +kernel); (decide +kernel); (unfold Device.OnlyService; decide +kernel); (decide +kernel); (decide +kernel); (decide +kernel); (decide +kernel); (decide +kernel); (decide +kernel); (decide +kernel),
   by refine ⟨S [(Ix.GDA_LEG_OWNER, 1, 0), (Ix.GDA_LEG_OWNER, 2, 0), (Ix.GDA_LEG_OWNER, 3, 0), (Ix.GDA_HITCH_AX, 1, 1), (Ix.GDA_HITCH_AX, 2, 0), (Ix.GDA_HITCH_AX, 3, 1), (Ix.GDA_HITCH_AX, 4, 2), (Ix.GDA_HITCH_AX, 5, 255), (Ix.SVC_KIND, 1, 3), (Ix.SVC_STATE, 1, 5), (axIx Ix.AX_STATE 0, 0, 1), (Ix.DEV_STATE, 0, 3), (axIx Ix.AX_ST_STATE 0, 0, 8), (axIx Ix.AX_PRF_STATE 0, 0, 1)], 0, ?_, ?_, ?_, ?_, ?_, ?_, ?_, ?_⟩; (decide +kernel); (decide +kernel); (unfold Device.OnlyService; decide +kernel); (decide +kernel); (decide +kernel); (decide +kernel); (decide +kernel); (decide +kernel),
   by refine ⟨S [(Ix.GDA_LEG_OWNER, 1, 0), (Ix.GDA_LEG_OWNER, 2, 0), (Ix.GDA_LEG_OWNER, 3, 0), (Ix.GDA_HITCH_AX, 1, 1), (Ix.GDA_HITCH_AX, 2, 0), (Ix.GDA_HITCH_AX, 3, 1), (Ix.GDA_HITCH_AX, 4, 2), (Ix.GDA_HITCH_AX, 5, 255), (Ix.SVC_KIND, 1, 1), (Ix.SVC_STATE, 1, 3), (axIx Ix.AX_STATE 0, 0, 1), (Ix.DEV_STATE, 0, 3), (axIx Ix.AX_ST_STATE 0, 0, 8), (Ix.SVC_PUMP + 0, 7, 10), (Ix.SVC_PUMP + 0, 10, 1000), (Ix.SVC_PUMP + 0, 9, 2)] (fun d => d.onSvc 0 fun p => { p with dry := 10, ticks := 1000, aired := false }), 0, ?_, ?_, ?_, ?_, ?_, ?_, ?_, ?_⟩ <;> decide +kernel,
   by refine ⟨S [(Ix.GDA_LEG_OWNER, 1, 0), (Ix.GDA_LEG_OWNER, 2, 0), (Ix.GDA_LEG_OWNER, 3, 0), (Ix.GDA_HITCH_AX, 1, 1), (Ix.GDA_HITCH_AX, 2, 0), (Ix.GDA_HITCH_AX, 3, 1), (Ix.GDA_HITCH_AX, 4, 2), (Ix.GDA_HITCH_AX, 5, 255), (Ix.SVC_KIND, 1, 1), (Ix.SVC_STATE, 1, 3), (axIx Ix.AX_STATE 0, 0, 1), (Ix.DEV_STATE, 0, 3), (axIx Ix.AX_ST_STATE 0, 0, 8), (Ix.SVC_PUMP + 0, 7, 10), (Ix.SVC_PUMP + 0, 10, 1000), (Ix.SVC_PUMP + 0, 9, 2)] (fun d => d.onSvc 0 fun p => { p with dry := 10, ticks := 1000, aired := true, retries := 2 }), 0, ?_, ?_, ?_, ?_, ?_, ?_, ?_⟩ <;> decide +kernel,
   by refine ⟨S [(Ix.GDA_LEG_OWNER, 1, 0), (Ix.GDA_LEG_OWNER, 2, 0), (Ix.GDA_LEG_OWNER, 3, 0), (Ix.GDA_HITCH_AX, 1, 1), (Ix.GDA_HITCH_AX, 2, 0), (Ix.GDA_HITCH_AX, 3, 1), (Ix.GDA_HITCH_AX, 4, 2), (Ix.GDA_HITCH_AX, 5, 255), (Ix.SVC_KIND, 1, 1), (Ix.SVC_STATE, 1, 3), (axIx Ix.AX_STATE 0, 0, 1), (Ix.DEV_STATE, 0, 3), (axIx Ix.AX_ST_STATE 0, 0, 8), (Ix.SVC_PUMP + 0, 7, 10), (Ix.SVC_PUMP + 0, 10, 1000), (Ix.SVC_PUMP + 0, 9, 2)] (fun d => d.onSvc 0 fun p => { p with dry := 10, ticks := 1000, aired := true, retries := 1 }), 0, ?_, ?_, ?_, ?_, ?_, ?_, ?_⟩ <;> decide +kernel,
   by refine ⟨S [(Ix.GDA_LEG_OWNER, 1, 0), (Ix.GDA_LEG_OWNER, 2, 0), (Ix.GDA_LEG_OWNER, 3, 0), (Ix.GDA_HITCH_AX, 1, 1), (Ix.GDA_HITCH_AX, 2, 0), (Ix.GDA_HITCH_AX, 3, 1), (Ix.GDA_HITCH_AX, 4, 2), (Ix.GDA_HITCH_AX, 5, 255), (Ix.SVC_KIND, 1, 1), (Ix.SVC_STATE, 1, 4), (axIx Ix.AX_STATE 0, 0, 1), (Ix.DEV_STATE, 0, 3), (axIx Ix.AX_ST_STATE 0, 0, 8), (Ix.SVC_PUMP + 0, 11, 3)] (fun d => d.onSvc 0 fun p => { p with recovery := .airLock 5 }), 0, 5, ?_, ?_, ?_, ?_⟩ <;> decide +kernel,
   by refine ⟨S [(Ix.GDA_LEG_OWNER, 1, 0), (Ix.GDA_LEG_OWNER, 2, 0), (Ix.GDA_LEG_OWNER, 3, 0), (Ix.GDA_HITCH_AX, 1, 1), (Ix.GDA_HITCH_AX, 2, 0), (Ix.GDA_HITCH_AX, 3, 1), (Ix.GDA_HITCH_AX, 4, 2), (Ix.GDA_HITCH_AX, 5, 255), (Ix.SVC_KIND, 1, 1), (Ix.SVC_STATE, 1, 4)] (fun d => d.onSvc 0 fun p => { p with recovery := .dryWait }), 0, ?_, ?_, ?_, ?_⟩ <;> decide +kernel,
   by refine ⟨S [(Ix.GDA_LEG_OWNER, 1, 0), (Ix.GDA_LEG_OWNER, 2, 0), (Ix.GDA_LEG_OWNER, 3, 0), (Ix.GDA_HITCH_AX, 1, 1), (Ix.GDA_HITCH_AX, 2, 0), (Ix.GDA_HITCH_AX, 3, 1), (Ix.GDA_HITCH_AX, 4, 2), (Ix.GDA_HITCH_AX, 5, 255), (Ix.SVC_KIND, 1, 2), (Ix.SVC_STATE, 1, 4)] (fun d => d.onSvc 0 fun p => { p with recovery := .blockWait, demanded := true }), 0, ?_, ?_, ?_, ?_⟩ <;> decide +kernel,
   by refine ⟨S [(Ix.GDA_LEG_OWNER, 1, 0), (Ix.GDA_LEG_OWNER, 2, 0), (Ix.GDA_LEG_OWNER, 3, 0), (Ix.GDA_HITCH_AX, 1, 1), (Ix.GDA_HITCH_AX, 2, 0), (Ix.GDA_HITCH_AX, 3, 1), (Ix.GDA_HITCH_AX, 4, 2), (Ix.GDA_HITCH_AX, 5, 255), (Ix.SVC_KIND, 1, 1), (Ix.SVC_STATE, 1, 3), (axIx Ix.AX_STATE 0, 0, 1), (Ix.DEV_STATE, 0, 3), (axIx Ix.AX_ST_STATE 0, 0, 8), (Ix.SVC_THERM + 0, 1, 1), (Ix.SVC_THERM + 0, 3, 2), (Ix.THM_STATE, 13, 16)], 0, 2, ?_, ?_, ?_, ?_, ?_, ?_, ?_⟩ <;> decide +kernel,
   by refine ⟨S [(Ix.GDA_LEG_OWNER, 1, 0), (Ix.GDA_LEG_OWNER, 2, 0), (Ix.GDA_LEG_OWNER, 3, 0), (Ix.GDA_HITCH_AX, 1, 1), (Ix.GDA_HITCH_AX, 2, 0), (Ix.GDA_HITCH_AX, 3, 1), (Ix.GDA_HITCH_AX, 4, 2), (Ix.GDA_HITCH_AX, 5, 255), (Ix.SVC_KIND, 1, 1), (Ix.SVC_STATE, 1, 3), (axIx Ix.AX_STATE 0, 0, 1), (Ix.DEV_STATE, 0, 3), (axIx Ix.AX_ST_STATE 0, 0, 8), (Ix.SVC_THERM + 0, 1, 1), (Ix.SVC_THERM + 0, 3, 2)] (fun d => d.onSvc 0 fun p => { p with lost := true }), 0, 2, ?_, ?_, ?_, ?_, ?_, ?_, ?_, ?_⟩ <;> decide +kernel⟩

theorem witness_SeatMotions :
    (∃ (s : State) (rq : Requester) (k : Fin 4) (up : Bool), (s.admits rq Ix.SVC_SEAT_CMD 0 = true) ∧ (s.heard.seatStatus 1 k = 0))
    ∧ (∃ (s : State) (rq : Requester) (m : Fin 4), (s.admits rq Ix.SVC_SEAT_CMD 0 = true) ∧ (s.heard.seatStatus 3 m = 0))
    ∧ (∃ (s : State) (rq : Requester) (k : Fin 4), (s.admits rq Ix.SVC_SEAT_CMD 0 = true) ∧ (s.heard.seatStatus 5 k = 0))
    ∧ (∃ (s : State) (rq : Requester), (s.admits rq Ix.SVC_SEAT_CMD 0 = true) ∧ (s.heard.seatStatus 2 0 = 0))
    ∧ (∃ (s : State) (rq : Requester) (m : Nat) (k : Nat) (n : Nat) (h : m < 4), (s.admits rq Ix.SVC_SEAT_CMD 0 = true) ∧ (s.heard.seatStatus 4 m = 0) ∧ (s.dev.seatMembers[k]? = some n) ∧ (k < 4))
    ∧ (∃ (s : State) (n : Fin 8) (op : SeatOp), (s.dev.isRunning = true) ∧ (s.dev.seat.push = some op) ∧ (s.dev.svcKind n = 4) ∧ (s.dev.svcState n = 3) ∧ (s.dev.seatTooFar op = true) ∧ ((∀ k, op ≠ .reverse k)))
    ∧ (∃ (s : State) (n : Fin 8) (op : SeatOp), (s.dev.isRunning = true) ∧ (s.dev.seat.push = some op) ∧ (s.dev.svcKind n = 4) ∧ (s.dev.svcState n = 3) ∧ (s.dev.seatTooFar op = false) ∧ (s.dev.groupStatus (s.dev.seatMove op) = 0))
    ∧ (∃ (s : State) (k : Fin 4) (n : Fin 8), (s.dev.isRunning = true) ∧ (s.dev.server.teamster = true) ∧ (s.dev.svcKind n = 4) ∧ (s.dev.svcState n = 3) ∧ (max 1 (s.dev.inTicks (s.dev.rd Ix.SVC_SEAT 7)) ≤ s.dev.seat.beyond.getD k 0))
    ∧ (∃ (s : State) (k : Nat) (n : Nat), (s.dev.isRunning = true) ∧ (s.dev.server.teamster = true) ∧ (s.dev.seat.current = some (.calibrate k)) ∧ (max 1 (s.dev.inTicks (s.dev.rd Ix.SVC_SEAT 11)) ≤ s.dev.seat.atEnd) ∧ (s.dev.seatMembers[k]? = some n)) :=
  ⟨by refine ⟨S [(Ix.GDA_LEG_OWNER, 1, 0), (Ix.GDA_LEG_OWNER, 2, 0), (Ix.GDA_LEG_OWNER, 3, 0), (Ix.GDA_HITCH_AX, 1, 1), (Ix.GDA_HITCH_AX, 2, 0), (Ix.GDA_HITCH_AX, 3, 1), (Ix.GDA_HITCH_AX, 4, 2), (Ix.GDA_HITCH_AX, 5, 255), (Ix.SVC_KIND, 1, 4), (Ix.SVC_STATE, 1, 3), (axIx Ix.AX_STATE 0, 0, 1), (Ix.DEV_STATE, 0, 3), (Ix.INT_GROUP, 0, 1), (Ix.SVC_SEAT_KNOWN, 0, 1), (axIx Ix.AX_PRF_STATE 0, 0, 1)], C, 0, true, ?_, ?_⟩ <;> decide +kernel,
   by refine ⟨S [(Ix.GDA_LEG_OWNER, 1, 0), (Ix.GDA_LEG_OWNER, 2, 0), (Ix.GDA_LEG_OWNER, 3, 0), (Ix.GDA_HITCH_AX, 1, 1), (Ix.GDA_HITCH_AX, 2, 0), (Ix.GDA_HITCH_AX, 3, 1), (Ix.GDA_HITCH_AX, 4, 2), (Ix.GDA_HITCH_AX, 5, 255), (Ix.SVC_KIND, 1, 4), (Ix.SVC_STATE, 1, 3), (axIx Ix.AX_STATE 0, 0, 1), (Ix.DEV_STATE, 0, 3), (Ix.INT_GROUP, 0, 1), (Ix.SVC_SEAT_KNOWN, 0, 1), (axIx Ix.AX_PRF_STATE 0, 0, 1), (axIx Ix.AX_PRF_STATE 0, 0, 6)] (fun d => { d with interp := { d.interp with move := some ⟨1, [500, 0, 0, 0], 1000, 5, 5, 0⟩ } }), C, 3, ?_, ?_⟩ <;> decide +kernel,
   by refine ⟨S [(Ix.GDA_LEG_OWNER, 1, 0), (Ix.GDA_LEG_OWNER, 2, 0), (Ix.GDA_LEG_OWNER, 3, 0), (Ix.GDA_HITCH_AX, 1, 1), (Ix.GDA_HITCH_AX, 2, 0), (Ix.GDA_HITCH_AX, 3, 1), (Ix.GDA_HITCH_AX, 4, 2), (Ix.GDA_HITCH_AX, 5, 255), (Ix.SVC_KIND, 1, 4), (Ix.SVC_STATE, 1, 3), (axIx Ix.AX_STATE 0, 0, 1), (Ix.DEV_STATE, 0, 3), (Ix.INT_GROUP, 0, 1), (Ix.SVC_SEAT_KNOWN, 0, 1), (axIx Ix.AX_PRF_STATE 0, 0, 1)], C, 0, ?_, ?_⟩ <;> decide +kernel,
   by refine ⟨S [(Ix.GDA_LEG_OWNER, 1, 0), (Ix.GDA_LEG_OWNER, 2, 0), (Ix.GDA_LEG_OWNER, 3, 0), (Ix.GDA_HITCH_AX, 1, 1), (Ix.GDA_HITCH_AX, 2, 0), (Ix.GDA_HITCH_AX, 3, 1), (Ix.GDA_HITCH_AX, 4, 2), (Ix.GDA_HITCH_AX, 5, 255), (Ix.SVC_KIND, 1, 4), (Ix.SVC_STATE, 1, 3), (axIx Ix.AX_STATE 0, 0, 1), (Ix.DEV_STATE, 0, 3), (Ix.INT_GROUP, 0, 1), (Ix.SVC_SEAT_KNOWN, 0, 1), (axIx Ix.AX_PRF_STATE 0, 0, 1)], C, ?_, ?_⟩ <;> decide +kernel,
   by refine ⟨S [(Ix.GDA_LEG_OWNER, 1, 0), (Ix.GDA_LEG_OWNER, 2, 0), (Ix.GDA_LEG_OWNER, 3, 0), (Ix.GDA_HITCH_AX, 1, 1), (Ix.GDA_HITCH_AX, 2, 0), (Ix.GDA_HITCH_AX, 3, 1), (Ix.GDA_HITCH_AX, 4, 2), (Ix.GDA_HITCH_AX, 5, 255), (Ix.SVC_KIND, 1, 4), (Ix.SVC_STATE, 1, 3), (axIx Ix.AX_STATE 0, 0, 1), (Ix.DEV_STATE, 0, 3), (Ix.INT_GROUP, 0, 1), (Ix.SVC_SEAT_KNOWN, 0, 1), (axIx Ix.AX_PRF_STATE 0, 0, 1), (axIx Ix.AX_FE_POSITION 0, 0, 12345)], C, 3, 0, 0, (by decide), ?_, ?_, ?_, ?_⟩ <;> decide +kernel,
   by refine ⟨S [(Ix.GDA_LEG_OWNER, 1, 0), (Ix.GDA_LEG_OWNER, 2, 0), (Ix.GDA_LEG_OWNER, 3, 0), (Ix.GDA_HITCH_AX, 1, 1), (Ix.GDA_HITCH_AX, 2, 0), (Ix.GDA_HITCH_AX, 3, 1), (Ix.GDA_HITCH_AX, 4, 2), (Ix.GDA_HITCH_AX, 5, 255), (Ix.SVC_KIND, 1, 4), (Ix.SVC_STATE, 1, 3), (axIx Ix.AX_STATE 0, 0, 1), (Ix.DEV_STATE, 0, 3), (Ix.INT_GROUP, 0, 1), (Ix.SVC_SEAT_KNOWN, 0, 1), (axIx Ix.AX_PRF_STATE 0, 0, 1), (Ix.SVC_SEAT_SOFT_MAX, 1, 0x70000000), (axIx Ix.AX_FE_POSITION 0, 0, 0x80000010)] (fun d => { d with seat := { d.seat with push := some (.jog 0 true) } }), 0, .jog 0 true, ?_, ?_, ?_, ?_, ?_, ?_⟩; (decide +kernel); (decide +kernel); (decide +kernel); (decide +kernel); (decide +kernel); ((intro k hk; cases hk)),
   by refine ⟨S [(Ix.GDA_LEG_OWNER, 1, 0), (Ix.GDA_LEG_OWNER, 2, 0), (Ix.GDA_LEG_OWNER, 3, 0), (Ix.GDA_HITCH_AX, 1, 1), (Ix.GDA_HITCH_AX, 2, 0), (Ix.GDA_HITCH_AX, 3, 1), (Ix.GDA_HITCH_AX, 4, 2), (Ix.GDA_HITCH_AX, 5, 255), (Ix.SVC_KIND, 1, 4), (Ix.SVC_STATE, 1, 3), (axIx Ix.AX_STATE 0, 0, 1), (Ix.DEV_STATE, 0, 3), (Ix.INT_GROUP, 0, 1), (Ix.SVC_SEAT_KNOWN, 0, 1), (axIx Ix.AX_PRF_STATE 0, 0, 1)] (fun d => { d with seat := { d.seat with push := some (.jog 0 true) } }), 0, .jog 0 true, ?_, ?_, ?_, ?_, ?_, ?_⟩ <;> decide +kernel,
   by refine ⟨S [(Ix.GDA_LEG_OWNER, 1, 0), (Ix.GDA_LEG_OWNER, 2, 0), (Ix.GDA_LEG_OWNER, 3, 0), (Ix.GDA_HITCH_AX, 1, 1), (Ix.GDA_HITCH_AX, 2, 0), (Ix.GDA_HITCH_AX, 3, 1), (Ix.GDA_HITCH_AX, 4, 2), (Ix.GDA_HITCH_AX, 5, 255), (Ix.SVC_KIND, 1, 4), (Ix.SVC_STATE, 1, 3), (axIx Ix.AX_STATE 0, 0, 1), (Ix.DEV_STATE, 0, 3), (Ix.INT_GROUP, 0, 1), (Ix.SVC_SEAT_KNOWN, 0, 1), (axIx Ix.AX_PRF_STATE 0, 0, 1)] (fun d => { d with seat := { d.seat with beyond := [60000, 0, 0, 0], current := some (.jog 0 true) } }), 0, 0, ?_, ?_, ?_, ?_, ?_⟩ <;> decide +kernel,
   by refine ⟨S [(Ix.GDA_LEG_OWNER, 1, 0), (Ix.GDA_LEG_OWNER, 2, 0), (Ix.GDA_LEG_OWNER, 3, 0), (Ix.GDA_HITCH_AX, 1, 1), (Ix.GDA_HITCH_AX, 2, 0), (Ix.GDA_HITCH_AX, 3, 1), (Ix.GDA_HITCH_AX, 4, 2), (Ix.GDA_HITCH_AX, 5, 255), (Ix.SVC_KIND, 1, 4), (Ix.SVC_STATE, 1, 3), (axIx Ix.AX_STATE 0, 0, 1), (Ix.DEV_STATE, 0, 3), (Ix.INT_GROUP, 0, 1), (Ix.SVC_SEAT_KNOWN, 0, 1), (axIx Ix.AX_PRF_STATE 0, 0, 1)] (fun d => { d with seat := { d.seat with atEnd := 60000, current := some (.calibrate 0) } }), 0, 0, ?_, ?_, ?_, ?_, ?_⟩ <;> decide +kernel⟩

theorem witness_ReinsAndSensors :
    (∃ (s : State) (r : Fin 8) (ago : Nat), (s.dev.isRunning = true) ∧ ((s.dev.reinCfg r 1 = 2 ∨ s.dev.reinCfg r 1 = 3)))
    ∧ (∃ (s : State) (r : Fin 8) (ago : Nat) (t0 : Nat) (t1 : Nat), (s.dev.isRunning = true) ∧ (s.dev.reinCfg r 1 = 2) ∧ ((s.dev.reinOfPin r).active = some t0) ∧ ((s.dev.reinOfPin r).inactive = some t1) ∧ (t0 + reinShortest ≤ s.now - ago))
    ∧ (∃ (s : State) (r : Fin 8) (ago : Nat) (t0 : Nat), (s.dev.isRunning = true) ∧ (s.dev.reinCfg r 1 = 3) ∧ ((s.dev.reinOfPin r).active = some t0) ∧ (t0 + reinShortest ≤ s.now - ago))
    ∧ (∃ (s : State) (r : Fin 8), (s.dev.isRunning = true) ∧ (s.dev.reinCfg r 1 = 3) ∧ ((s.dev.reinOfPin r).safe = false) ∧ (s.dev.reinLim r 5 ≤ 0) ∧ (0 < s.dev.reinLim r 6) ∧ (0 ≤ s.dev.reinLim r 8))
    ∧ (∃ (s : State) (r : Fin 8), (s.dev.isRunning = true) ∧ (s.dev.reinCfg r 1 = 2))
    ∧ (∃ (s : State) (r : Fin 8) (st : Nat), (s.dev.isRunning = true) ∧ (s.dev.reinCfg r 1 ≠ 0) ∧ (s.dev.reinBad r = some st) ∧ ((s.dev.reinOfPin r).safe = false))
    ∧ (∃ (s : State) (r : Fin 8), (s.dev.isRunning = true) ∧ (s.dev.reinCfg r 1 ≠ 0) ∧ (s.dev.reinBad r = none) ∧ ((s.dev.reinOfPin r).safe = true) ∧ (s.dev.reinLim r 7 < s.dev.reinX r) ∧ (s.dev.reinLim r 6 ≤ s.dev.reinX r))
    ∧ (∃ (s : State) (k : Fin 18) (v : Int), (s.dev.isRunning = true) ∧ (k.val < 4) ∧ (tempFloor ≤ v) ∧ (v ≤ tempCeil) ∧ (s.dev.thmBit k 4 = false) ∧ (0 ≤ s.dev.thmLim k 4))
    ∧ (∃ (s : State) (k : Fin 18) (clip : Bool) (ok : Bool) (x : Int) (v : Int), (s.dev.isRunning = true) ∧ (4 ≤ k.val) ∧ (k.val < 10) ∧ (s.dev.cnv.monitor.getD (k + 12) Mon.rest = ⟨v, false, false⟩) ∧ (tempFloor ≤ v) ∧ (v ≤ tempCeil) ∧ (s.dev.thmBit k 4 = false))
    ∧ (∃ (s : State) (k : Fin 18) (clip : Bool) (ok : Bool) (v : Int), (s.dev.isRunning = true) ∧ (s.dev.inService k = true) ∧ ((s.dev.therm k).silent = 3))
    ∧ (∃ (s : State) (k : Fin 18) (old : Int), (s.dev.isRunning = true) ∧ (s.dev.inService k = true) ∧ ((s.dev.therm k).history[9]? = some old))
    ∧ (∃ (s : State) (k : Fin 18), (s.dev.isRunning = true) ∧ (s.dev.thmBit k 5 = true) ∧ (s.dev.thmBit k 3 = false) ∧ (s.dev.temp k < s.dev.thmLim k 1 - s.dev.thmLim k 4))
    ∧ (∃ (s : State) (k : Fin 18), (s.dev.isRunning = true) ∧ (s.dev.thmBit k 4 = true) ∧ ((s.dev.therm k).valid = true) ∧ (-32768 ≤ (s.dev.therm k).value) ∧ ((s.dev.therm k).value < 32768)) :=
  ⟨by refine ⟨S [(Ix.REIN_CFG + 2, 1, 2), (Ix.REIN_CFG + 2, 4, 1)] (fun d => d.onRein 2 fun p => { p with active := some 999900000 }), 2, 5, ?_, ?_⟩ <;> decide +kernel,
   by refine ⟨S [(Ix.REIN_CFG + 2, 1, 2), (Ix.REIN_CFG + 2, 4, 1)] (fun d => d.onRein 2 fun p => { p with active := some 999991995, inactive := some 999994000 }), 2, 5, 999991995, 999994000, ?_, ?_, ?_, ?_, ?_⟩ <;> decide +kernel,
   by refine ⟨S [(Ix.REIN_CFG + 2, 1, 3), (Ix.REIN_CFG + 2, 13, 0)] (fun d => d.onRein 2 fun p => { p with active := some 999991995, inactive := some 999994000 }), 2, 5, 999991995, ?_, ?_, ?_, ?_⟩ <;> decide +kernel,
   by refine ⟨S [(Ix.REIN_CFG + 2, 1, 3), (Ix.REIN_CFG + 2, 5, 0), (Ix.REIN_CFG + 2, 6, 100), (Ix.REIN_CFG + 2, 8, 30000)], 2, ?_, ?_, ?_, ?_, ?_, ?_⟩ <;> decide +kernel,
   by refine ⟨S [(Ix.REIN_CFG + 2, 1, 2)] (fun d => d.onRein 2 fun p => { p with level := true }), 2, ?_, ?_⟩ <;> decide +kernel,
   by refine ⟨S [(Ix.REIN_CFG + 2, 1, 1), (Ix.REIN_CFG + 2, 5, 100), (Ix.REIN_CFG + 2, 6, 200), (Ix.REIN_CFG + 2, 7, 20000), (Ix.REIN_CFG + 2, 8, 30000), (Ix.REIN_CFG + 2, 10, 32000), (Ix.REIN_CFG + 2, 11, 77), (Ix.REIN_VALUE + 2, 1, 30001)], 2, 5, ?_, ?_, ?_, ?_⟩ <;> decide +kernel,
   by refine ⟨S [(Ix.REIN_CFG + 2, 1, 1), (Ix.REIN_CFG + 2, 5, 100), (Ix.REIN_CFG + 2, 6, 200), (Ix.REIN_CFG + 2, 7, 20000), (Ix.REIN_CFG + 2, 8, 30000), (Ix.REIN_CFG + 2, 10, 32000), (Ix.REIN_CFG + 2, 11, 77), (Ix.REIN_VALUE + 2, 1, 20001)] (fun d => d.onRein 2 fun p => { p with safe := true }), 2, ?_, ?_, ?_, ?_, ?_, ?_⟩ <;> decide +kernel,
   by refine ⟨S [(Ix.THM_CLASS_RIDER, 1, 100), (Ix.THM_CLASS_RIDER, 2, 200), (Ix.THM_CLASS_RIDER, 3, 300), (Ix.THM_STATE, 2, 3)], 1, 300, ?_, ?_, ?_, ?_, ?_, ?_⟩ <;> decide +kernel,
   by refine ⟨S [] (fun d => { d with cnv := { d.cnv with monitor := d.cnv.monitor.set 21 ⟨300, false, false⟩ } }), 9, true, false, 5, 300, ?_, ?_, ?_, ?_, ?_, ?_, ?_⟩ <;> decide +kernel,
   by refine ⟨S [] (fun d => d.onTherm 5 fun p => { p with silent := 3 }), 5, false, true, 3, ?_, ?_, ?_⟩ <;> decide +kernel,
   by refine ⟨S [(Ix.THM_READING, 6, 9000)] (fun d => d.onTherm 5 fun p => { p with history := [8000, 7000, 6000, 5000, 4000, 3000, 2500, 2400, 2300, 2200], beyond := true }), 5, 2200, ?_, ?_, ?_⟩ <;> decide +kernel,
   by refine ⟨S [(Ix.THM_READING, 6, 100), (Ix.THM_STATE, 6, 32)], 5, ?_, ?_, ?_, ?_⟩ <;> decide +kernel,
   by refine ⟨S [(Ix.THM_READING, 6, 100), (Ix.THM_STATE, 6, 16)] (fun d => d.onTherm 5 fun p => { p with value := -700, valid := true }), 5, ?_, ?_, ?_, ?_, ?_⟩ <;> decide +kernel⟩

theorem witness_FaultsAndReactions :
    (∃ (s : State) (p : Posted) (rest : List Posted), (s.dev.isRunning = true) ∧ (takeNext s.dev.tally.inbox = some (p, rest)) ∧ (classOf p.message = 0) ∧ (p.message < 2 ^ 32) ∧ (s.dev.bitOf Ix.TLY_STATUS 0 = false))
    ∧ (∃ (s : State) (p : Posted) (rest : List Posted), (s.dev.isRunning = true) ∧ (takeNext s.dev.tally.inbox = some (p, rest)) ∧ (classOf p.message = 0) ∧ (s.dev.bitOf Ix.TLY_STATUS 0 = true))
    ∧ (∃ (s : State) (p : Posted) (rest : List Posted), (s.dev.isRunning = true) ∧ (takeNext s.dev.tally.inbox = some (p, rest)) ∧ (classOf p.message = 2) ∧ (p.message < 2 ^ 32) ∧ (s.dev.scopeOf p.message = none) ∧ (s.dev.inDeviceSafe = false) ∧ (s.dev.tally.entries.length < 32) ∧ ((∀ e ∈ s.dev.tally.entries, e.message ≠ p.message)))
    ∧ (∃ (s : State) (p : Posted) (rest : List Posted) (mask : Nat) (n : Fin 8), (s.dev.isRunning = true) ∧ (takeNext s.dev.tally.inbox = some (p, rest)) ∧ (classOf p.message = 2) ∧ (p.message < 2 ^ 32) ∧ (s.dev.scopeOf p.message = some mask) ∧ (bit mask n = true) ∧ (s.dev.enabled n = true))
    ∧ (∃ (s : State) (p : Posted) (rest : List Posted) (mask : Nat) (n : Fin 8), (s.dev.isRunning = true) ∧ (takeNext s.dev.tally.inbox = some (p, rest)) ∧ (classOf p.message = 1) ∧ (s.dev.scopeOf p.message = some mask) ∧ (bit mask n = true) ∧ (s.dev.countsEnabled n = true) ∧ (s.dev.tally.entries.length < 32) ∧ ((∀ e ∈ s.dev.tally.entries, e.message ≠ p.message)))
    ∧ (∃ (s : State) (p : Posted) (rest : List Posted), (s.dev.isRunning = true) ∧ (takeNext s.dev.tally.inbox = some (p, rest)) ∧ (classOf p.message = 1) ∧ (s.dev.scopeOf p.message = none) ∧ (s.dev.inDeviceSafe = false) ∧ (32 ≤ s.dev.tally.entries.length) ∧ ((∀ e ∈ s.dev.tally.entries, e.message ≠ p.message)))
    ∧ (∃ (s : State) (m : Message) (e : PendingEntry) (n : Fin 8), (s.dev.isRunning = true) ∧ ((s.dev.tally.entries.find? fun e => e.message == m && e.cls == 1 && !e.escalated) = some e) ∧ (e.device = false) ∧ (bit e.axes n = true) ∧ (s.dev.enabled n = true) ∧ (m < 2 ^ 32))
    ∧ (∃ (s : State), (s.dev.isRunning = true))
    ∧ (∃ (s : State) (r : LogRecord) (rest : List LogRecord), (s.dev.isRunning = true) ∧ (s.dev.tally.logQueue = r :: rest) ∧ (s.dev.tally.logStop = false))
    ∧ (∃ (s : State) (r : LogRecord) (rest : List LogRecord), (s.dev.isRunning = true) ∧ (s.dev.tally.logQueue = r :: rest) ∧ (s.dev.tally.logStop = false))
    ∧ (∃ (s : State), (s.dev.isRunning = true))
    ∧ (∃ (s : State), (s.dev.isRunning = true)) :=
  ⟨by refine ⟨S [(Ix.GDA_LEG_OWNER, 1, 0), (Ix.GDA_LEG_OWNER, 2, 0), (Ix.GDA_LEG_OWNER, 3, 0), (Ix.GDA_HITCH_AX, 1, 1), (Ix.GDA_HITCH_AX, 2, 0), (Ix.GDA_HITCH_AX, 3, 1), (Ix.GDA_HITCH_AX, 4, 2), (Ix.GDA_HITCH_AX, 5, 255)] (fun d => { d with tally := { d.tally with inbox := [⟨999999990, message 0x44 0x10 5, false⟩] } }), ⟨999999990, message 0x44 0x10 5, false⟩, [], ?_, ?_, ?_, ?_, ?_⟩ <;> decide +kernel,
   by refine ⟨S [(Ix.GDA_LEG_OWNER, 1, 0), (Ix.GDA_LEG_OWNER, 2, 0), (Ix.GDA_LEG_OWNER, 3, 0), (Ix.GDA_HITCH_AX, 1, 1), (Ix.GDA_HITCH_AX, 2, 0), (Ix.GDA_HITCH_AX, 3, 1), (Ix.GDA_HITCH_AX, 4, 2), (Ix.GDA_HITCH_AX, 5, 255), (Ix.TLY_STATUS, 0, 1)] (fun d => { d with tally := { d.tally with inbox := [⟨999999990, message 0x44 0x10 5, false⟩] } }), ⟨999999990, message 0x44 0x10 5, false⟩, [], ?_, ?_, ?_, ?_⟩ <;> decide +kernel,
   by refine ⟨S [(Ix.GDA_LEG_OWNER, 1, 0), (Ix.GDA_LEG_OWNER, 2, 0), (Ix.GDA_LEG_OWNER, 3, 0), (Ix.GDA_HITCH_AX, 1, 1), (Ix.GDA_HITCH_AX, 2, 0), (Ix.GDA_HITCH_AX, 3, 1), (Ix.GDA_HITCH_AX, 4, 2), (Ix.GDA_HITCH_AX, 5, 255), (axIx Ix.AX_STATE 0, 0, 1), (Ix.DEV_STATE, 0, 3)] (fun d => { d with tally := { d.tally with inbox := [⟨999999990, message 0x10 0x41 0, false⟩] } }), ⟨999999990, message 0x10 0x41 0, false⟩, [], ?_, ?_, ?_, ?_, ?_, ?_, ?_, ?_⟩ <;> decide +kernel,
   by refine ⟨S [(Ix.GDA_LEG_OWNER, 1, 0), (Ix.GDA_LEG_OWNER, 2, 0), (Ix.GDA_LEG_OWNER, 3, 0), (Ix.GDA_HITCH_AX, 1, 1), (Ix.GDA_HITCH_AX, 2, 0), (Ix.GDA_HITCH_AX, 3, 1), (Ix.GDA_HITCH_AX, 4, 2), (Ix.GDA_HITCH_AX, 5, 255), (axIx Ix.AX_STATE 0, 0, 1), (Ix.DEV_STATE, 0, 3)] (fun d => { d with tally := { d.tally with inbox := [⟨999999990, message 0x40 0x07 1, false⟩] } }), ⟨999999990, message 0x40 0x07 1, false⟩, [], 1, 0, ?_, ?_, ?_, ?_, ?_, ?_, ?_⟩ <;> decide +kernel,
   by refine ⟨S [(Ix.GDA_LEG_OWNER, 1, 0), (Ix.GDA_LEG_OWNER, 2, 0), (Ix.GDA_LEG_OWNER, 3, 0), (Ix.GDA_HITCH_AX, 1, 1), (Ix.GDA_HITCH_AX, 2, 0), (Ix.GDA_HITCH_AX, 3, 1), (Ix.GDA_HITCH_AX, 4, 2), (Ix.GDA_HITCH_AX, 5, 255), (axIx Ix.AX_STATE 0, 0, 1), (Ix.DEV_STATE, 0, 3)] (fun d => { d with tally := { d.tally with inbox := [⟨999999990, message 0x90 0x40 3, false⟩] } }), ⟨999999990, message 0x90 0x40 3, false⟩, [], 1, 0, ?_, ?_, ?_, ?_, ?_, ?_, ?_, ?_⟩ <;> decide +kernel,
   by refine ⟨S [(Ix.GDA_LEG_OWNER, 1, 0), (Ix.GDA_LEG_OWNER, 2, 0), (Ix.GDA_LEG_OWNER, 3, 0), (Ix.GDA_HITCH_AX, 1, 1), (Ix.GDA_HITCH_AX, 2, 0), (Ix.GDA_HITCH_AX, 3, 1), (Ix.GDA_HITCH_AX, 4, 2), (Ix.GDA_HITCH_AX, 5, 255), (axIx Ix.AX_STATE 0, 0, 1), (Ix.DEV_STATE, 0, 3)] (fun d => (fun d => { d with tally := { d.tally with inbox := [⟨999999990, message 0x20 0x40 0, false⟩] } }) <| (fun d => { d with tally := { d.tally with entries := List.replicate 32 ⟨message 0x90 0x40 3, 5, 100, 1, false, false, 1⟩ } }) <| d), ⟨999999990, message 0x20 0x40 0, false⟩, [], ?_, ?_, ?_, ?_, ?_, ?_, ?_⟩ <;> decide +kernel,
   by refine ⟨S [(Ix.GDA_LEG_OWNER, 1, 0), (Ix.GDA_LEG_OWNER, 2, 0), (Ix.GDA_LEG_OWNER, 3, 0), (Ix.GDA_HITCH_AX, 1, 1), (Ix.GDA_HITCH_AX, 2, 0), (Ix.GDA_HITCH_AX, 3, 1), (Ix.GDA_HITCH_AX, 4, 2), (Ix.GDA_HITCH_AX, 5, 255), (axIx Ix.AX_STATE 0, 0, 1), (Ix.DEV_STATE, 0, 3)] (fun d => { d with tally := { d.tally with entries := [⟨message 0x90 0x40 3, 5, 100, 1, false, false, 1⟩] } }), message 0x90 0x40 3, ⟨message 0x90 0x40 3, 5, 100, 1, false, false, 1⟩, 0, ?_, ?_, ?_, ?_, ?_, ?_⟩ <;> decide +kernel,
   by refine ⟨S [] (fun d => { d with tally := { d.tally with errTiming := true, errnLow := true } }), ?_⟩ <;> decide +kernel,
   by refine ⟨S [(Ix.TLY_LOG_HEAD, 0, 0xFFFFFFFF)] (fun d => { d with tally := { d.tally with logQueue := [⟨message 0x90 0x40 3, 5, 1, 1⟩] } }), ⟨message 0x90 0x40 3, 5, 1, 1⟩, [], ?_, ?_, ?_⟩ <;> decide +kernel,
   by refine ⟨S [(Ix.TLY_LOG_HEAD, 0, 0xFFFFFFFF)] (fun d => { d with tally := { d.tally with logQueue := [⟨message 0x90 0x40 3, 5, 1, 1⟩] } }), ⟨message 0x90 0x40 3, 5, 1, 1⟩, [], ?_, ?_, ?_⟩ <;> decide +kernel,
   by refine ⟨S [], ?_⟩ <;> decide +kernel,
   by refine ⟨S [], ?_⟩ <;> decide +kernel⟩

theorem witness_RequestsToTheTally :
    (∃ (s : State) (rq : Requester) (m : Nat), (s.admits rq Ix.TLY_ACK 0 = true) ∧ (m < 2 ^ 32))
    ∧ (∃ (s : State) (rq : Requester) (n : Fin 8), (s.admits rq (axIx Ix.AX_CMD n) 0 = true) ∧ (s.heard.enabled n = false) ∧ ((∀ e ∈ s.dev.tally.entries, e.device = false ∧ bit e.axes n = false)) ∧ ((∀ l ∈ s.heard.axisLegs n, (s.dev.leg l).latched = false)) ∧ (s.dev.state ≠ devSafe) ∧ ((∀ c ∈ s.heard.enableChecks n, c.1 = true)))
    ∧ (∃ (s : State) (rq : Requester) (n : Fin 8) (i : Nat), (s.admits rq (axIx Ix.AX_CMD n) 0 = true) ∧ (s.heard.enabled n = false) ∧ ((∀ e ∈ s.dev.tally.entries, e.device = false ∧ bit e.axes n = false)) ∧ ((∀ l ∈ s.heard.axisLegs n, (s.dev.leg l).latched = false)) ∧ (s.dev.state ≠ devSafe) ∧ (((s.heard.enableChecks n).findIdx? fun c => !c.1) = some i))
    ∧ (∃ (s : State) (rq : Requester) (n : Fin 8) (e : PendingEntry), (s.admits rq (axIx Ix.AX_CMD n) 0 = true) ∧ (s.heard.enabled n = false) ∧ (e ∈ s.dev.tally.entries) ∧ ((e.device = true ∨ bit e.axes n = true)))
    ∧ (∃ (s : State) (rq : Requester) (n : Fin 8), (s.admits rq (axIx Ix.AX_CMD n) 0 = true))
    ∧ (∃ (s : State) (rq : Requester), (s.admits rq Ix.TLY_SAFE_RELEASE 0 = true) ∧ (s.heard.safeRefused = false))
    ∧ (∃ (s : State) (rq : Requester), (s.admits rq Ix.TLY_SAFE_RELEASE 0 = true) ∧ (s.heard.safeRefused = true))
    ∧ (∃ (s : State) (rq : Requester), (s.admits rq Ix.TLY_ERRN_RELEASE 0 = true) ∧ (s.heard.releasable = true))
    ∧ (∃ (s : State) (rq : Requester), (s.admits rq Ix.TLY_ERRN_RELEASE 0 = true) ∧ (s.heard.releasable = false))
    ∧ (∃ (s : State) (rq : Requester), (s.admits rq Ix.TLY_FIRST 1 = true))
    ∧ (∃ (s : State) (rq : Requester) (m : Nat), (s.admits rq Ix.TLY_INJECT 0 = true) ∧ (m < 2 ^ 32) ∧ (s.dev.vault.farrier = true))
    ∧ (∃ (s : State) (rq : Requester) (m : Nat), (s.admits rq Ix.TLY_INJECT 0 = true) ∧ (m < 2 ^ 32) ∧ (s.dev.vault.farrier = false)) :=
  ⟨by refine ⟨S [(Ix.GDA_LEG_OWNER, 1, 0), (Ix.GDA_LEG_OWNER, 2, 0), (Ix.GDA_LEG_OWNER, 3, 0), (Ix.GDA_HITCH_AX, 1, 1), (Ix.GDA_HITCH_AX, 2, 0), (Ix.GDA_HITCH_AX, 3, 1), (Ix.GDA_HITCH_AX, 4, 2), (Ix.GDA_HITCH_AX, 5, 255), (axIx Ix.AX_STATE 0, 0, 1), (Ix.DEV_STATE, 0, 3)] (fun d => { d with tally := { d.tally with entries := [⟨message 0x90 0x40 3, 5, 100, 1, false, false, 1⟩] } }), C, 0xFFFFFFFF, ?_, ?_⟩ <;> decide +kernel,
   by refine ⟨S [(Ix.GDA_LEG_OWNER, 1, 0), (Ix.GDA_LEG_OWNER, 2, 0), (Ix.GDA_LEG_OWNER, 3, 0), (Ix.GDA_HITCH_AX, 1, 1), (Ix.GDA_HITCH_AX, 2, 0), (Ix.GDA_HITCH_AX, 3, 1), (Ix.GDA_HITCH_AX, 4, 2), (Ix.GDA_HITCH_AX, 5, 255), (axIx Ix.AX_CE_MODE 0, 1, 0), (axIx Ix.AX_CE_MODE 0, 2, 0), (axIx Ix.AX_FE_ANGLE_SRC 0, 0, 1)], C, 0, ?_, ?_, ?_, ?_, ?_, ?_⟩ <;> decide +kernel,
   by refine ⟨S [], C, 0, 0, ?_, ?_, ?_, ?_, ?_, ?_⟩ <;> decide +kernel,
   by refine ⟨S [(Ix.GDA_LEG_OWNER, 1, 0), (Ix.GDA_LEG_OWNER, 2, 0), (Ix.GDA_LEG_OWNER, 3, 0), (Ix.GDA_HITCH_AX, 1, 1), (Ix.GDA_HITCH_AX, 2, 0), (Ix.GDA_HITCH_AX, 3, 1), (Ix.GDA_HITCH_AX, 4, 2), (Ix.GDA_HITCH_AX, 5, 255)] (fun d => { d with tally := { d.tally with entries := [⟨message 0x90 0x40 3, 5, 100, 1, false, false, 1⟩] } }), C, 0, ⟨message 0x90 0x40 3, 5, 100, 1, false, false, 1⟩, ?_, ?_, ?_, ?_⟩ <;> decide +kernel,
   by refine ⟨S [(Ix.GDA_LEG_OWNER, 1, 0), (Ix.GDA_LEG_OWNER, 2, 0), (Ix.GDA_LEG_OWNER, 3, 0), (Ix.GDA_HITCH_AX, 1, 1), (Ix.GDA_HITCH_AX, 2, 0), (Ix.GDA_HITCH_AX, 3, 1), (Ix.GDA_HITCH_AX, 4, 2), (Ix.GDA_HITCH_AX, 5, 255), (axIx Ix.AX_STATE 0, 0, 1), (Ix.DEV_STATE, 0, 3)] (fun d => { d with tally := { d.tally with entries := [⟨message 0x90 0x40 3, 5, 100, 1, false, false, 1⟩] } }), C, 0, ?_⟩ <;> decide +kernel,
   by refine ⟨S [(Ix.TLY_STATUS, 0, 0x40), (Ix.DEV_STATE, 0, devSafe), (Ix.GTH_STATUS, 0, 1)] (fun d => { d with gda := { d.gda with hobbleSafe := true } }), C, ?_, ?_⟩ <;> decide +kernel,
   by refine ⟨S [(Ix.TLY_STATUS, 0, 0x40), (Ix.DEV_STATE, 0, devSafe), (Ix.GTH_STATUS, 0, 1), (Ix.GTH_STATUS, 0, 9)] (fun d => { d with gda := { d.gda with hobbleSafe := true } }), C, ?_, ?_⟩ <;> decide +kernel,
   by refine ⟨S [] (fun d => { d with tally := { d.tally with errnLow := true, errTiming := false } }), C, ?_, ?_⟩ <;> decide +kernel,
   by refine ⟨S [] (fun d => { d with tally := { d.tally with errnLow := true, errTiming := true } }), C, ?_, ?_⟩ <;> decide +kernel,
   by refine ⟨S [(Ix.TLY_STATUS, 0, 3), (Ix.TLY_FIRST, 1, 77)], C, ?_⟩ <;> decide +kernel,
   by refine ⟨S [] (fun d => { d with vault := { d.vault with farrier := true } }), C, 0x41100003, ?_, ?_, ?_⟩ <;> decide +kernel,
   by refine ⟨S [], C, 0x41100003, ?_, ?_, ?_⟩ <;> decide +kernel⟩

theorem witness_AssayUnits :
    (∃ (s : State) (rq : Requester), (s.admits rq Ix.ASY_SCAN_CMD 0 = true) ∧ (s.heard.scanStatus 1 = 0))
    ∧ (∃ (s : State) (rq : Requester), (s.admits rq Ix.ASY_SCAN_CMD 0 = true) ∧ (s.heard.scanStatus 2 = 0))
    ∧ (∃ (s : State) (rq : Requester), (s.admits rq Ix.ASY_SCAN_CMD 0 = true) ∧ (s.heard.scanStatus 3 = 0))
    ∧ (∃ (s : State) (rq : Requester), (s.admits rq Ix.ASY_SCAN_CMD 0 true = true))
    ∧ (∃ (s : State) (bs : List Nat), (s.dev.isRunning = true) ∧ (s.dev.scanning = true) ∧ (s.dev.scanBytes = some bs) ∧ (s.dev.asy.compare = false))
    ∧ (∃ (s : State) (bs : List Nat), (s.dev.isRunning = true) ∧ (s.dev.scanning = true) ∧ (s.dev.scanBytes = some bs) ∧ (s.dev.asy.compare = true) ∧ ((s.dev.asyParams.feed (s.dev.rd Ix.ASY_RUNNING) bs ^^^ s.dev.rd Ix.ASY_XOROUT) % 2 ^ 32 = s.dev.rd Ix.ASY_SCAN_EXPECT))
    ∧ (∃ (s : State) (bs : List Nat), (s.dev.isRunning = true) ∧ (s.dev.scanning = true) ∧ (s.dev.scanBytes = some bs) ∧ (s.dev.asy.compare = true) ∧ ((s.dev.asyParams.feed (s.dev.rd Ix.ASY_RUNNING) bs ^^^ s.dev.rd Ix.ASY_XOROUT) % 2 ^ 32 ≠ s.dev.rd Ix.ASY_SCAN_EXPECT))
    ∧ (∃ (s : State) (rq : Requester) (bytes : List Octet), (s.admitsBlob rq Ix.ASY_FEED = true))
    ∧ (∃ (s : State) (rq : Requester), (s.admits rq Ix.ASY_RESTART 0 = true))
    ∧ (∃ (s : State) (rq : Requester) (code : Nat), (s.admits rq Ix.ASY_PRESET 0 = true) ∧ (1 ≤ code) ∧ (code ≤ 4))
    ∧ (∃ (s : State) (rq : Requester) (p : Fin 5) (v : Nat), (s.admits rq (Ix.ASY_WIDTH + p) 0 = true) ∧ (v < 2 ^ 32) ∧ ((p = 3 → v ≤ 1)) ∧ (s.heard.asyFits (Ix.ASY_WIDTH + p) v = true))
    ∧ (∃ (s : State) (rq : Requester) (v : Nat), (s.admits rq Ix.ASY_POLY 0 = true) ∧ (v < 2 ^ 32) ∧ (v % 2 = 0))
    ∧ (∃ (s : State) (u : Fin 3) (w : Fin 16), (w.val = 2 ^ u.val) ∧ (s.dev.isRunning = true) ∧ (bit (s.dev.rd Ix.ASY_STATUS) u = false) ∧ (bit (s.dev.rd Ix.ASY_STATUS) 9 = false) ∧ (bit s.dev.asy.failed 3 = false) ∧ (s.dev.asy.fails.getD u 0 = 1) ∧ (3 < s.dev.asy.fails.length))
    ∧ (∃ (s : State), (s.dev.isRunning = true) ∧ (s.dev.runningBank.crc = s.dev.rd Ix.ASY_FW_CRC))
    ∧ (∃ (s : State), (s.dev.isRunning = true) ∧ (s.dev.runningBank.crc ≠ s.dev.rd Ix.ASY_FW_CRC)) :=
  ⟨by refine ⟨S [(Ix.ASY_SCAN_LEN, 0, 8), (Ix.ASY_SCAN_START, 0, 0x180000), (Ix.ASY_SCAN_SPACE, 0, 0)], C, ?_, ?_⟩ <;> decide +kernel,
   by refine ⟨S [(Ix.ASY_SCAN_LEN, 0, 8), (Ix.ASY_SCAN_START, 0, 0x180000), (Ix.ASY_SCAN_SPACE, 0, 0), (Ix.ASY_RUNNING, 0, 77)], C, ?_, ?_⟩ <;> decide +kernel,
   by refine ⟨S [(Ix.ASY_SCAN_LEN, 0, 8), (Ix.ASY_SCAN_START, 0, 0x180000), (Ix.ASY_SCAN_SPACE, 0, 0)], C, ?_, ?_⟩ <;> decide +kernel,
   by refine ⟨S [(Ix.ASY_SCAN_LEN, 0, 8), (Ix.ASY_SCAN_START, 0, 0x180000), (Ix.ASY_SCAN_SPACE, 0, 0), (Ix.ASY_SCAN_STATUS, 0, 1)], C, ?_⟩ <;> decide +kernel,
   by refine ⟨S [(Ix.ASY_SCAN_LEN, 0, 8), (Ix.ASY_SCAN_START, 0, 0x180000), (Ix.ASY_SCAN_SPACE, 0, 0), (Ix.ASY_SCAN_STATUS, 0, 1)] (fun d => { d with boot := ⟨0, false, 0, ⟨true, true, 0, 0, [(0, 5)], false, 4⟩, ⟨false, false, 0, 0, [], false, 0⟩⟩, asy := { d.asy with compare := false } }), List.replicate 8 255, ?_, ?_, ?_, ?_⟩ <;> decide +kernel,
   by refine ⟨S [(Ix.ASY_SCAN_LEN, 0, 8), (Ix.ASY_SCAN_START, 0, 0x180000), (Ix.ASY_SCAN_SPACE, 0, 0), (Ix.ASY_SCAN_STATUS, 0, 1), (Ix.ASY_SCAN_EXPECT, 0, (S []).dev.asyParams.feed ((S []).dev.rd Ix.ASY_RUNNING) (List.replicate 8 255) ^^^ (S []).dev.rd Ix.ASY_XOROUT)] (fun d => { d with boot := ⟨0, false, 0, ⟨true, true, 0, 0, [(0, 5)], false, 4⟩, ⟨false, false, 0, 0, [], false, 0⟩⟩, asy := { d.asy with compare := true } }), List.replicate 8 255, ?_, ?_, ?_, ?_, ?_⟩ <;> decide +kernel,
   by refine ⟨S [(Ix.ASY_SCAN_LEN, 0, 8), (Ix.ASY_SCAN_START, 0, 0x180000), (Ix.ASY_SCAN_SPACE, 0, 0), (Ix.ASY_SCAN_STATUS, 0, 1), (Ix.ASY_SCAN_EXPECT, 0, 1)] (fun d => { d with boot := ⟨0, false, 0, ⟨true, true, 0, 0, [(0, 5)], false, 4⟩, ⟨false, false, 0, 0, [], false, 0⟩⟩, asy := { d.asy with compare := true } }), List.replicate 8 255, ?_, ?_, ?_, ?_, ?_⟩ <;> decide +kernel,
   by refine ⟨S [], C, [1, 2, 3], ?_⟩ <;> decide +kernel,
   by refine ⟨S [(Ix.ASY_RUNNING, 0, 77)], C, ?_⟩ <;> decide +kernel,
   by refine ⟨S [(Ix.ASY_RUNNING, 0, 77)], C, 4, ?_, ?_, ?_⟩ <;> decide +kernel,
   by refine ⟨S [], C, 1, 7, ?_, ?_, ?_, ?_⟩ <;> decide +kernel,
   by refine ⟨S [], C, 8, ?_, ?_, ?_⟩ <;> decide +kernel,
   by refine ⟨S [] (fun d => { d with asy := { d.asy with fails := [0, 1, 0, 0] } }), 1, 2, ?_, ?_, ?_, ?_, ?_, ?_, ?_⟩ <;> decide +kernel,
   by refine ⟨S [(Ix.ASY_FW_CRC, 0, crc32c [255, 255, 255, 255])] (fun d => { d with boot := ⟨0, false, 0, ⟨true, true, 0, 0, [(0, 5)], false, 4⟩, ⟨false, false, 0, 0, [], false, 0⟩⟩, asy := { d.asy with compare := false } }), ?_, ?_⟩ <;> decide +kernel,
   by refine ⟨S [(Ix.ASY_FW_CRC, 0, 0)] (fun d => { d with boot := ⟨0, false, 0, ⟨true, true, 0, 0, [(0, 5)], false, 4⟩, ⟨false, false, 0, 0, [], false, 0⟩⟩, asy := { d.asy with compare := false } }), ?_, ?_⟩ <;> decide +kernel⟩

theorem witness_PortsReceive :
    (∃ (s : State) (id : Nat) (ago : Nat) (bs : List Octet), (s.dev.isRunning = true) ∧ (s.dev.portUp 1 = true) ∧ ((s.dev.portQ 1).rx.length < 16))
    ∧ (∃ (s : State) (id : Nat) (ago : Nat) (bs : List Octet), (s.dev.isRunning = true) ∧ (s.dev.portUp 1 = true) ∧ (16 ≤ (s.dev.portQ 1).rx.length))
    ∧ (∃ (s : State) (id : Nat) (ago : Nat) (bs : List Octet), (s.dev.isRunning = true) ∧ (s.dev.portUp 1 = true) ∧ (bs.length = 63) ∧ (s.dev.partialOf (canSrc id) = none) ∧ (s.dev.net.partials.length < 8))
    ∧ (∃ (s : State) (id : Nat) (ago : Nat) (n : Nat) (bs : List Octet) (r : Reassembly), (s.dev.isRunning = true) ∧ (s.dev.portUp 1 = true) ∧ (n < 63) ∧ (s.dev.partialOf (canSrc id) = some r) ∧ (r.last = n) ∧ ((s.dev.portQ 1).rx.length < 16))
    ∧ (∃ (s : State) (id : Nat) (ago : Nat) (n : Nat) (bs : List Octet) (r : Reassembly), (s.dev.isRunning = true) ∧ (s.dev.portUp 1 = true) ∧ (n < 64) ∧ (s.dev.partialOf (canSrc id) = some r) ∧ (r.last + 1 ≠ n))
    ∧ (∃ (s : State) (id : Nat) (ago : Nat) (payload : List Octet), (s.dev.isRunning = true) ∧ (s.dev.portUp 1 = true))
    ∧ (∃ (s : State) (src : Nat), (s.dev.isRunning = true) ∧ (s.dev.partialOf src ≠ none))
    ∧ (∃ (s : State) (peer : Nat) (bs : List Octet), (s.dev.isRunning = true) ∧ (s.dev.portUp 0 = true) ∧ (4 ≤ bs.length) ∧ ((s.dev.portQ 0).rx.length < 16))
    ∧ (∃ (s : State) (peer : Nat) (bs : List Octet), (s.dev.isRunning = true) ∧ (s.dev.portUp 0 = true))
    ∧ (∃ (s : State) (kind : Octet) (body : List Octet), (s.dev.isRunning = true) ∧ (s.dev.portUp 2 = true) ∧ ((s.dev.portQ 2).rx.length < 16))
    ∧ (∃ (s : State) (nad : Nat) (bs : List Octet), (s.dev.isRunning = true) ∧ (s.dev.portUp 2 = true) ∧ (nad ≠ s.dev.netSetting Ix.NET_LIN_NAD 0))
    ∧ (∃ (s : State) (bs : List Nat), (s.dev.isRunning = true) ∧ (s.dev.portUp 2 = true) ∧ (s.dev.net.lin = some bs))
    ∧ (∃ (s : State), (s.dev.isRunning = true) ∧ (s.dev.portUp 2 = true) ∧ (s.dev.net.lin = none))
    ∧ (∃ (s : State) (g : List Octet), (s.dev.isRunning = true) ∧ (4 ≤ g.length) ∧ (g.length < 2 ^ 16) ∧ ((s.dev.portQ 3).rx.length < 16))
    ∧ (∃ (s : State) (bs : List Octet), (s.dev.isRunning = true) ∧ (bs.length ≠ leNat (bs.take 2) + 4))
    ∧ (∃ (s : State) (g : Datagram) (rest : List Datagram) (complete : Bool), (s.dev.isRunning = true) ∧ ((s.dev.portQ 3).wait = g :: rest))
    ∧ (∃ (s : State), (s.dev.isRunning = true))
    ∧ (∃ (s : State) (forUs : Bool), (s.dev.isRunning = true) ∧ (s.dev.portUp 0 = true))
    ∧ (∃ (s : State), (s.dev.isRunning = true) ∧ (s.dev.portUp 0 = true) ∧ (s.dev.netSetting Ix.NET_IP 1 ≠ 0)) :=
  ⟨by refine ⟨S [(Ix.NET_PORT_EN, 0, 7), (Ix.NET_NODE, 0, 0x123)] (fun d => (fun d => { d with supply := { d.supply with transceivers := true } }) <| d), 0x1234567, 4, [1, 2], ?_, ?_, ?_⟩ <;> decide +kernel,
   by refine ⟨S [(Ix.NET_PORT_EN, 0, 7), (Ix.NET_NODE, 0, 0x123)] (fun d => (fun d => d.onPort 1 fun q => { q with rx := List.replicate 16 ⟨0, 5, [0x20, 1, 2, 0, 0, 0, 0, 0], 0, 7⟩ }) <| (fun d => { d with supply := { d.supply with transceivers := true } }) <| d), 0x1234567, 4, [1, 2], ?_, ?_, ?_⟩ <;> decide +kernel,
   by refine ⟨S [(Ix.NET_PORT_EN, 0, 7), (Ix.NET_NODE, 0, 0x123)] (fun d => (fun d => { d with supply := { d.supply with transceivers := true } }) <| d), 0x1234567, 4, List.replicate 63 9, ?_, ?_, ?_, ?_, ?_⟩ <;> decide +kernel,
   by refine ⟨S [(Ix.NET_PORT_EN, 0, 7), (Ix.NET_NODE, 0, 0x123)] (fun d => (fun d => { d with net := { d.net with partials := [⟨0x1234567, 62, List.replicate 63 9, 7⟩] } }) <| (fun d => { d with supply := { d.supply with transceivers := true } }) <| d), 0x1234567, 4, 62, [1, 2], ⟨0x1234567, 62, List.replicate 63 9, 7⟩, ?_, ?_, ?_, ?_, ?_, ?_⟩ <;> decide +kernel,
   by refine ⟨S [(Ix.NET_PORT_EN, 0, 7), (Ix.NET_NODE, 0, 0x123)] (fun d => (fun d => { d with net := { d.net with partials := [⟨0x1234567, 3, List.replicate 63 9, 7⟩] } }) <| (fun d => { d with supply := { d.supply with transceivers := true } }) <| d), 0x1234567, 4, 3, [1, 2], ⟨0x1234567, 3, List.replicate 63 9, 7⟩, ?_, ?_, ?_, ?_, ?_⟩ <;> decide +kernel,
   by refine ⟨S [(Ix.NET_PORT_EN, 0, 7), (Ix.NET_NODE, 0, 0x123)] (fun d => (fun d => { d with supply := { d.supply with transceivers := true } }) <| d), 0x1234567, 4, [1, 2], ?_, ?_⟩ <;> decide +kernel,
   by refine ⟨S [(Ix.NET_PORT_EN, 0, 7), (Ix.NET_NODE, 0, 0x123)] (fun d => (fun d => { d with net := { d.net with partials := [⟨0x1234567, 3, [], 7⟩] } }) <| (fun d => { d with supply := { d.supply with transceivers := true } }) <| d), canSrc 0x1234567, ?_, ?_⟩ <;> decide +kernel,
   by refine ⟨S [(Ix.NET_PORT_EN, 0, 7), (Ix.NET_NODE, 0, 0x123)] (fun d => (fun d => { d with supply := { d.supply with transceivers := true } }) <| d), 9, [1, 2, 3, 4], ?_, ?_, ?_, ?_⟩ <;> decide +kernel,
   by refine ⟨S [(Ix.NET_PORT_EN, 0, 7), (Ix.NET_NODE, 0, 0x123)] (fun d => (fun d => { d with supply := { d.supply with transceivers := true } }) <| d), 9, [1, 2, 3, 4], ?_, ?_⟩ <;> decide +kernel,
   by refine ⟨S [(Ix.NET_PORT_EN, 0, 7), (Ix.NET_NODE, 0, 0x123), (Ix.NET_LIN_NAD, 0, 5)] (fun d => (fun d => { d with supply := { d.supply with transceivers := true } }) <| d), 1, [3], ?_, ?_, ?_⟩ <;> decide +kernel,
   by refine ⟨S [(Ix.NET_PORT_EN, 0, 7), (Ix.NET_NODE, 0, 0x123), (Ix.NET_LIN_NAD, 0, 5)] (fun d => (fun d => { d with supply := { d.supply with transceivers := true } }) <| d), 6, [1, 2, 3, 4], ?_, ?_, ?_⟩ <;> decide +kernel,
   by refine ⟨S [(Ix.NET_PORT_EN, 0, 7), (Ix.NET_NODE, 0, 0x123)] (fun d => (fun d => { d with net := { d.net with lin := some [1, 2] } }) <| (fun d => { d with supply := { d.supply with transceivers := true } }) <| d), [1, 2], ?_, ?_, ?_⟩ <;> decide +kernel,
   by refine ⟨S [(Ix.NET_PORT_EN, 0, 7), (Ix.NET_NODE, 0, 0x123)] (fun d => (fun d => { d with supply := { d.supply with transceivers := true } }) <| d), ?_, ?_, ?_⟩ <;> decide +kernel,
   by refine ⟨S [(Ix.NET_PORT_EN, 0, 7), (Ix.NET_NODE, 0, 0x123)] (fun d => (fun d => { d with supply := { d.supply with transceivers := true } }) <| d), [0, 0, 5, 0], ?_, ?_, ?_, ?_⟩ <;> decide +kernel,
   by refine ⟨S [(Ix.NET_PORT_EN, 0, 7), (Ix.NET_NODE, 0, 0x123)] (fun d => (fun d => { d with supply := { d.supply with transceivers := true } }) <| d), [0, 0, 5], ?_, ?_⟩ <;> decide +kernel,
   by refine ⟨S [(Ix.NET_PORT_EN, 0, 7), (Ix.NET_NODE, 0, 0x123)] (fun d => (fun d => d.onPort 3 fun q => { q with wait := [⟨0, 5, [0x20, 1, 2, 0, 0, 0, 0, 0], 0, 7⟩] }) <| (fun d => { d with supply := { d.supply with transceivers := true } }) <| d), ⟨0, 5, [0x20, 1, 2, 0, 0, 0, 0, 0], 0, 7⟩, [], true, ?_, ?_⟩ <;> decide +kernel,
   by refine ⟨S [(Ix.NET_PORT_EN, 0, 7), (Ix.NET_NODE, 0, 0x123)] (fun d => (fun d => { d with net := { d.net with spiErr := true } }) <| (fun d => { d with supply := { d.supply with transceivers := true } }) <| d), ?_⟩ <;> decide +kernel,
   by refine ⟨S [(Ix.NET_PORT_EN, 0, 7), (Ix.NET_NODE, 0, 0x123)] (fun d => (fun d => { d with supply := { d.supply with transceivers := true } }) <| d), true, ?_, ?_⟩ <;> decide +kernel,
   by refine ⟨S [(Ix.NET_PORT_EN, 0, 7), (Ix.NET_NODE, 0, 0x123), (Ix.NET_IP, 1, 0x0A000001)] (fun d => (fun d => { d with supply := { d.supply with transceivers := true } }) <| d), ?_, ?_, ?_⟩ <;> decide +kernel⟩

theorem witness_CourierDispatches :
    (∃ (s : State) (g : Datagram) (rest : List Datagram), (s.dev.isRunning = true) ∧ (s.dev.nextPort = some 3) ∧ ((s.dev.portQ 3).rx = g :: rest) ∧ (8 ≤ g.bytes.length) ∧ (((klpOf false g).flags / 32 ≠ 1 ∨ (klpOf false g).response = true)))
    ∧ (∃ (s : State) (g : Datagram) (rest : List Datagram), (s.dev.isRunning = true) ∧ (s.dev.nextPort = some 3) ∧ ((s.dev.portQ 3).rx = g :: rest) ∧ (g.bytes.length < 8))
    ∧ (∃ (s : State) (g : Datagram) (rest : List Datagram), (s.dev.isRunning = true) ∧ (s.dev.nextPort = some 3) ∧ ((s.dev.portQ 3).rx = g :: rest) ∧ (8 ≤ g.bytes.length) ∧ ((klpOf false g).flags / 32 = 1) ∧ ((klpOf false g).response = false) ∧ ((klpOf false g).malformed = true) ∧ (s.dev.keyedSession ⟨.spi, (klpOf false g).node, (klpOf false g).session⟩ = none))
    ∧ (∃ (s : State) (g : Datagram) (rest : List Datagram), (s.dev.isRunning = true) ∧ (s.dev.nextPort = some 3) ∧ ((s.dev.portQ 3).rx = g :: rest) ∧ (8 ≤ g.bytes.length) ∧ ((klpOf false g).flags / 32 = 1) ∧ ((klpOf false g).response = false) ∧ ((klpOf false g).malformed = false) ∧ ((klpOf false g).kind ∈ [0x01, 0x02, 0x03, 0x04, 0x05, 0x06, 0x07, 0x08, 0x09, 0x0C, 0x0D, 0x10, 0x11]) ∧ ((klpOf false g).auth = false) ∧ ((klpOf false g).session ≠ 0) ∧ (s.dev.sessionOf ⟨.spi, (klpOf false g).node, (klpOf false g).session⟩ = none))
    ∧ (∃ (s : State) (g : Datagram) (rest : List Datagram) (d : Device), (s.dev.isRunning = true) ∧ (s.dev.nextPort = some 3) ∧ ((s.dev.portQ 3).rx = g :: rest) ∧ (8 ≤ g.bytes.length) ∧ ((klpOf false g).flags / 32 = 1) ∧ ((klpOf false g).response = false) ∧ ((klpOf false g).malformed = false) ∧ ((klpOf false g).kind ∈ [0x01, 0x02, 0x03, 0x04, 0x05, 0x06, 0x07, 0x08, 0x09, 0x0C, 0x0D, 0x10, 0x11]) ∧ ((klpOf false g).auth = false) ∧ ((klpOf false g).e2e = false) ∧ ((klpOf false g).session = 0) ∧ (s.dev.repeated (klpOf false g) = none) ∧ (d = (s.dev.dequeued 3 rest).serveKind s.now (.of ⟨.spi, (klpOf false g).node, 0⟩) ((klpOf false g).dest % 2 ^ 14) (klpOf false g).kind (klpOf false g).body) ∧ (d.isPowered = true) ∧ (d.server.answer.status = 0)) :=
  ⟨by refine ⟨S [(Ix.NET_PORT_EN, 0, 7), (Ix.NET_NODE, 0, 0x123)] (fun d => (fun d => d.onPort 3 fun q => { q with rx := [⟨0x123, 5, [0x44, 1, 2, 0, 0, 0, 0, 0], 0, 7⟩] }) <| (fun d => { d with supply := { d.supply with transceivers := true } }) <| d), ⟨0x123, 5, [0x44, 1, 2, 0, 0, 0, 0, 0], 0, 7⟩, [], ?_, ?_, ?_, ?_, ?_⟩ <;> decide +kernel,
   by refine ⟨S [(Ix.NET_PORT_EN, 0, 7), (Ix.NET_NODE, 0, 0x123)] (fun d => (fun d => d.onPort 3 fun q => { q with rx := [⟨0x123, 5, [0x20, 1, 2, 0, 0, 0, 0], 0, 7⟩] }) <| (fun d => { d with supply := { d.supply with transceivers := true } }) <| d), ⟨0x123, 5, [0x20, 1, 2, 0, 0, 0, 0], 0, 7⟩, [], ?_, ?_, ?_, ?_⟩ <;> decide +kernel,
   by refine ⟨S [(Ix.NET_PORT_EN, 0, 7), (Ix.NET_NODE, 0, 0x123)] (fun d => (fun d => d.onPort 3 fun q => { q with rx := [⟨0x123, 5, [0x20, 1, 2, 0, 0, 0, 0, 1], 0, 7⟩] }) <| (fun d => { d with supply := { d.supply with transceivers := true } }) <| d), ⟨0x123, 5, [0x20, 1, 2, 0, 0, 0, 0, 1], 0, 7⟩, [], ?_, ?_, ?_, ?_, ?_, ?_, ?_, ?_⟩ <;> decide +kernel,
   by refine ⟨S [(Ix.NET_PORT_EN, 0, 7), (Ix.NET_NODE, 0, 0x123)] (fun d => (fun d => d.onPort 3 fun q => { q with rx := [⟨0x123, 5, [0x20, 1, 2, 7, 4, 0, 0, 0, 0, 0x10, 0, 0], 0, 7⟩] }) <| (fun d => { d with supply := { d.supply with transceivers := true } }) <| d), ⟨0x123, 5, [0x20, 1, 2, 7, 4, 0, 0, 0, 0, 0x10, 0, 0], 0, 7⟩, [], ?_, ?_, ?_, ?_, ?_, ?_, ?_, ?_, ?_, ?_, ?_⟩ <;> decide +kernel,
   by refine ⟨S [(Ix.NET_PORT_EN, 0, 7), (Ix.NET_NODE, 0, 0x123)] (fun d => (fun d => d.onPort 3 fun q => { q with rx := [⟨0x123, 5, [0x20, 1, 2, 0, 4, 0, 0, 0] ++ [0x10, 0, 0, 0], 0, 7⟩] }) <| (fun d => { d with supply := { d.supply with transceivers := true } }) <| d), ⟨0x123, 5, [0x20, 1, 2, 0, 4, 0, 0, 0] ++ [0x10, 0, 0, 0], 0, 7⟩, [], (S [(Ix.NET_PORT_EN, 0, 7), (Ix.NET_NODE, 0, 0x123)] (fun d => (fun d => { d with net := { d.net with turn := 0 } }) <| (fun d => { d with supply := { d.supply with transceivers := true } }) <| d)).dev.serveKind 1000000000 (.of ⟨.spi, 5, 0⟩) 0x123 1 ([0x10, 0, 0, 0]), ?_, ?_, ?_, ?_, ?_, ?_, ?_, ?_, ?_, ?_, ?_, ?_, ?_, ?_, ?_⟩; (decide +kernel); (decide +kernel); (decide +kernel); (decide +kernel); (decide +kernel); (decide +kernel); (decide +kernel); (decide +kernel); (decide +kernel); (decide +kernel); (decide +kernel); (decide +kernel); (rfl); (decide +kernel); (decide +kernel)⟩

theorem witness_NetworkStatesAndTime :
    (∃ (s : State), (s.dev.isRunning = true) ∧ (bit (s.dev.netSetting Ix.NET_PORT_EN 0) 1 = true) ∧ (s.dev.bitOf Ix.NET_STATUS 3 = false))
    ∧ (∃ (s : State), (s.dev.isRunning = true) ∧ (s.dev.bitOf Ix.NET_STATUS 3 = true))
    ∧ (∃ (s : State) (lin : Bool), (s.dev.isRunning = true) ∧ (s.dev.portUp (if lin then 2 else 1) = true))
    ∧ (∃ (s : State) (k : Fin 8) (values : List Nat) (d : Device), (s.dev.isRunning = true) ∧ (s.dev.rd (Ix.NET_STREAM + k) 1 = 1) ∧ (s.dev.readMany s.now ⟨⟨portOf (s.dev.rd (Ix.NET_STREAM + k) 2), s.dev.node, 0⟩, true⟩ .operator (s.dev.streamKeys k) = (values, d)) ∧ (d.node ≠ 0xFFFF) ∧ (d.portUp (d.rd (Ix.NET_STREAM + k) 2) = true) ∧ (d.rd (Ix.NET_STREAM + k) 2 < 4) ∧ (d.rd (Ix.NET_STREAM + k) 5 = 0))
    ∧ (∃ (s : State) (k : Fin 8) (values : List Nat) (d : Device), (s.dev.isRunning = true) ∧ (s.dev.rd (Ix.NET_STREAM + k) 1 = 1) ∧ (s.dev.readMany s.now ⟨⟨portOf (s.dev.rd (Ix.NET_STREAM + k) 2), s.dev.node, 0⟩, true⟩ .operator (s.dev.streamKeys k) = (values, d)) ∧ (d.node = 0xFFFF) ∧ (d.rd (Ix.NET_STREAM + k) 2 < 4))
    ∧ (∃ (s : State) (slot : KeySlot), (s.dev.isRunning = true) ∧ (bit s.dev.timeRole 2 = true) ∧ (s.dev.groupSlot (s.dev.rd Ix.NET_TIME 5) = some slot) ∧ (slot.groups = true) ∧ (s.dev.rd Ix.NET_TIME 5 ≠ 0xFFFF) ∧ (s.dev.vaultShut = false) ∧ (s.dev.node ≠ 0xFFFF) ∧ (s.dev.portUp 1 = true))
    ∧ (∃ (s : State), (s.dev.isRunning = true) ∧ (bit s.dev.timeRole 2 = true) ∧ (s.dev.groupSlot (s.dev.rd Ix.NET_TIME 5) = none))
    ∧ (∃ (s : State) (src : Nat) (seq : Nat) (fresh : Nat) (ago : Nat), (s.dev.isRunning = true) ∧ (s.dev.vaultShut = false) ∧ (s.dev.timeLocked = false) ∧ ((∀ last, cellGet s.dev.net.fresh src = some last → last < fresh)) ∧ (bit s.dev.timeRole 1 = true))
    ∧ (∃ (s : State) (src : Nat) (seq : Nat) (fresh : Nat) (ago : Nat), (s.dev.isRunning = true) ∧ (s.dev.vaultShut = false))
    ∧ (∃ (s : State) (src : Nat) (seq : Nat) (fresh : Nat) (ago : Nat) (last : Nat), (s.dev.isRunning = true) ∧ (s.dev.vaultShut = false) ∧ (s.dev.timeLocked = false) ∧ (cellGet s.dev.net.fresh src = some last) ∧ (fresh ≤ last))
    ∧ (∃ (s : State) (src : Nat) (seq : Nat) (time : Nat) (fresh : Nat) (stamp : Nat), (s.dev.isRunning = true) ∧ (s.dev.vaultShut = false) ∧ (s.dev.timeLocked = false) ∧ ((∀ last, cellGet s.dev.net.fresh src = some last → last < fresh)) ∧ (bit s.dev.timeRole 1 = true) ∧ (s.dev.net.clock.held = some (src, seq, stamp)) ∧ (s.now ≤ stamp + 1600000))
    ∧ (∃ (s : State) (ns : Nat) (ago : Nat), (s.dev.isRunning = true) ∧ (s.dev.portUp 0 = true) ∧ (bit s.dev.timeRole 0 = true) ∧ (s.dev.timeLocked = false))
    ∧ (∃ (s : State) (ns : Nat) (ago : Nat) (e : Int), (s.dev.isRunning = true) ∧ (s.dev.portUp 0 = true) ∧ (bit s.dev.timeRole 0 = true) ∧ (s.dev.timeLocked = true) ∧ (e = sgn 64 (pat 64 (ticksOfNs ns + s.dev.pathDelay - (s.dev.netTime (s.now - ago) : Int)))) ∧ (-160 ≤ e) ∧ (e ≤ 160))
    ∧ (∃ (s : State), (s.dev.isRunning = true) ∧ (s.dev.timeLocked = true) ∧ (bit s.dev.timeRole 0 = true))
    ∧ (∃ (s : State), (s.dev.isRunning = true) ∧ (s.dev.plcaFollower = true) ∧ (s.dev.net.fallback = false))
    ∧ (∃ (s : State), (s.dev.isRunning = true) ∧ (s.dev.plcaFollower = true))
    ∧ (∃ (s : State) (src : Nat) (dest : Nat), (s.dev.isRunning = true)) :=
  ⟨by refine ⟨S [(Ix.NET_PORT_EN, 0, 7), (Ix.NET_NODE, 0, 0x123)] (fun d => (fun d => { d with supply := { d.supply with transceivers := true } }) <| d), ?_, ?_, ?_⟩ <;> decide +kernel,
   by refine ⟨S [(Ix.NET_PORT_EN, 0, 7), (Ix.NET_NODE, 0, 0x123), (Ix.NET_STATUS, 0, 8)] (fun d => (fun d => { d with supply := { d.supply with transceivers := true } }) <| d), ?_, ?_⟩ <;> decide +kernel,
   by refine ⟨S [(Ix.NET_PORT_EN, 0, 7), (Ix.NET_NODE, 0, 0x123)] (fun d => (fun d => { d with supply := { d.supply with transceivers := true } }) <| d), true, ?_, ?_⟩ <;> decide +kernel,
   by refine ⟨S [(Ix.NET_PORT_EN, 0, 7), (Ix.NET_NODE, 0, 0x123), (Ix.NET_STREAM + 3, 1, 1), (Ix.NET_STREAM + 3, 2, 3), (Ix.NET_STREAM + 3, 3, 0x99), (Ix.NET_STREAM + 3, 5, 0)] (fun d => (fun d => { d with supply := { d.supply with transceivers := true } }) <| d), 3, ((S [(Ix.NET_PORT_EN, 0, 7), (Ix.NET_NODE, 0, 0x123), (Ix.NET_STREAM + 3, 1, 1), (Ix.NET_STREAM + 3, 2, 3), (Ix.NET_STREAM + 3, 3, 0x99), (Ix.NET_STREAM + 3, 5, 0)] (fun d => (fun d => { d with supply := { d.supply with transceivers := true } }) <| d)).dev.readMany 1000000000 ⟨⟨.spi, (S [(Ix.NET_PORT_EN, 0, 7), (Ix.NET_NODE, 0, 0x123), (Ix.NET_STREAM + 3, 1, 1), (Ix.NET_STREAM + 3, 2, 3), (Ix.NET_STREAM + 3, 3, 0x99), (Ix.NET_STREAM + 3, 5, 0)] (fun d => (fun d => { d with supply := { d.supply with transceivers := true } }) <| d)).dev.node, 0⟩, true⟩ .operator ((S [(Ix.NET_PORT_EN, 0, 7), (Ix.NET_NODE, 0, 0x123), (Ix.NET_STREAM + 3, 1, 1), (Ix.NET_STREAM + 3, 2, 3), (Ix.NET_STREAM + 3, 3, 0x99), (Ix.NET_STREAM + 3, 5, 0)] (fun d => (fun d => { d with supply := { d.supply with transceivers := true } }) <| d)).dev.streamKeys 3)).1, ((S [(Ix.NET_PORT_EN, 0, 7), (Ix.NET_NODE, 0, 0x123), (Ix.NET_STREAM + 3, 1, 1), (Ix.NET_STREAM + 3, 2, 3), (Ix.NET_STREAM + 3, 3, 0x99), (Ix.NET_STREAM + 3, 5, 0)] (fun d => (fun d => { d with supply := { d.supply with transceivers := true } }) <| d)).dev.readMany 1000000000 ⟨⟨.spi, (S [(Ix.NET_PORT_EN, 0, 7), (Ix.NET_NODE, 0, 0x123), (Ix.NET_STREAM + 3, 1, 1), (Ix.NET_STREAM + 3, 2, 3), (Ix.NET_STREAM + 3, 3, 0x99), (Ix.NET_STREAM + 3, 5, 0)] (fun d => (fun d => { d with supply := { d.supply with transceivers := true } }) <| d)).dev.node, 0⟩, true⟩ .operator ((S [(Ix.NET_PORT_EN, 0, 7), (Ix.NET_NODE, 0, 0x123), (Ix.NET_STREAM + 3, 1, 1), (Ix.NET_STREAM + 3, 2, 3), (Ix.NET_STREAM + 3, 3, 0x99), (Ix.NET_STREAM + 3, 5, 0)] (fun d => (fun d => { d with supply := { d.supply with transceivers := true } }) <| d)).dev.streamKeys 3)).2, ?_, ?_, ?_, ?_, ?_, ?_, ?_⟩; (decide +kernel); (decide +kernel); (rfl); (decide +kernel); (decide +kernel); (decide +kernel); (decide +kernel),
   by refine ⟨S [(Ix.NET_PORT_EN, 0, 7), (Ix.NET_NODE, 0, 0x123), (Ix.NET_STREAM + 3, 1, 1), (Ix.NET_STREAM + 3, 2, 3), (Ix.NET_STREAM + 3, 3, 0x99), (Ix.NET_STREAM + 3, 5, 0), (Ix.NET_NODE, 0, 0xFFFF)] (fun d => (fun d => { d with supply := { d.supply with transceivers := true } }) <| d), 3, ((S [(Ix.NET_PORT_EN, 0, 7), (Ix.NET_NODE, 0, 0x123), (Ix.NET_STREAM + 3, 1, 1), (Ix.NET_STREAM + 3, 2, 3), (Ix.NET_STREAM + 3, 3, 0x99), (Ix.NET_STREAM + 3, 5, 0), (Ix.NET_NODE, 0, 0xFFFF)] (fun d => (fun d => { d with supply := { d.supply with transceivers := true } }) <| d)).dev.readMany 1000000000 ⟨⟨.spi, (S [(Ix.NET_PORT_EN, 0, 7), (Ix.NET_NODE, 0, 0x123), (Ix.NET_STREAM + 3, 1, 1), (Ix.NET_STREAM + 3, 2, 3), (Ix.NET_STREAM + 3, 3, 0x99), (Ix.NET_STREAM + 3, 5, 0), (Ix.NET_NODE, 0, 0xFFFF)] (fun d => (fun d => { d with supply := { d.supply with transceivers := true } }) <| d)).dev.node, 0⟩, true⟩ .operator ((S [(Ix.NET_PORT_EN, 0, 7), (Ix.NET_NODE, 0, 0x123), (Ix.NET_STREAM + 3, 1, 1), (Ix.NET_STREAM + 3, 2, 3), (Ix.NET_STREAM + 3, 3, 0x99), (Ix.NET_STREAM + 3, 5, 0), (Ix.NET_NODE, 0, 0xFFFF)] (fun d => (fun d => { d with supply := { d.supply with transceivers := true } }) <| d)).dev.streamKeys 3)).1, ((S [(Ix.NET_PORT_EN, 0, 7), (Ix.NET_NODE, 0, 0x123), (Ix.NET_STREAM + 3, 1, 1), (Ix.NET_STREAM + 3, 2, 3), (Ix.NET_STREAM + 3, 3, 0x99), (Ix.NET_STREAM + 3, 5, 0), (Ix.NET_NODE, 0, 0xFFFF)] (fun d => (fun d => { d with supply := { d.supply with transceivers := true } }) <| d)).dev.readMany 1000000000 ⟨⟨.spi, (S [(Ix.NET_PORT_EN, 0, 7), (Ix.NET_NODE, 0, 0x123), (Ix.NET_STREAM + 3, 1, 1), (Ix.NET_STREAM + 3, 2, 3), (Ix.NET_STREAM + 3, 3, 0x99), (Ix.NET_STREAM + 3, 5, 0), (Ix.NET_NODE, 0, 0xFFFF)] (fun d => (fun d => { d with supply := { d.supply with transceivers := true } }) <| d)).dev.node, 0⟩, true⟩ .operator ((S [(Ix.NET_PORT_EN, 0, 7), (Ix.NET_NODE, 0, 0x123), (Ix.NET_STREAM + 3, 1, 1), (Ix.NET_STREAM + 3, 2, 3), (Ix.NET_STREAM + 3, 3, 0x99), (Ix.NET_STREAM + 3, 5, 0), (Ix.NET_NODE, 0, 0xFFFF)] (fun d => (fun d => { d with supply := { d.supply with transceivers := true } }) <| d)).dev.streamKeys 3)).2, ?_, ?_, ?_, ?_, ?_⟩; (decide +kernel); (decide +kernel); (rfl); (decide +kernel); (decide +kernel),
   by refine ⟨S [(Ix.NET_PORT_EN, 0, 7), (Ix.NET_NODE, 0, 0x123), (Ix.NET_TIME, 1, 4), (Ix.NET_TIME, 5, 2), (Ix.NET_GROUP, 1, 2), (Ix.NET_GROUP_KEY, 1, 5)] (fun d => (fun d => { d with vault := { d.vault with slots := d.vault.slots.set 3 ⟨1, 0, 2, 7, List.replicate 16 1, false⟩ } }) <| (fun d => { d with supply := { d.supply with transceivers := true } }) <| d), ⟨1, 0, 2, 7, List.replicate 16 1, false⟩, ?_, ?_, ?_, ?_, ?_, ?_, ?_, ?_⟩ <;> decide +kernel,
   by refine ⟨S [(Ix.NET_PORT_EN, 0, 7), (Ix.NET_NODE, 0, 0x123), (Ix.NET_TIME, 1, 4), (Ix.NET_TIME, 5, 2)] (fun d => (fun d => { d with supply := { d.supply with transceivers := true } }) <| d), ?_, ?_, ?_⟩ <;> decide +kernel,
   by refine ⟨S [(Ix.NET_PORT_EN, 0, 7), (Ix.NET_NODE, 0, 0x123), (Ix.NET_TIME, 1, 2)] (fun d => (fun d => { d with supply := { d.supply with transceivers := true } }) <| d), 5, 3, 9, 4, ?_, ?_, ?_, ?_, ?_⟩; (decide +kernel); (decide +kernel); (decide +kernel); (intro last h; have e : Option.isSome _ = true := congrArg Option.isSome h; exact absurd e (by decide +kernel)); (decide +kernel),
   by refine ⟨S [(Ix.NET_PORT_EN, 0, 7), (Ix.NET_NODE, 0, 0x123)] (fun d => (fun d => { d with supply := { d.supply with transceivers := true } }) <| d), 5, 3, 9, 4, ?_, ?_⟩ <;> decide +kernel,
   by refine ⟨S [(Ix.NET_PORT_EN, 0, 7), (Ix.NET_NODE, 0, 0x123)] (fun d => (fun d => { d with net := { d.net with fresh := [(5, 9)] } }) <| (fun d => { d with supply := { d.supply with transceivers := true } }) <| d), 5, 3, 9, 4, 9, ?_, ?_, ?_, ?_, ?_⟩ <;> decide +kernel,
   by refine ⟨S [(Ix.NET_PORT_EN, 0, 7), (Ix.NET_NODE, 0, 0x123), (Ix.NET_TIME, 1, 2)] (fun d => (fun d => { d with net := { d.net with clock := { d.net.clock with held := some (5, 3, 998400000) } } }) <| (fun d => { d with supply := { d.supply with transceivers := true } }) <| d), 5, 3, 8888, 9, 998400000, ?_, ?_, ?_, ?_, ?_, ?_, ?_⟩; (decide +kernel); (decide +kernel); (decide +kernel); (intro last h; have e : Option.isSome _ = true := congrArg Option.isSome h; exact absurd e (by decide +kernel)); (decide +kernel); (decide +kernel); (decide +kernel),
   by refine ⟨S [(Ix.NET_PORT_EN, 0, 7), (Ix.NET_NODE, 0, 0x123), (Ix.NET_TIME, 1, 1)] (fun d => (fun d => { d with supply := { d.supply with transceivers := true } }) <| d), 777, 4, ?_, ?_, ?_, ?_⟩ <;> decide +kernel,
   by refine ⟨S [(Ix.NET_PORT_EN, 0, 7), (Ix.NET_NODE, 0, 0x123), (Ix.NET_TIME, 1, 1), (Ix.NET_STATUS, 0, 0x100)] (fun d => (fun d => { d with net := { d.net with clock := { d.net.clock with nRef := 10000, pRef := 999999990 } } }) <| (fun d => { d with supply := { d.supply with transceivers := true } }) <| d), 62500, 4, -6, ?_, ?_, ?_, ?_, ?_, ?_, ?_⟩ <;> decide +kernel,
   by refine ⟨S [(Ix.NET_PORT_EN, 0, 7), (Ix.NET_NODE, 0, 0x123), (Ix.NET_TIME, 1, 1), (Ix.NET_STATUS, 0, 0x100)] (fun d => (fun d => { d with net := { d.net with clock := { d.net.clock with good := 4 } } }) <| (fun d => { d with supply := { d.supply with transceivers := true } }) <| d), ?_, ?_, ?_⟩ <;> decide +kernel,
   by refine ⟨S [(Ix.NET_PORT_EN, 0, 7), (Ix.NET_NODE, 0, 0x123), (Ix.NET_T1S, 2, 3), (Ix.NET_STATUS, 0, 2)] (fun d => (fun d => { d with supply := { d.supply with transceivers := true } }) <| d), ?_, ?_, ?_⟩ <;> decide +kernel,
   by refine ⟨S [(Ix.NET_PORT_EN, 0, 7), (Ix.NET_NODE, 0, 0x123), (Ix.NET_T1S, 2, 3)] (fun d => (fun d => { d with net := { d.net with fallback := true } }) <| (fun d => { d with supply := { d.supply with transceivers := true } }) <| d), ?_, ?_⟩ <;> decide +kernel,
   by refine ⟨S [(Ix.NET_PORT_EN, 0, 7), (Ix.NET_NODE, 0, 0x123)] (fun d => (fun d => { d with net := { d.net with contexts := [⟨5, 0x123, .normal, 3, none⟩, ⟨6, 0x123, .normal, 3, none⟩] } }) <| (fun d => { d with supply := { d.supply with transceivers := true } }) <| d), 5, 0x123, ?_⟩ <;> decide +kernel⟩

theorem witness_VaultKeysAndAlarms :
    (∃ (s : State) (rq : Requester), (s.admits rq Ix.VLT_LIFECYCLE_CMD 0 = true) ∧ (s.heard.lifecycleStatus s.now (Caller.of rq).owner 1 = 0) ∧ (s.dev.bitOf Ix.SUP_STATUS 7 = false))
    ∧ (∃ (s : State) (rq : Requester), (s.admits rq Ix.VLT_LIFECYCLE_CMD 0 = true) ∧ (s.heard.lifecycleStatus s.now (Caller.of rq).owner 2 = 0) ∧ (s.dev.bitOf Ix.SUP_STATUS 7 = false))
    ∧ (∃ (s : State) (rq : Requester), (s.admits rq Ix.VLT_LIFECYCLE_CMD 0 = true) ∧ (s.heard.lifecycleStatus s.now (Caller.of rq).owner 3 = 0) ∧ (s.dev.bitOf Ix.SUP_STATUS 7 = false))
    ∧ (∃ (s : State) (rq : Requester), (s.admits rq Ix.VLT_LIFECYCLE_CMD 0 = true) ∧ (s.heard.vaultShut = false) ∧ (s.heard.confirmed s.now (Caller.of rq).owner = false))
    ∧ (∃ (s : State) (rq : Requester) (bytes : List Octet), (s.admitsBlob rq Ix.VLT_ROOT_KEY = true) ∧ (s.dev.rd Ix.VLT_SELFTEST = 0))
    ∧ (∃ (s : State) (rq : Requester) (bytes : List Octet), (s.admitsBlob rq Ix.VLT_KEY_IMPORT = true) ∧ (s.heard.importShut = false) ∧ (importBad bytes = false) ∧ (s.heard.postStatus = 0))
    ∧ (∃ (s : State) (rq : Requester) (k : Nat), (s.admits rq Ix.VLT_KEY_DELETE 0 = true) ∧ (s.heard.importShut = false) ∧ (s.heard.postStatus = 0) ∧ (2 ≤ k) ∧ (k ≤ 15))
    ∧ (∃ (s : State) (rq : Requester) (k : Nat), (s.admits rq Ix.VLT_KEY_DELETE 0 = true) ∧ (2 ≤ k) ∧ (k ≤ 15) ∧ (s.heard.importShut = true))
    ∧ (∃ (s : State) (rq : Requester) (bytes : List Octet), (s.admitsBlob rq Ix.VLT_MR_EXTEND = true) ∧ (s.dev.rd Ix.VLT_SELFTEST = 0) ∧ (bytes.length = 32))
    ∧ (∃ (s : State) (x : Fin 6), (s.dev.isRunning = true) ∧ (s.dev.tamperLevel x = 0))
    ∧ (∃ (s : State) (x : Fin 6), (s.dev.isRunning = true) ∧ (s.dev.tamperLevel x = 1))
    ∧ (∃ (s : State) (x : Fin 6), (s.dev.isRunning = true) ∧ (2 ≤ s.dev.tamperLevel x) ∧ (s.dev.ledger.post = none))
    ∧ (∃ (s : State) (code : Nat), (s.dev.isRunning = true) ∧ (0 < code) ∧ (code < 256)) :=
  ⟨by refine ⟨S [] (fun d => (fun d => { d with vault := { d.vault with confirm := some (.session 1, 999999990) } }) <| (fun d => { d with otp := { d.otp with fuses := [(79, ⟨207697388613, 0⟩), (95, ⟨207697388613, 0⟩), (242, ⟨0xF00, 0⟩)], shadow := [(79, ⟨207697388613, 0⟩), (95, ⟨207697388613, 0⟩), (242, ⟨0xF00, 0⟩)], inForce := 32 } }) <| d), C, ?_, ?_, ?_⟩ <;> decide +kernel,
   by refine ⟨S [] (fun d => (fun d => d.setTab Ix.VLT_ROOT_KEY 0 (List.replicate 64 1)) <| (fun d => { d with vault := { d.vault with confirm := some (.session 1, 999999990) } }) <| (fun d => { d with otp := { d.otp with fuses := [(243, ⟨0x0F, 0⟩)], shadow := [(243, ⟨0x0F, 0⟩)], inForce := 0 } }) <| d), C, ?_, ?_, ?_⟩ <;> decide +kernel,
   by refine ⟨S [] (fun d => (fun d => { d with vault := { d.vault with confirm := some (.session 1, 999999990) } }) <| (fun d => { d with otp := { d.otp with fuses := [(243, ⟨0x0F, 0⟩)], shadow := [(243, ⟨0x0F, 0⟩)], inForce := 0 } }) <| d), C, ?_, ?_, ?_⟩ <;> decide +kernel,
   by refine ⟨S [] (fun d => { d with otp := { d.otp with fuses := [(243, ⟨0x0F, 0⟩)], shadow := [(243, ⟨0x0F, 0⟩)], inForce := 0 } }), C, ?_, ?_, ?_⟩ <;> decide +kernel,
   by refine ⟨S [], C, [1, 2], ?_, ?_⟩ <;> decide +kernel,
   by refine ⟨S [(Ix.DEV_SERIAL, 0, 77)] (fun d => { d with otp := { d.otp with fuses := [(243, ⟨0x0F, 0⟩)], shadow := [(243, ⟨0x0F, 0⟩)], inForce := 0 } }), C, [1, 0, 3, 1, 2, 3, 7, 0] ++ List.replicate 164 0, ?_, ?_, ?_, ?_⟩ <;> decide +kernel,
   by refine ⟨S [] (fun d => { d with otp := { d.otp with fuses := [(243, ⟨0x0F, 0⟩)], shadow := [(243, ⟨0x0F, 0⟩)], inForce := 0 } }), C, 15, ?_, ?_, ?_, ?_, ?_⟩ <;> decide +kernel,
   by refine ⟨S [], C, 2, ?_, ?_, ?_, ?_⟩ <;> decide +kernel,
   by refine ⟨S [], C, List.replicate 32 5, ?_, ?_, ?_⟩ <;> decide +kernel,
   by refine ⟨S [], 0, ?_, ?_⟩ <;> decide +kernel,
   by refine ⟨S [(Ix.VLT_TAMPER_LEVEL, 1, 1)], 0, ?_, ?_⟩ <;> decide +kernel,
   by refine ⟨S [(Ix.VLT_TAMPER_LEVEL, 1, 2)] (fun d => { d with vault := { d.vault with seq := 9 } }), 0, ?_, ?_, ?_⟩ <;> decide +kernel,
   by refine ⟨S [(Ix.VLT_STATUS, 0, 2)], 255, ?_, ?_, ?_⟩ <;> decide +kernel⟩

theorem witness_FirmwareAndFarrier :
    (∃ (s : State) (rq : Requester), (s.admits rq Ix.VLT_UPD_CMD 0 = true) ∧ (s.heard.updStartStatus = 0) ∧ (s.dev.vault.romUpdate = false))
    ∧ (∃ (s : State) (rq : Requester) (role : Role) (offset : Nat) (words : List Nat), (s.reaches (.of rq) ⟨(blockEntries offset words).map (·.key), false, false⟩ = some role) ∧ ((role = .integrator ∨ role = .custodian)) ∧ (s.heard.updating = true) ∧ (s.dev.rd Ix.VLT_UPD_STATUS ≠ 2) ∧ (offset % 8 = 0) ∧ (offset + 8 * words.length ≤ 1572864) ∧ (1 ≤ words.length) ∧ (words.length ≤ 15) ∧ ((∀ w ∈ words, w < 2 ^ 64)))
    ∧ (∃ (s : State) (rq : Requester), (s.admits rq Ix.VLT_UPD_CMD 0 = true) ∧ (s.heard.updating = true) ∧ (s.heard.vaultShut = false) ∧ (s.dev.rd Ix.VLT_UPD_STATUS ≠ 2))
    ∧ (∃ (s : State), (s.dev.isRunning = true) ∧ (s.dev.rd Ix.VLT_UPD_STATUS = 2))
    ∧ (∃ (s : State) (rq : Requester), (s.admits rq Ix.VLT_UPD_CMD 0 = true) ∧ (s.heard.updating = true) ∧ (s.heard.vaultShut = false) ∧ (s.dev.rd Ix.VLT_UPD_STATUS = 3) ∧ (s.dev.bitOf Ix.SUP_STATUS 7 = false))
    ∧ (∃ (s : State) (rq : Requester), (s.admits rq Ix.VLT_UPD_CMD 0 = true) ∧ (s.heard.updating = true) ∧ (s.heard.vaultShut = false) ∧ (s.dev.rd Ix.VLT_UPD_STATUS ≠ 3))
    ∧ (∃ (s : State) (rq : Requester), (s.admits rq Ix.VLT_UPD_CMD 0 = true) ∧ (s.heard.updating = true) ∧ (s.dev.vault.romUpdate = false))
    ∧ (∃ (s : State), (s.dev.isRunning = true) ∧ (s.dev.state = devUpdate) ∧ (s.dev.vault.updater ≠ none) ∧ (s.dev.vault.romUpdate = false))
    ∧ (∃ (s : State), (s.dev.isRunning = true) ∧ (s.dev.boot.trial = false) ∧ (s.dev.bitOf Ix.SUP_STATUS 1 = false) ∧ (s.dev.vault.romUpdate = false))
    ∧ (∃ (s : State) (rq : Requester) (bytes : List Octet), (s.admitsBlob rq Ix.VLT_FARRIER = true) ∧ (s.heard.vaultShut = false) ∧ (bytes.length = 90) ∧ (bytesAt bytes 0 2 = 1) ∧ (s.dev.bitOf Ix.SUP_STATUS 7 = false)) :=
  ⟨by refine ⟨S [], C, ?_, ?_, ?_⟩ <;> decide +kernel,
   by refine ⟨S [(Ix.DEV_STATE, 0, devUpdate), (Ix.VLT_UPD_BANK, 0, 1)] (fun d => { d with vault := { d.vault with updater := some (.session 1) } }), C, .custodian, 0x17FFF8, [0x1122334455667788], ?_, ?_, ?_, ?_, ?_, ?_, ?_, ?_, ?_⟩ <;> decide +kernel,
   by refine ⟨S [(Ix.DEV_STATE, 0, devUpdate), (Ix.VLT_UPD_BANK, 0, 1), (Ix.VLT_UPD_STATUS, 0, 1)] (fun d => { d with vault := { d.vault with updater := some (.session 1) } }), C, ?_, ?_, ?_, ?_⟩ <;> decide +kernel,
   by refine ⟨S [(Ix.DEV_STATE, 0, devUpdate), (Ix.VLT_UPD_BANK, 0, 1), (Ix.VLT_UPD_STATUS, 0, 2)] (fun d => (fun d => { d with boot := ⟨0, false, 0, ⟨true, true, 5, 0, [(0, 5)], false, 4⟩, ⟨true, true, 3, 0, [], false, 0⟩⟩ }) <| (fun d => { d with vault := { d.vault with updater := some (.session 1) } }) <| d), ?_, ?_⟩ <;> decide +kernel,
   by refine ⟨S [(Ix.DEV_STATE, 0, devUpdate), (Ix.VLT_UPD_BANK, 0, 1), (Ix.VLT_UPD_STATUS, 0, 3)] (fun d => { d with vault := { d.vault with updater := some (.session 1) } }), C, ?_, ?_, ?_, ?_, ?_⟩ <;> decide +kernel,
   by refine ⟨S [(Ix.DEV_STATE, 0, devUpdate), (Ix.VLT_UPD_BANK, 0, 1), (Ix.VLT_UPD_STATUS, 0, 4)] (fun d => { d with vault := { d.vault with updater := some (.session 1) } }), C, ?_, ?_, ?_, ?_⟩ <;> decide +kernel,
   by refine ⟨S [(Ix.DEV_STATE, 0, devUpdate), (Ix.VLT_UPD_BANK, 0, 1), (Ix.VLT_UPD_STATUS, 0, 4)] (fun d => { d with vault := { d.vault with updater := some (.session 1) } }), C, ?_, ?_, ?_⟩ <;> decide +kernel,
   by refine ⟨S [(Ix.DEV_STATE, 0, devUpdate), (Ix.VLT_UPD_BANK, 0, 1), (Ix.VLT_UPD_STATUS, 0, 4)] (fun d => { d with vault := { d.vault with updater := some (.session 1) } }), ?_, ?_, ?_, ?_⟩ <;> decide +kernel,
   by refine ⟨S [] (fun d => { d with boot := ⟨0, false, 0, ⟨true, true, 5, 0, [(0, 5)], false, 4⟩, ⟨true, true, 3, 0, [], false, 0⟩⟩ }), ?_, ?_, ?_, ?_⟩ <;> decide +kernel,
   by refine ⟨S [(Ix.DEV_SERIAL, 0, 77)], C, [1, 0] ++ List.replicate 88 3, ?_, ?_, ?_, ?_, ?_⟩ <;> decide +kernel⟩

theorem witness_FirstFaultLatch :
    (∃ (s : State) (p : Posted) (rest : List Posted), (s.dev.isRunning = true) ∧ (takeNext s.dev.tally.inbox = some (p, rest)) ∧ (p.message < 2 ^ 32) ∧ (s.dev.bitOf Ix.TLY_STATUS 0 = false))
    ∧ (∃ (s : State) (p : Posted) (rest : List Posted), (s.dev.isRunning = true) ∧ (takeNext s.dev.tally.inbox = some (p, rest)) ∧ (s.dev.bitOf Ix.TLY_STATUS 0 = true))
    ∧ (∃ (s : State) (rq : Requester), (s.admits rq Ix.TLY_FIRST 1 = true)) :=
  ⟨by refine ⟨S [] (fun d => { d with tally := { d.tally with inbox := [⟨999999990, message 0x40 0x07 1, false⟩] } }), ⟨999999990, message 0x40 0x07 1, false⟩, [], ?_, ?_, ?_, ?_⟩ <;> decide +kernel,
   by refine ⟨S [(Ix.TLY_STATUS, 0, 1)] (fun d => { d with tally := { d.tally with inbox := [⟨999999990, message 0x40 0x07 1, false⟩] } }), ⟨999999990, message 0x40 0x07 1, false⟩, [], ?_, ?_, ?_⟩ <;> decide +kernel,
   by refine ⟨S [(Ix.TLY_STATUS, 0, 1)], C, ?_⟩ <;> decide +kernel⟩

theorem witness_FarrierModeNotes :
    (∃ (s : State) (x : Fin 6), (s.dev.isRunning = true) ∧ (s.dev.vault.farrier = true)) :=
  by refine ⟨S [] (fun d => { d with vault := { d.vault with farrier := true } }), 5, ?_, ?_⟩ <;> decide +kernel

theorem witness_StepRunsTheFront :
    (∃ (s : State) (c : Instr) (rest : List Instr), (s.pending = c :: rest))
    ∧ (∃ (s : State), (s.pending = [])) :=
  ⟨by refine ⟨{ S [] with pending := [.spiStatus] }, .spiStatus, [], ?_⟩ <;> decide +kernel,
   by refine ⟨S [], ?_⟩ <;> decide +kernel⟩

theorem witness_StepKeepsSettled : ∃ s t : State, s.dev.Settled ∧ step s = .next t :=
  ⟨State.reset, State.reset.tick, ⟨by decide +kernel, by decide +kernel, by decide +kernel, by decide +kernel, by decide +kernel, by decide +kernel, by decide +kernel⟩, rfl⟩

theorem witness_ReaderWritesNothing :
    (∃ (s : State) (rq : Requester) (key : ObjKey) (bytes : List Octet), (s.reaches (.of rq) ⟨[key], false, true⟩ = some .reader) ∧ (s.heard.writeRole (.of rq) .reader (keyIndex key) = .reader)) :=
  by refine ⟨S [], F, keyOf Ix.AX_CMD 0, [1], ?_, ?_⟩ <;> decide +kernel

theorem witness_CommandsTouchTheirParts : ∃ (c : Instr) (s t : State) (p : Part), exec c s = .next t ∧ p ∉ touches c :=
  ⟨.girthIdleTimer .saddle, State.reset, State.reset.into State.reset.dev, .vault, rfl, by decide⟩

end Sys2Proof.Tests
end

section
/-! PROOF of O53, the first-fault latch (R337). What the latch shows is named `latchView`; every update that a reaction to a message
makes (the stops of an axis, the safe states, the trips, the log, the fault streams) leaves it, because each writes objects below
`TLY_STATUS` or above `TLY_OVERFLOW_COUNT`, or bits of `TLY_STATUS` above OVERFLOW. -/

namespace Sys2Proof.Machine

/-! ### What the latch shows -/

/-- What the first-fault latch shows (R337): `TLY_FIRST`, LATCHED and OVERFLOW of `TLY_STATUS`, and `TLY_OVERFLOW_COUNT`. -/
structure LatchView where
  first    : Fin 4 → Pattern
  latched  : Bool
  overflow : Bool
  missed   : Pattern

/-- The latch as a device shows it. -/
def Device.latchView (d : Device) : LatchView :=
  ⟨fun k => d.rd Ix.TLY_FIRST k, bit (d.rd Ix.TLY_STATUS) 0, bit (d.rd Ix.TLY_STATUS) 1, d.rd Ix.TLY_OVERFLOW_COUNT⟩

section objects
variable (d : Device)

theorem Device.latchView_congr (e : Device) (h : e.objs = d.objs) : e.latchView = d.latchView := by
  simp only [Device.latchView, Device.rd_congr d e h]

/-- A write of another index leaves the latch. -/
theorem Device.latchView_wr_apart (i s : Nat) (v : Pattern)
    (h : ∀ j k, Ix.TLY_STATUS ≤ j → j ≤ Ix.TLY_OVERFLOW_COUNT → k < 4 → keyOf i s ≠ keyOf j k) :
    (d.wr i s v).latchView = d.latchView := by
  have hrd : ∀ j k, Ix.TLY_STATUS ≤ j → j ≤ Ix.TLY_OVERFLOW_COUNT → k < 4 → (d.wr i s v).rd j k = d.rd j k :=
    fun j k h1 h2 h3 => d.rd_wr_other i s j k v (h j k h1 h2 h3)
  have hf : ∀ k : Fin 4, (d.wr i s v).rd Ix.TLY_FIRST k = d.rd Ix.TLY_FIRST k :=
    fun k => hrd Ix.TLY_FIRST k (by decide) (by decide) k.isLt
  simp only [Device.latchView, hf, hrd Ix.TLY_STATUS 0 (by decide) (by decide) (by decide),
    hrd Ix.TLY_OVERFLOW_COUNT 0 (by decide) (by decide) (by decide)]

/-- The latch stands below every index of the legs, the engines, the networks and the rest of the Tally. -/
@[simp] theorem Device.latchView_wr_add (i n s : Nat) (v : Pattern) (h : Ix.TLY_OVERFLOW_COUNT < i) :
    (d.wr (i + n) s v).latchView = d.latchView := by
  refine d.latchView_wr_apart _ s v fun j k _ h2 h3 e => ?_
  have h4 : (i + n) * 256 + s = j * 256 + k := e
  have h5 : 0x302 < i := h
  have h6 : j ≤ 0x302 := h2
  omega

@[simp] theorem Device.latchView_wr (i s : Nat) (v : Pattern) (h : Ix.TLY_OVERFLOW_COUNT < i) :
    (d.wr i s v).latchView = d.latchView := d.latchView_wr_add i 0 s v h

@[simp] theorem Device.latchView_wr_axIx (i n s : Nat) (v : Pattern) (h : Ix.TLY_OVERFLOW_COUNT < i) :
    (d.wr (axIx i n) s v).latchView = d.latchView := d.latchView_wr_add i _ s v h

/-- The objects of the device, its supplies and its storage stand below the latch. -/
theorem Device.latchView_wr_low (i s : Nat) (v : Pattern) (h : i < Ix.TLY_STATUS) (hs : s < 256) :
    (d.wr i s v).latchView = d.latchView := by
  refine d.latchView_wr_apart i s v fun j k h1 _ h3 => index_ne ?_ hs (by omega)
  exact Nat.ne_of_lt (Nat.lt_of_lt_of_le h h1)

/-- A value of the Tally's status that keeps LATCHED and OVERFLOW leaves the latch. -/
theorem Device.latchView_wr_status (v : Pattern) (h : ∀ k, k < 2 → bit v k = bit (d.rd Ix.TLY_STATUS) k) :
    (d.wr Ix.TLY_STATUS 0 v).latchView = d.latchView := by
  have hk : ∀ k, k < 2 → bit ((d.wr Ix.TLY_STATUS 0 v).rd Ix.TLY_STATUS) k = bit (d.rd Ix.TLY_STATUS) k := by
    intro k hk
    rw [Device.rd_wr_same, widthAt_tlyStatus, bit_mod, h k hk]
    simp [Nat.lt_trans hk (by decide : 2 < 16)]
  have hf : ∀ k : Fin 4, (d.wr Ix.TLY_STATUS 0 v).rd Ix.TLY_FIRST k = d.rd Ix.TLY_FIRST k :=
    fun k => d.rd_wr_other _ _ _ _ v (index_ne (by decide) (by decide) (by omega))
  simp only [Device.latchView, hf, hk 0 (by decide), hk 1 (by decide), d.rd_wr_other Ix.TLY_STATUS 0 Ix.TLY_OVERFLOW_COUNT 0 v (by decide)]

/-- A chain of updates leaves the latch where each of them does. -/
theorem foldl_latchView {α : Type} {f : Device → α → Device} (h : ∀ e x, (f e x).latchView = e.latchView) (xs : List α) :
    (xs.foldl f d).latchView = d.latchView := by
  induction xs generalizing d with
  | nil => rfl
  | cons x xs ih => rw [List.foldl_cons, ih, h]

@[simp] theorem ite_latchView (c : Prop) [Decidable c] (e : Device) :
    (if c then d else e).latchView = if c then d.latchView else e.latchView := apply_ite Device.latchView c d e

theorem ite_latchView_of {c : Prop} [Decidable c] {d e : Device} {v : LatchView} (hd : d.latchView = v) (he : e.latchView = v) :
    (if c then d else e).latchView = v := by
  split
  · exact hd
  · exact he

/-! ### Updates of one part of the device -/

@[simp] theorem Device.onLeg_latchView (l : Nat) (f : Leg → Leg) : (d.onLeg l f).latchView = d.latchView :=
  d.latchView_congr _ (d.onLeg_frame l f).1

@[simp] theorem Device.onEdp_latchView (n : Nat) (f : Edp → Edp) : (d.onEdp n f).latchView = d.latchView := by
  unfold Device.onEdp; split <;> rfl

@[simp] theorem Device.onEngine_latchView (n : Nat) (f : Engine → Engine) : (d.onEngine n f).latchView = d.latchView := by
  unfold Device.onEngine; split <;> rfl

@[simp] theorem Device.onCe_latchView (n : Nat) (f : Ce → Ce) : (d.onCe n f).latchView = d.latchView := d.onEngine_latchView n _
@[simp] theorem Device.onSc_latchView (n : Nat) (f : Sc → Sc) : (d.onSc n f).latchView = d.latchView := d.onEngine_latchView n _
@[simp] theorem Device.onFe_latchView (n : Nat) (f : Fe → Fe) : (d.onFe n f).latchView = d.latchView := d.onEngine_latchView n _
@[simp] theorem Device.onSt_latchView (n : Nat) (f : St → St) : (d.onSt n f).latchView = d.latchView := d.onEngine_latchView n _
@[simp] theorem Device.onPrf_latchView (n : Nat) (f : Prf → Prf) : (d.onPrf n f).latchView = d.latchView := d.onEngine_latchView n _

@[simp] theorem Device.onSvc_latchView (n : Nat) (f : Svc → Svc) : (d.onSvc n f).latchView = d.latchView := by
  unfold Device.onSvc; split <;> rfl

@[simp] theorem Device.onPort_latchView (p : Nat) (f : PortQueue → PortQueue) : (d.onPort p f).latchView = d.latchView := by
  unfold Device.onPort; split <;> rfl

@[simp] theorem Device.post_latchView (now source kind detail : Nat) : (d.post now source kind detail).latchView = d.latchView := rfl
@[simp] theorem Device.drawn_latchView : d.drawn.latchView = d.latchView := rfl

/-! ### The engines of an axis -/

@[simp] theorem Device.setLateRun_latchView (n v : Nat) : (d.setLateRun n v).latchView = d.latchView := by
  simp (disch := decide) [Device.setLateRun]

@[simp] theorem Device.wireDown_latchView (l : Nat) : (d.wireDown l).latchView = d.latchView := by
  unfold Device.wireDown
  rw [foldl_latchView, Device.onLeg_latchView]
  intro e _
  simp (disch := decide)

@[simp] theorem Device.closeOwed_latchView (n seq : Nat) : (d.closeOwed n seq).latchView = d.latchView := by
  simp (disch := decide) [Device.closeOwed, Device.recordSlack]

@[simp] theorem Device.edpStop_latchView (n : Nat) : (d.edpStop n).latchView = d.latchView := by
  simp (disch := decide) [Device.edpStop, foldl_latchView _ fun e l => e.wireDown_latchView l]

@[simp] theorem Device.rebase_latchView (n : Nat) : (d.rebase n).latchView = d.latchView := by
  simp (disch := decide) [Device.rebase]

@[simp] theorem Device.setInteg_latchView (n s : Nat) (v : Int) : (d.setInteg n s v).latchView = d.latchView := by
  simp (disch := decide) [Device.setInteg]

@[simp] theorem Device.setSlotState_latchView (n s st : Nat) : (d.setSlotState n s st).latchView = d.latchView := by
  simp (disch := decide) [Device.setSlotState]

@[simp] theorem Device.finishBank_latchView (n : Nat) : (d.finishBank n).latchView = d.latchView := by
  simp (disch := decide) [Device.finishBank, Device.showModelG]

@[simp] theorem Device.swapBanks_latchView (n : Nat) : (d.swapBanks n).latchView = d.latchView := by
  simp (disch := decide) [Device.swapBanks, Device.useOther, Device.phaseReset]

@[simp] theorem Device.ceStop_latchView (n : Nat) : (d.ceStop n).latchView = d.latchView := by
  have hslot : ∀ (e : Device) (s : Nat), (((e.setInteg n s 0).setSlotState n s 0).wrA Ix.AX_CE_OUT n (s + 1) 0).latchView = e.latchView :=
    fun e s => by simp (disch := decide)
  have hbank : ∀ e : Device, (if (e.ce n).writing then e.finishBank n else e).latchView = e.latchView := fun e => by simp
  have hswap : ∀ e : Device, (if e.swapPending n then e.swapBanks n else e).latchView = e.latchView := fun e => by simp
  unfold Device.ceStop
  dsimp only
  rw [hswap, hbank, Device.onCe_latchView, Device.wrBitA_eq, Device.latchView_wr_axIx _ _ _ _ _ (by decide), foldl_latchView _ hslot]

@[simp] theorem Device.traceAdd_latchView (n : Nat) (special : Bool) (bytes : List Nat) :
    (d.traceAdd n special bytes).latchView = d.latchView := by
  unfold Device.traceAdd
  cases (d.sc n).left <;> simp (disch := decide)

@[simp] theorem Device.views_latchView (n : Nat) (vd vq pd pq : Int) (pending : Bool) :
    (d.views n vd vq pd pq pending).latchView = d.latchView := by
  simp (disch := decide) [Device.views, Device.view]

@[simp] theorem Device.scRest_latchView (n : Nat) : (d.scRest n).latchView = d.latchView := by
  unfold Device.scRest
  cases (d.sc n).pending <;> simp (disch := decide) [Device.tracePending, Device.showPosted, Device.setPredRun]

@[simp] theorem Device.feEnter_latchView (n st : Nat) : (d.feEnter n st).latchView = d.latchView := by
  simp (disch := decide) [Device.feEnter]

@[simp] theorem Device.rederive_latchView (n : Nat) : (d.rederive n).latchView = d.latchView := by
  simp (disch := decide) [Device.rederive]

@[simp] theorem Device.takeFe_latchView (n : Nat) : (d.takeFe n).latchView = d.latchView := by
  simp [Device.takeFe]

@[simp] theorem Device.feStop_latchView (n : Nat) : (d.feStop n).latchView = d.latchView := by
  simp (disch := decide) [Device.feStop]

@[simp] theorem Device.stStop_latchView (n : Nat) (failed : Bool) : (d.stStop n failed).latchView = d.latchView := by
  simp (disch := decide) [Device.stStop, Device.takeSt]

/-! ### The generator -/

@[simp] theorem Device.checkpoint_latchView (now : Nat) (warning : Bool) : (d.checkpoint now warning).latchView = d.latchView := by
  simp only [Device.checkpoint, Device.inc_eq]
  rw [Device.latchView_wr_low _ _ _ _ (by decide) (by decide), Device.latchView_wr_low _ _ _ _ (by decide) (by decide)]
  rfl

@[simp] theorem Device.setPrfState_latchView (n st : Nat) : (d.setPrfState n st).latchView = d.latchView := by
  simp (disch := decide) [Device.setPrfState]

@[simp] theorem Device.changeMode_latchView (n : Nat) (strong : Bool) : (d.changeMode n strong).latchView = d.latchView := by
  unfold Device.changeMode
  rw [foldl_latchView]
  · simp (disch := decide)
  · intro e s
    simp (disch := decide) [Device.onSlot]

@[simp] theorem Device.armMode_latchView (n : Nat) : (d.armMode n).latchView = d.latchView := by
  unfold Device.armMode
  cases d.wantedMode n <;> simp

@[simp] theorem Device.setVel_latchView (n v : Nat) : (d.setVel n v).latchView = d.latchView := by
  simp (disch := decide) [Device.setVel, Device.showVel]

@[simp] theorem Device.emptyQueue_latchView (n : Nat) : (d.emptyQueue n).latchView = d.latchView := by
  simp (disch := decide) [Device.emptyQueue, Device.showQueue]

@[simp] theorem Device.standStill_latchView (now n : Nat) : (d.standStill now n).latchView = d.latchView := by
  simp [Device.standStill]

@[simp] theorem Device.stopping_latchView (now n dec : Nat) : (d.stopping now n dec).latchView = d.latchView := by
  simp [Device.stopping]

@[simp] theorem Device.leaveLine_latchView (now n dec : Nat) : (d.leaveLine now n dec).latchView = d.latchView := by
  simp (disch := decide) [Device.leaveLine, Device.setDir]

@[simp] theorem Device.groupOver_latchView : d.groupOver.latchView = d.latchView := by
  simp only [Device.groupOver, Device.wrBit_eq]
  rw [Device.latchView_wr _ _ _ _ (by decide), Device.latchView_wr _ _ _ _ (by decide), Device.latchView_wr _ _ _ _ (by decide),
    Device.latchView_wr _ _ _ _ (by decide)]
  rfl

@[simp] theorem Device.groupStop_latchView (now : Nat) (dec : Nat → Nat) (but : Option Nat) :
    (d.groupStop now dec but).latchView = d.latchView := by
  unfold Device.groupStop
  rw [Device.groupOver_latchView, foldl_latchView]
  intro e n
  simp

@[simp] theorem Device.groupAbort_latchView (now n : Nat) : (d.groupAbort now n).latchView = d.latchView := by
  simp (disch := decide) [Device.groupAbort]

@[simp] theorem Device.losePosition_latchView (now n cause : Nat) : (d.losePosition now n cause).latchView = d.latchView := by
  simp (disch := decide) [Device.losePosition]

@[simp] theorem Device.takePrf_latchView (n : Nat) : (d.takePrf n).latchView = d.latchView := by
  simp (disch := decide) [Device.takePrf]

@[simp] theorem Device.prfStop_latchView (now n : Nat) (hold : Bool) : (d.prfStop now n hold).latchView = d.latchView := by
  simp (disch := decide) [Device.prfStop]

/-! ### Gates and trips -/

@[simp] theorem Device.gateCommand_latchView (l : Nat) (high on clear : Bool) : (d.gateCommand l high on clear).latchView = d.latchView := by
  simp (disch := decide) [Device.gateCommand]

@[simp] theorem Device.brakeAxis_latchView (n : Nat) (highs : List Nat) : (d.brakeAxis n highs).latchView = d.latchView := by
  unfold Device.brakeAxis
  rw [foldl_latchView]
  intro e l
  simp

@[simp] theorem Device.latchLeg_latchView (force : Bool) (l : Nat) : (d.latchLeg force l).latchView = d.latchView := by
  simp (disch := decide) [Device.latchLeg]

@[simp] theorem Device.tripFirst_latchView (now src l : Nat) : (d.tripFirst now src l).latchView = d.latchView := by
  simp (disch := decide) [Device.tripFirst]

@[simp] theorem Device.tripLatch_latchView (now src l : Nat) : (d.tripLatch now src l).latchView = d.latchView := by
  unfold Device.tripLatch
  cases d.tripLegs src l with
  | nil => rfl
  | cons k ks => rw [foldl_latchView _ fun e k => e.latchLeg_latchView _ k, Device.tripFirst_latchView]

@[simp] theorem Device.sourceOn_latchView (src l : Nat) : (d.sourceOn src l).latchView = d.latchView := by
  unfold Device.sourceOn
  split
  · simp
  · rfl

@[simp] theorem Device.hobbleRise_latchView (now : Nat) (was : Bool) : (d.hobbleRise now was).latchView = d.latchView := by
  simp [Device.hobbleRise, Device.trip]

/-! ### Safe states -/

@[simp] theorem Device.stopAxis_latchView (now n : Nat) (failed : Bool) : (d.stopAxis now n failed).latchView = d.latchView := by
  simp [Device.stopAxis]

@[simp] theorem Device.safeAxis_latchView (now : Nat) (m : Message) (n : Nat) : (d.safeAxis now m n).latchView = d.latchView := by
  simp (disch := decide) [Device.safeAxis]

theorem Device.latchView_wr_devState (v : Pattern) : (d.wr Ix.DEV_STATE 0 v).latchView = d.latchView :=
  d.latchView_wr_low _ _ v (by decide) (by decide)

/-- DEVICE_SAFE, PENDING_FULL and the others above OVERFLOW are no part of the latch. -/
theorem Device.latchView_wrBit_status (k : Nat) (b : Bool) (h : 1 < k) : (d.wrBit Ix.TLY_STATUS 0 k b).latchView = d.latchView :=
  d.latchView_wr_status _ fun j hj => by simp [Nat.ne_of_lt (Nat.lt_of_lt_of_le hj h)]

@[simp] theorem Device.deviceSafe_latchView (now : Nat) (m : Message) : (d.deviceSafe now m).latchView = d.latchView := by
  have hstate : ∀ e : Device, (if e.state == devReady || e.state == devRun then e.wr Ix.DEV_STATE 0 devSafe else e).latchView = e.latchView :=
    fun e => by simp [Device.latchView_wr_devState]
  unfold Device.deviceSafe
  dsimp only
  rw [hstate, Device.latchView_wrBit_status _ _ _ (by decide), Device.latchView_wr _ _ _ _ (by decide),
    foldl_latchView _ fun e n => e.safeAxis_latchView now m n, Device.hobbleRise_latchView]
  rfl

@[simp] theorem Device.takeSafe_latchView (now : Nat) (m : Message) (scope : Option Nat) : (d.takeSafe now m scope).latchView = d.latchView := by
  unfold Device.takeSafe
  cases scope with
  | none => simp
  | some mask => exact foldl_latchView d (fun e n => e.safeAxis_latchView now m n) _

/-! ### Intake -/

@[simp] theorem Device.logPut_latchView (r : LogRecord) : (d.logPut r).latchView = d.latchView := by
  unfold Device.logPut
  split
  · rfl
  · simp (disch := decide)

@[simp] theorem Device.react_latchView (now : Nat) (m : Message) (cls : Nat) (scope : Option Nat) :
    (d.react now m cls scope).latchView = d.latchView := by
  have hsafe : ∀ e : Device, (if cls == 2 then e.takeSafe now m scope else e).latchView = e.latchView := fun e => by simp
  have hfull : ∀ e : Device, (e.wrBit Ix.TLY_STATUS 0 3 true).latchView = e.latchView :=
    fun e => e.latchView_wrBit_status 3 true (by decide)
  unfold Device.react
  dsimp only
  refine ite_latchView_of rfl (ite_latchView_of (hsafe _) (ite_latchView_of (ite_latchView_of ?_ ?_) (hsafe _)))
  · exact (hfull _).trans (hsafe _)
  · exact ((Device.deviceSafe_latchView _ _ _).trans (hfull _)).trans (hsafe _)

@[simp] theorem Device.badWord_latchView (m : Message) : (d.badWord m).latchView = d.latchView := by
  simp [Device.badWord]

@[simp] theorem Device.notice_latchView (m : Message) : (d.notice m).latchView = d.latchView := by
  simp [Device.notice]

/-- Of an intake, only the latch itself changes the latch. -/
theorem Device.intake_latchView (now : Nat) (p : Posted) :
    (d.intake now p).latchView = (d.latchFirst now p.message (classOf p.message)).2.latchView := by
  unfold Device.intake
  simp (disch := decide)

/-! ### The fault streams -/

@[simp] theorem Device.portCount_latchView (p sub : Nat) : (d.portCount p sub).latchView = d.latchView := by
  simp (disch := decide) [Device.portCount]

@[simp] theorem Device.send_latchView (p : Nat) (g : Datagram) : (d.send p g).latchView = d.latchView := by
  simp [Device.send]

@[simp] theorem Device.sendOwn_latchView (now p dest kind : Nat) (high e2e : Bool) (key : Option (List Nat)) (body block : List Nat) :
    (d.sendOwn now p dest kind high e2e key body block).latchView = d.latchView := by
  cases key <;> simp only [Device.sendOwn, Device.send_latchView] <;> rfl

@[simp] theorem Device.streamSend_latchView (now k kind : Nat) (body : List Nat) : (d.streamSend now k kind body).latchView = d.latchView := by
  unfold Device.streamSend
  split
  · simp
  · rw [Device.sendOwn_latchView]
    split <;> rfl

@[simp] theorem Device.streamFaults_latchView (now k : Nat) : (d.streamFaults now k).latchView = d.latchView := by
  unfold Device.streamFaults
  split
  · rfl
  · exact foldl_latchView d (fun e p => e.streamSend_latchView _ _ _ _) _

@[simp] theorem Device.sendFaults_latchView (now : Nat) : (d.sendFaults now).latchView = d.latchView := by
  have hall : ((List.range 8).foldl (fun e k => e.streamFaults now k) d).latchView = d.latchView :=
    foldl_latchView d (fun e k => e.streamFaults_latchView now k) _
  unfold Device.sendFaults
  split
  · rfl
  · generalize (List.range 8).foldl (fun e k => e.streamFaults now k) d = e at hall
    exact hall

/-! ### Agreement -/

@[simp] theorem Device.followAxes_latchView : d.followAxes.latchView = d.latchView := by
  simp [Device.followAxes, Device.latchView_wr_devState]

@[simp] theorem Device.autoRelease_latchView : d.autoRelease.latchView = d.latchView := by
  unfold Device.autoRelease
  split <;> rfl

@[simp] theorem Device.showTally_latchView : d.showTally.latchView = d.latchView := by
  unfold Device.showTally
  rw [Device.latchView_wr _ _ _ _ (by decide)]
  refine d.latchView_wr_status _ fun k hk => ?_
  have h2 : k ≠ 2 := by omega
  have h4 : k ≠ 4 := by omega
  have h5 : k ≠ 5 := by omega
  simp [h2, h4, h5]

@[simp] theorem Device.settle_latchView : d.settle.latchView = d.latchView := by
  simp [Device.settle]

end objects

/-! ### Reading the latch -/

section reading
variable {d e : Device} (h : e.latchView = d.latchView)
include h

theorem rd_first_of_latchView (k : Fin 4) : e.rd Ix.TLY_FIRST k = d.rd Ix.TLY_FIRST k := congrFun (congrArg LatchView.first h) k

theorem latched_of_latchView : bit (e.rd Ix.TLY_STATUS) 0 = bit (d.rd Ix.TLY_STATUS) 0 := congrArg LatchView.latched h

theorem overflow_of_latchView : bit (e.rd Ix.TLY_STATUS) 1 = bit (d.rd Ix.TLY_STATUS) 1 := congrArg LatchView.overflow h

theorem missed_of_latchView : e.rd Ix.TLY_OVERFLOW_COUNT = d.rd Ix.TLY_OVERFLOW_COUNT := congrArg LatchView.missed h

end reading

theorem width_tly_first_1 : widthAt Ix.TLY_FIRST 1 = 32 := by decide +kernel
theorem width_tly_first_2 : widthAt Ix.TLY_FIRST 2 = 64 := by decide +kernel
theorem width_tly_first_3 : widthAt Ix.TLY_FIRST 3 = 8 := by decide +kernel
theorem width_tly_overflow_count_0 : widthAt Ix.TLY_OVERFLOW_COUNT 0 = 32 := by decide +kernel

/-! ### A message is taken (R337) -/

theorem classOf_lt (m : Message) : classOf m < 3 := by
  unfold classOf
  dsimp only
  split
  · decide
  · split <;> decide

/-- While the latch is clear, the message is latched with its Pacer count and class. -/
theorem Device.latchFirst_of_clear (d : Device) (now : Nat) (m : Message) (cls : Nat) (h : bit (d.rd Ix.TLY_STATUS) 0 = false) :
    (d.latchFirst now m cls).2.rd Ix.TLY_FIRST 1 = m % 2 ^ 32 ∧ (d.latchFirst now m cls).2.rd Ix.TLY_FIRST 2 = now % 2 ^ 64
      ∧ (d.latchFirst now m cls).2.rd Ix.TLY_FIRST 3 = cls % 2 ^ 8 ∧ bit ((d.latchFirst now m cls).2.rd Ix.TLY_STATUS) 0 = true := by
  have hd : (d.latchFirst now m cls).2 = (((d.wr Ix.TLY_FIRST 1 m).wr Ix.TLY_FIRST 2 now).wr Ix.TLY_FIRST 3 cls).wrBit Ix.TLY_STATUS 0 0 true := by
    simp [Device.latchFirst, h]
  rw [hd, Device.wrBit_eq]
  refine ⟨?_, ?_, ?_, ?_⟩
  · rw [Device.rd_wr_other _ _ _ _ _ _ (by decide), Device.rd_wr_other _ _ _ _ _ _ (by decide),
      Device.rd_wr_other _ _ _ _ _ _ (by decide), Device.rd_wr_same, width_tly_first_1]
  · rw [Device.rd_wr_other _ _ _ _ _ _ (by decide), Device.rd_wr_other _ _ _ _ _ _ (by decide), Device.rd_wr_same, width_tly_first_2]
  · rw [Device.rd_wr_other _ _ _ _ _ _ (by decide), Device.rd_wr_same, width_tly_first_3]
  · simp

/-- While the latch is set, a message sets OVERFLOW and is counted, and the latch stays. -/
theorem Device.latchFirst_of_set (d : Device) (now : Nat) (m : Message) (cls : Nat) (h : bit (d.rd Ix.TLY_STATUS) 0 = true) :
    (∀ k : Fin 4, (d.latchFirst now m cls).2.rd Ix.TLY_FIRST k = d.rd Ix.TLY_FIRST k)
      ∧ bit ((d.latchFirst now m cls).2.rd Ix.TLY_STATUS) 0 = true ∧ bit ((d.latchFirst now m cls).2.rd Ix.TLY_STATUS) 1 = true
      ∧ (d.latchFirst now m cls).2.rd Ix.TLY_OVERFLOW_COUNT = min (d.rd Ix.TLY_OVERFLOW_COUNT + 1) 0xFFFF_FFFF := by
  have hd : (d.latchFirst now m cls).2 = (d.wrBit Ix.TLY_STATUS 0 1 true).inc Ix.TLY_OVERFLOW_COUNT := by
    simp [Device.latchFirst, h]
  rw [hd, Device.wrBit_eq, Device.inc_eq, width_tly_overflow_count_0]
  refine ⟨fun k => ?_, ?_, ?_, ?_⟩
  · rw [Device.rd_wr_other _ _ _ _ _ _ (index_ne (by decide) (by decide) (by omega)),
      Device.rd_wr_other _ _ _ _ _ _ (index_ne (by decide) (by decide) (by omega))]
  · rw [Device.rd_wr_other _ _ _ _ _ _ (by decide)]
    simp [h]
  · rw [Device.rd_wr_other _ _ _ _ _ _ (by decide)]
    simp
  · rw [Device.rd_wr_same, width_tly_overflow_count_0, satInc_mod, Device.rd_wr_other _ _ _ _ _ _ (by decide)]
    rfl

/-- The device once these messages are left waiting. -/
def Device.leftWaiting (d : Device) (rest : List Posted) : Device := { d with tally := { d.tally with inbox := rest } }

@[simp] theorem Device.leftWaiting_rd (d : Device) (rest : List Posted) (i k : Nat) : (d.leftWaiting rest).rd i k = d.rd i k := rfl

/-- With no detection and no finding of its own, FAULT_INTAKE takes the next message that waits. -/
theorem Device.faultIntake_takes {d : Device} {p : Posted} {rest : List Posted} (now : Nat) (h : takeNext d.tally.inbox = some (p, rest)) :
    d.faultIntake now [] 0 = (d.leftWaiting rest).intake now p := by
  have hbits : maskList 5 (0 % 32 / 4 * 4) = [] := by decide
  have hhealth : d.healthSet now (0 % 32 / 4 * 4) = d := by
    rw [Device.healthSet, hbits]
    rfl
  unfold Device.faultIntake
  rw [hhealth]
  simp only [List.map_nil, List.append_nil, h]
  rfl

/-- FAULT_INTAKE leaves the latch as the message taken makes it. -/
theorem faultIntake_does {s : State} {p : Posted} {rest : List Posted} {P : State → Prop} (hr : s.dev.isRunning = true)
    (ht : takeNext s.dev.tally.inbox = some (p, rest))
    (hp : ∀ t, t.dev.latchView = ((s.dev.leftWaiting rest).latchFirst s.now p.message (classOf p.message)).2.latchView → P t) :
    Does (.faultIntake [] 0) s P := by
  have he : exec (.faultIntake [] 0) s = .next (s.into ((s.dev.faultIntake s.now [] 0).sendFaults s.now)) := by
    rw [exec_faultIntake, execFaultIntake, onPowered_of_running _ _ hr]
  refine ⟨_, he, hp _ ?_⟩
  rw [State.into_dev, Device.settle_latchView, Device.sendFaults_latchView, Device.faultIntake_takes _ ht, Device.intake_latchView]

/-- A message taken while the latch is clear is latched. -/
theorem faultIntake_latches {s : State} {p : Posted} {rest : List Posted} (hr : s.dev.isRunning = true)
    (ht : takeNext s.dev.tally.inbox = some (p, rest)) (hm : p.message < 2 ^ 32) (hclear : s.dev.bitOf Ix.TLY_STATUS 0 = false) :
    Does (.faultIntake [] 0) s fun t =>
      t.dev.rd Ix.TLY_FIRST 1 = p.message ∧ t.dev.rd Ix.TLY_FIRST 2 = s.now ∧ t.dev.rd Ix.TLY_FIRST 3 = classOf p.message
        ∧ t.dev.bitOf Ix.TLY_STATUS 0 = true := by
  obtain ⟨hmsg, hnow, hcls, hset⟩ := (s.dev.leftWaiting rest).latchFirst_of_clear s.now p.message (classOf p.message) hclear
  refine faultIntake_does hr ht fun t hv => ⟨?_, ?_, ?_, ?_⟩
  · exact (rd_first_of_latchView hv 1).trans (hmsg.trans (Nat.mod_eq_of_lt hm))
  · exact (rd_first_of_latchView hv 2).trans (hnow.trans (Nat.mod_eq_of_lt s.pacer.isLt))
  · exact (rd_first_of_latchView hv 3).trans (hcls.trans (Nat.mod_eq_of_lt (Nat.lt_trans (classOf_lt _) (by decide))))
  · exact (latched_of_latchView hv).trans hset

/-- A message taken while the latch is set overflows. -/
theorem faultIntake_overflows {s : State} {p : Posted} {rest : List Posted} (hr : s.dev.isRunning = true)
    (ht : takeNext s.dev.tally.inbox = some (p, rest)) (hset : s.dev.bitOf Ix.TLY_STATUS 0 = true) :
    Does (.faultIntake [] 0) s fun t =>
      (∀ k : Fin 4, t.dev.rd Ix.TLY_FIRST k = s.dev.rd Ix.TLY_FIRST k) ∧ t.dev.bitOf Ix.TLY_STATUS 0 = true ∧ t.dev.bitOf Ix.TLY_STATUS 1 = true
        ∧ t.dev.rd Ix.TLY_OVERFLOW_COUNT = min (s.dev.rd Ix.TLY_OVERFLOW_COUNT + 1) 0xFFFF_FFFF := by
  obtain ⟨hfirst, hlatched, hover, hcount⟩ := (s.dev.leftWaiting rest).latchFirst_of_set s.now p.message (classOf p.message) hset
  exact faultIntake_does hr ht fun t hv =>
    ⟨fun k => (rd_first_of_latchView hv k).trans (hfirst k), (latched_of_latchView hv).trans hlatched,
      (overflow_of_latchView hv).trans hover, (missed_of_latchView hv).trans hcount⟩

/-! ### The latch is cleared (R337) -/

section clearing
variable (d : Device)

/-- A clear writes the latch and the Tally's status alone. -/
theorem Device.rd_firstClear (i k : Nat) (hf : i ≠ Ix.TLY_FIRST) (hs : i ≠ Ix.TLY_STATUS) (hk : k < 256) : d.firstClear.rd i k = d.rd i k := by
  simp only [Device.firstClear, List.foldl_cons, List.foldl_nil, Device.wrBit_eq]
  rw [Device.rd_wr_other _ _ _ _ _ _ (index_ne hs.symm (by decide) hk), Device.rd_wr_other _ _ _ _ _ _ (index_ne hs.symm (by decide) hk),
    Device.rd_wr_other _ _ _ _ _ _ (index_ne hf.symm (by decide) hk), Device.rd_wr_other _ _ _ _ _ _ (index_ne hf.symm (by decide) hk),
    Device.rd_wr_other _ _ _ _ _ _ (index_ne hf.symm (by decide) hk)]

/-- A clear empties the latch. -/
theorem Device.first_firstClear (k : Nat) (hk : k = 1 ∨ k = 2 ∨ k = 3) : d.firstClear.rd Ix.TLY_FIRST k = 0 := by
  simp only [Device.firstClear, List.foldl_cons, List.foldl_nil, Device.wrBit_eq]
  rw [Device.rd_wr_other _ _ _ _ _ _ (index_ne (by decide) (by decide) (by omega)),
    Device.rd_wr_other _ _ _ _ _ _ (index_ne (by decide) (by decide) (by omega))]
  obtain rfl | rfl | rfl := hk
  · rw [Device.rd_wr_other _ _ _ _ _ _ (by decide), Device.rd_wr_other _ _ _ _ _ _ (by decide), Device.rd_wr_same, Nat.zero_mod]
  · rw [Device.rd_wr_other _ _ _ _ _ _ (by decide), Device.rd_wr_same, Nat.zero_mod]
  · rw [Device.rd_wr_same, Nat.zero_mod]

/-- A clear ends LATCHED and OVERFLOW and no other bit of the Tally's status. -/
theorem Device.status_firstClear (k : Nat) (hk : k < 16) :
    bit (d.firstClear.rd Ix.TLY_STATUS) k = (decide (1 < k) && bit (d.rd Ix.TLY_STATUS) k) := by
  have hrd : ∀ (e : Device) (j : Nat) (v : Pattern), j < 256 → (e.wr Ix.TLY_FIRST j v).rd Ix.TLY_STATUS 0 = e.rd Ix.TLY_STATUS 0 :=
    fun e j v hj => e.rd_wr_other _ _ _ _ v (index_ne (by decide) hj (by decide))
  simp only [Device.firstClear, List.foldl_cons, List.foldl_nil, Device.wrBit_eq, Device.rd_wr_same, widthAt_tlyStatus,
    hrd _ 1 0 (by decide), hrd _ 2 0 (by decide), hrd _ 3 0 (by decide), bit_mod, bit_withBit, hk, decide_true, Bool.true_and]
  obtain rfl | rfl | h : k = 0 ∨ k = 1 ∨ 1 < k := by omega
  · rfl
  · rfl
  · simp [h, show k ≠ 0 by omega, show k ≠ 1 by omega]

end clearing

/-! ### ERRN across agreement (R345) -/

theorem Device.releasable_followAxes (d : Device) : d.followAxes.releasable = d.releasable := by
  refine Device.releasable_congr _ _ ?_ (by rw [Device.followAxes_eq]) (by rw [Device.followAxes_eq]) (by rw [Device.followAxes_eq])
    (by rw [Device.rd_followAxes _ _ _ (by decide)]) (Device.rd_followAxes _ _ _ (by decide))
  rw [Device.state_followAxes]
  by_cases h : d.state = devReady ∨ d.state = devRun
  · rw [if_pos h]
    obtain h | h := h <;> rw [h] <;> split <;> rfl
  · rw [if_neg h]

/-- Agreement leaves ERRN where no release is due. -/
theorem Device.errnLow_settle (d : Device) (h : d.releasable = true → bit (d.rd Ix.TLY_ERRN_CFG) 0 = true → d.tally.errnLow = false) :
    d.settle.tally.errnLow = d.tally.errnLow := by
  have ht : d.settle.tally = d.followAxes.autoRelease.tally := rfl
  have hf : d.followAxes.tally = d.tally := by rw [Device.followAxes_eq]
  rw [ht, Device.autoRelease, d.releasable_followAxes, Device.rd_followAxes _ _ _ (by decide)]
  split
  · rename_i hc
    rw [Bool.and_eq_true] at hc
    exact (h hc.1 hc.2).symm
  · rw [hf]

/-! ### A served clear -/

/-- The device that a served clear of the latch leaves, before agreement. -/
def State.firstCleared (s : State) : Device :=
  { s.heard.firstClear with server := { s.heard.firstClear.server with answer := ⟨0, 0, []⟩ } }

/-- An admitted write of 0 to `TLY_FIRST`.01 clears the latch. -/
theorem exec_firstClear_admitted {s : State} {rq : Requester} (ha : s.admits rq Ix.TLY_FIRST 1 = true) :
    exec (.firstClear rq) s = .next (s.into s.firstCleared) :=
  (put_cleared ha (by decide) (by decide +kernel) (by decide +kernel) (by decide +kernel) (by decide)).trans rfl

theorem State.rd_heard (s : State) (i k : Nat) (h : keyOf i k ≠ keyOf Ix.DEV_REQ_COUNT 0) : s.heard.rd i k = s.dev.rd i k :=
  s.dev.rd_wr_other _ _ _ _ _ h.symm

section served
variable (s : State)

theorem State.firstCleared_rd (i k : Nat) : s.firstCleared.rd i k = s.heard.firstClear.rd i k :=
  s.heard.firstClear.rd_congr _ rfl i k

theorem State.rd_firstCleared (i k : Nat) (hf : i ≠ Ix.TLY_FIRST) (hs : i ≠ Ix.TLY_STATUS) (hk : k < 256)
    (hq : keyOf i k ≠ keyOf Ix.DEV_REQ_COUNT 0) : s.firstCleared.rd i k = s.dev.rd i k := by
  rw [s.firstCleared_rd, s.heard.rd_firstClear i k hf hs hk, s.rd_heard i k hq]

theorem State.status_firstCleared (k : Nat) (hk : k < 16) :
    bit (s.firstCleared.rd Ix.TLY_STATUS) k = (decide (1 < k) && bit (s.dev.rd Ix.TLY_STATUS) k) := by
  rw [s.firstCleared_rd, s.heard.status_firstClear k hk, s.rd_heard Ix.TLY_STATUS 0 (by decide)]

/-- After a served clear the latch is empty, and LATCHED and OVERFLOW are 0. -/
theorem State.latch_firstCleared :
    s.firstCleared.settle.rd Ix.TLY_FIRST 1 = 0 ∧ s.firstCleared.settle.rd Ix.TLY_FIRST 2 = 0 ∧ s.firstCleared.settle.rd Ix.TLY_FIRST 3 = 0
      ∧ s.firstCleared.settle.bitOf Ix.TLY_STATUS 0 = false ∧ s.firstCleared.settle.bitOf Ix.TLY_STATUS 1 = false := by
  have hview : s.firstCleared.settle.latchView = s.firstCleared.latchView := s.firstCleared.settle_latchView
  have hzero : ∀ k : Fin 4, k.val = 1 ∨ k.val = 2 ∨ k.val = 3 → s.firstCleared.settle.rd Ix.TLY_FIRST k = 0 := fun k hk => by
    rw [rd_first_of_latchView hview, s.firstCleared_rd, s.heard.first_firstClear k hk]
  refine ⟨hzero 1 (by decide), hzero 2 (by decide), hzero 3 (by decide), ?_, ?_⟩
  · rw [Device.bitOf_eq, latched_of_latchView hview, s.status_firstCleared 0 (by decide)]
    rfl
  · rw [Device.bitOf_eq, overflow_of_latchView hview, s.status_firstCleared 1 (by decide)]
    rfl

/-- A clear makes ERRN no more and no less releasable. -/
theorem State.releasable_firstCleared : s.firstCleared.releasable = s.dev.releasable := by
  refine Device.releasable_congr _ _ ?_ rfl rfl rfl ?_ (s.rd_firstCleared _ _ (by decide) (by decide) (by decide) (by decide))
  · rw [Device.state, s.rd_firstCleared _ _ (by decide) (by decide) (by decide) (by decide), Device.state]
  · rw [s.status_firstCleared 6 (by decide)]
    rfl

theorem State.axisState_firstCleared (n : Nat) : s.firstCleared.settle.axisState n = s.dev.axisState n := by
  have habove : Ix.TLY_FIRST < axIx Ix.AX_STATE n := Nat.lt_of_lt_of_le (by decide) (Nat.le_add_right _ _)
  rw [Device.axisState, Device.axisState, Device.rdA_eq, Device.rdA_eq, Device.rd_settle _ _ _ (axKey_not_follower (by decide))]
  exact s.rd_firstCleared _ _ (Nat.ne_of_gt habove) (Nat.ne_of_gt (Nat.lt_trans (by decide) habove)) (by decide)
    (axKey_ne_low (by decide) (by decide))

/-- Where the device was in agreement, a clear leaves ERRN. -/
theorem State.errnLow_firstCleared (h : s.dev.Settled) : s.firstCleared.settle.tally.errnLow = s.dev.tally.errnLow := by
  refine Device.errnLow_settle _ ?_
  rw [s.releasable_firstCleared, s.rd_firstCleared _ _ (by decide) (by decide) (by decide) (by decide)]
  exact h.released

theorem State.inDeviceSafe_firstCleared : s.firstCleared.settle.inDeviceSafe = s.dev.inDeviceSafe := by
  rw [Device.inDeviceSafe, Device.inDeviceSafe, Device.bitOf_eq, Device.bitOf_eq, Device.settle, Device.tlyStatus_showTally _ 6 (by decide),
    Device.rd_autoRelease, Device.rd_followAxes _ _ _ (by decide), s.status_firstCleared 6 (by decide)]
  rfl

/-- The clear touches no entry, no message that waits and no gate. -/
theorem State.frame_firstCleared : s.firstCleared.settle.tally.entries = s.dev.tally.entries
    ∧ s.firstCleared.settle.tally.inbox = s.dev.tally.inbox ∧ s.firstCleared.settle.gda = s.dev.gda := by
  rw [Device.settle_entries, Device.settle_inbox, Device.settle_gda]
  exact ⟨rfl, rfl, rfl⟩

end served

/-- Settles O53: an intake changes the latch in `latchFirst` alone, everything that reacts to the message keeping it, and a clear
touches `TLY_FIRST`, LATCHED and OVERFLOW alone, so that the next message finds the latch clear. -/
theorem firstFaultLatch : Obligations.FirstFaultLatch := by
  refine ⟨fun s p rest hr ht hm hclear => faultIntake_latches hr ht hm hclear,
    fun s p rest hr ht hset => faultIntake_overflows hr ht hset, fun s rq ha => ⟨_, exec_firstClear_admitted ha, ?_⟩⟩
  obtain ⟨hmsg, htime, hcls, hlatched, hover⟩ := s.latch_firstCleared
  obtain ⟨hentries, hinbox, hgda⟩ := s.frame_firstCleared
  refine ⟨hmsg, htime, hcls, hlatched, hover, rfl, hentries, hinbox, s.inDeviceSafe_firstCleared, hgda,
    fun n => s.axisState_firstCleared n, s.errnLow_firstCleared, fun p rest hr ht hm => ?_⟩
  obtain ⟨u, hu, hfirst, hnow, -⟩ := faultIntake_latches hr ht hm hlatched
  exact ⟨u, hu, hfirst, hnow⟩

end Sys2Proof.Machine
end

section
/-! PROOF of O54, the tamper sensors in Farrier mode (R412). At the level NOTE an alarm counts and posts, and nothing else (R411);
Farrier mode puts every sensor at that level, whatever its level object and its floor say. -/

namespace Sys2Proof.Machine

/-! ### The level of a sensor -/

/-- In Farrier mode neither the level object nor the floor counts. -/
theorem Device.tamperLevel_of_farrier (d : Device) (x : Nat) (h : d.vault.farrier = true) : d.tamperLevel x = 0 := by
  rw [Device.tamperLevel, if_pos h]

/-- The device once an alarm of sensor `x` is counted and posted as NOTE. -/
def Device.noted (d : Device) (now x : Nat) : Device := (d.inc Ix.VLT_TAMPER_COUNT (x + 1)).post now 0xF0 0x40 x

/-- An alarm of a sensor that acts at NOTE once it is counted is noted. -/
theorem Device.tamper_of_note (d : Device) (now x : Nat) (h : (d.inc Ix.VLT_TAMPER_COUNT (x + 1)).tamperLevel x = 0) :
    d.tamper now x = d.noted now x := by
  simp only [Device.tamper, h, beq_self_eq_true, if_true, Device.noted]

/-- Counting an alarm does not end Farrier mode, so an alarm in that mode is noted. -/
theorem Device.tamper_of_farrier (d : Device) (now x : Nat) (h : d.vault.farrier = true) : d.tamper now x = d.noted now x :=
  d.tamper_of_note now x (Device.tamperLevel_of_farrier _ x h)

/-! ### What a noted alarm leaves -/

theorem widthAt_tamperCount (x : Fin 6) : widthAt Ix.VLT_TAMPER_COUNT (x + 1) = 32 := by revert x; decide +kernel

theorem tamperCount_not_follower (x : Fin 6) : keyOf Ix.VLT_TAMPER_COUNT (x + 1) ∉ followers := by revert x; decide

/-- The alarm's own counter goes up by one and saturates. -/
theorem Device.count_noted (d : Device) (now : Nat) (x : Fin 6) :
    (d.noted now x).rd Ix.VLT_TAMPER_COUNT (x + 1) = min (d.rd Ix.VLT_TAMPER_COUNT (x + 1) + 1) 0xFFFF_FFFF := by
  rw [Device.noted, Device.post_rd, Device.inc_eq, Device.rd_wr_same, widthAt_tamperCount]
  exact satInc_mod32 _

/-- No other object changes. -/
theorem Device.rd_noted (d : Device) (now x i k : Nat) (h : keyOf i k ∉ [keyOf Ix.VLT_TAMPER_COUNT (x + 1)]) :
    (d.noted now x).rd i k = d.rd i k := by
  rw [Device.noted, Device.post_rd]
  exact d.rd_wr_other _ _ _ _ _ fun e => h (List.mem_singleton.mpr e.symm)

/-- The server with its sessions, the Vault with its slots, the fuses, the Ledger and the tables stay as they were. -/
theorem Device.parts_noted (d : Device) (now x : Nat) :
    (d.noted now x).server = d.server ∧ (d.noted now x).vault = d.vault ∧ (d.noted now x).otp = d.otp
      ∧ (d.noted now x).ledger = d.ledger ∧ (d.noted now x).tabs = d.tabs := ⟨rfl, rfl, rfl, rfl, rfl⟩

/-- Settles O54: in Farrier mode the alarm is noted, which counts it, posts it and leaves the rest; agreement then changes followers
alone. -/
theorem farrierModeNotes : Obligations.FarrierModeNotes := by
  intro s x hr hf
  have he : exec (.tamperAlarm x) s = .next (s.into (s.dev.noted s.now x)) := by
    rw [exec_tamperAlarm, execTamperAlarm, onRunning_of _ _ hr, Device.tamper_of_farrier _ _ _ hf]
  refine ⟨_, he, ?_, ?_, Device.settle_sameObjects _ _ _ (s.dev.rd_noted s.now x), ?_⟩
  · rw [State.Reports, State.into_dev, Device.settle_inbox]
    rfl
  · rw [State.into_dev, Device.rd_settle _ _ _ (tamperCount_not_follower x), s.dev.count_noted s.now x]
  · rw [State.into_dev, Device.settle_server, Device.settle_vault, Device.settle_otp, Device.settle_ledger, Device.settle_tabs]
    exact s.dev.parts_noted s.now x

end Sys2Proof.Machine
end
